-- ==== Sys2Proof/Word.lean ====
section
/-! DEFINITION. The word and byte of the machine: a BAR0 register is a 32-bit word (R4), memory is read in 8-bit bytes. -/

namespace Sys2Proof

/-- A register word (R4). -/
abbrev Word := BitVec 32

/-- A memory byte (spec/00_scope.md, Numbers and units). -/
abbrev Byte := BitVec 8

end Sys2Proof
end

