-- ==== Sys2Proof/Syntax.lean ====
section
/-! DEFINITION. The commands of the HN7484: one constructor of `Instr` for each row of spec/opcode_table.json, in the table's
order but for two of its last rows. The table gives the rows no operands; a row's operands here are what its rule makes it depend on: the numbered
resource it names, the value a host writes, and what the device samples from outside at that moment (a level, a count, a
packet). A numbered resource is a `Fin`, a register value a bit vector, a measured quantity a `Nat` or an `Int`. -/

namespace Sys2Proof

/-- The accesses to BAR0 that R352 turns away. -/
inductive BadAccess where
  | partialWrite   -- byte enables that do not cover whole registers
  | longWrite      -- longer than 8 bytes
  | badRead        -- length, alignment or byte enables outside R352
  | poisonedWrite  -- a write with poisoned data
  deriving DecidableEq, Repr

/-- A block of an upstream lane (R94): a data block of 8 payload bytes, or a control block with its type and its bytes 1 to 7; byte 0,
and byte 1 of a control block, stand in the lowest bits. -/
inductive UpBlock where
  | data (bytes : BitVec 64)
  | ctrl (type : BitVec 8) (bytes : BitVec 56)
  deriving DecidableEq, Repr

/-- The converter faults of R268. -/
inductive ConvFault where
  | ovp | ilim | uvlo | loss
  deriving DecidableEq, Repr

/-- The width of the PCI Express link, in lanes (R351). -/
inductive LinkWidth where
  | x1
  | x2
  | x4
  deriving DecidableEq, Repr

/-- The rate of the PCI Express link: 2.5, 5, 8 or 16 GT/s (R351). -/
inductive LinkSpeed where
  | gt2
  | gt5
  | gt8
  | gt16
  deriving DecidableEq, Repr

/-- What ends a descriptor fetch in an error (R356). -/
inductive FetchErr where
  | ur | ca | timeout | poison
  deriving DecidableEq, Repr

/-- A conversion's raw outcome (R309, R311): the count, whether the PGA input stage left its linear range, and whether an
excitation source left regulation (R294). -/
structure RawConv where
  count : Int
  pgaOver : Bool
  compl : Bool
  deriving DecidableEq, Repr

/-- The header fields of a ring frame that a device acts on (R386, R387); `port` is the port it arrives on. -/
structure RingHdr where
  port : Fin 2
  bcast : Bool
  dest : BitVec 11
  src : BitVec 11
  hops : BitVec 11
  seq : BitVec 8
  deriving DecidableEq, Repr

/-- One tick carried by a LOG frame (R386, R392): its direction and how long after the interval's start it was taken, in 1/16 ns. -/
structure RingTick where
  reverse : Bool
  offset : BitVec 14
  deriving DecidableEq, Repr

/-- What a MEASURE frame says (R386, R391, notes/assumptions/105.md): a request with its transmit timestamp, which the device answers
after `turnaround`; the echo, with the round trip as its receiver measures it; a report of the latency of the downstream link, 0 of a
device that has none; the lead's word whether a link that has trained again goes back into service (R398). Times in 1/16 ns. -/
inductive RingMeasure where
  | request (stamp : BitVec 64) (turnaround : BitVec 32)
  | echo (turnaround : BitVec 32) (roundTrip : Nat)
  | report (latency : BitVec 32)
  | verdict (ok : Bool)
  deriving DecidableEq, Repr

/-- A step of a ring port's training (R102 to R105, R383): clock lock, block lock, an eye scan with its result (repeated while UP), or a
relock after loss of lock. -/
inductive PortStep where
  | cdrLock | blockLock
  | eyeScan (eye : Fin 65)
  | relocked
  deriving DecidableEq, Repr

/-- One entry of a height profile (R250). -/
structure ProfEntry where
  height : Int := 0
  conf : Nat := 0
  flags : Nat := 1
  deriving DecidableEq, Repr

/-- What one delay line showed in step TIMING (R404, R405): the hits of its 288 cells, those of the 256 cells kept, and of each timing
pulse the whole nanoseconds and the cell in which it fell. -/
structure LineHits where
  wide : List Nat
  kept : List Nat
  pulses : List (Nat × Fin 256)
  deriving DecidableEq, Repr

/-- What one converter read in step LADDER (R404): the code of the declared voltage at each tap on RANGE 1, the code with the inputs
shorted, and, corrected, the codes at -5 V, 0 V, +2.5 V and +5 V. -/
structure LadderRead where
  taps : List Int
  short : Int
  resid : List Int
  deriving DecidableEq, Repr

/-- What a step of a factory run measured (R401, R404, R405), its references first: the mean period in ps, the voltage in µV, the resistance
in mΩ. TIMING has five groups of 13 lines; EXCITATION the readings of the four sources at 100 µA and at 2 mA under each of 256
combinations of idle groups, then each source's current in nA at every code of its fine trim, set to 100 µA; SINKS each sink's current in nA at each of 256 codes;
CHOPPER the voltage in µV at which each comparator changes at each of 64 selections. -/
inductive CalMeasure where
  | lanes
  | timing (ps : Nat) (groups : List (List LineHits))
  | ladder (uv : Nat) (conv : List LadderRead)
  | excitation (mohm uv : Nat) (combos fine : List (List Nat))
  | sinks (uv : Nat) (codes : List (List Nat))
  | chopper (uv : Nat) (offs : List (List Int))
  deriving DecidableEq, Repr

/-- The commands (spec/opcode_table.json). -/
inductive Instr where
  -- host accesses
  | registerWrite (off : BitVec 25) (v : Word) (hi : Option Word)
  | wideReadCapture (off : BitVec 25) (more : Fin 4)
  | rcFieldRead (off : BitVec 25) (more : Fin 4)
  | bar0BadAccess (k : BadAccess)
  | bar2Write (addr : BitVec 34) (data : List Byte)
  | bar2Read (addr : BitVec 34) (len : Nat)
  -- harness
  | load
  | commit
  | abort
  | panelReset (p : Fin 16)
  | clearError
  | fetchDone (flashOk : Bool)
  | verifyDone
  | panelQuiesced (p : Fin 16)
  | quiesceTimeout
  | swapDone
  -- the Log
  | encoderSample (m : Fin 2) (a b z : Bool) (now : Nat)
  | chronoLogTick (logs : BitVec 4)
  | logPreset (n : Fin 4) (hi : Word)
  | logSrcWrite (n : Fin 4) (v : Word)
  | tickdivWrite (n : Fin 4) (v : Word)
  | pitchWrite (n : Fin 4) (v : Word)
  | lineGenStart (n : Fin 4)
  | lineGenStop (n : Fin 4)
  | wpPosApply (i : Fin 128) (hi : Word)
  | wpModeWrite (i : Fin 128) (v : Word)
  | chronoSet (hi : Word)
  | logPathTimeout (n : Fin 4)
  -- line sensors and lanes
  | settleLineStart (c : Fin 12)
  | lineEventEdge (c : Fin 12)
  | templateEnd (c : Fin 12)
  | channelEnable (c : Fin 12)
  | channelDisable (c : Fin 12)
  | headWrite (l : Fin 8) (head : Fin 4) (addr : BitVec 12)
  | headRead (l : Fin 8) (head : Fin 4) (addr : BitVec 12)
  | resetHead (l : Fin 8) (head : Fin 4)
  | headReadTimeout (l : Fin 8)
  | upstreamPacket (l : Fin 8) (blocks : List UpBlock)
  | lineCloseTimeout (c : Fin 12)
  | laneEnable (l : Fin 8)
  | laneRetrain (l : Fin 8)
  | laneCdrLock (l : Fin 8)
  | laneBlockLock (l : Fin 8)
  | laneEyescanDone (l : Fin 8) (eye : Fin 65)
  | laneWeakRetry (l : Fin 8)
  | laneEyeRescan (l : Fin 8) (eye : Fin 65)
  | laneLossOfLock (l : Fin 8)
  | laneRelock (l : Fin 8)
  | laneRelockTimeout (l : Fin 8)
  | exposureWrite (c : Fin 12) (short : Bool) (v : Word)
  -- correction, geometry, views
  | inlineLineProcess
  | memoryPathTake
  | captureStart (ch : Fin 16) (white force : Bool)
  | captureAbort
  | warmRestart (c : Fin 12)
  | shadingWindowWrite (off : BitVec 22) (v : Word)
  | ipcParamWrite (off : BitVec 25) (v : Word)
  | shadingInitDone
  | viewFlush (v : Fin 64)
  | firWrite (p : Fin 64) (k : Fin 4) (v : Word)
  | taggedWrite (off : BitVec 25) (v : Word)
  -- axes
  | plannerTick
  | microstepIssue (a : Fin 4)
  | axisStop (a : Fin 4)
  | axisHome (a : Fin 4)
  | axisModeWrite (a : Fin 4) (m : Fin 4)
  | axisEnable (a : Fin 4)
  | targetWrite (a : Fin 4) (v : Word)
  | dmaxWrite (a : Fin 4) (jmax : Bool) (v : Word)
  | switchEdge (a : Fin 4) (la lb : Bool) (now : Nat)
  | lineGridWrite (a : Fin 4) (origin : Bool) (v : Word)
  | chopperBlankEnd (a : Fin 4) (coil : Fin 2)
  | chopperThreshold (a : Fin 4) (coil : Fin 2)
  | chopperMaxon (a : Fin 4) (coil : Fin 2)
  | chopperOffEnd (a : Fin 4) (coil : Fin 2)
  | fastDecayEnd (a : Fin 4) (coil : Fin 2)
  | overcurrent (a : Fin 4) (coil : Fin 2)
  | adaptPassageEnd (a : Fin 4) (coil : Fin 2) (sumMeas : Int)
  | holdCurrentTimeout (a : Fin 4)
  | offsetClear (a : Fin 4)
  | stallClear (a : Fin 4)
  | axisEncoderEdge (a : Fin 4) (ea eb : Bool) (now : Nat)
  -- emitter
  | emitterArm
  | emitterDisarm
  | armHoldoffEnd
  | safeOkTimer
  | phaseStart
  | steerStrobe (level : Bool)
  | shotFire
  | frameEnd
  | safeLow
  | emitFaultLow (held : Bool)
  | exposureBinEnd
  | blackoutEnd
  -- timing, histograms, fixes
  | startEdge (t : Nat)
  | startWindowExpiry
  | timingEdge (i : Fin 64) (t : Nat)
  | measurementClose
  | coarseAnalysisDone
  | zoomAnalysisDone
  | freezeSet
  | freezeClear
  | calHit (cell : Fin 256) (t : Nat)
  | calConverterDone
  | calTableStale (i : Fin 65)
  | rateBinEnd
  -- illumination
  | sinkPeriodStart (k : Fin 24)
  | sinkOnPhase (k : Fin 24)
  | sinkMeasure (k : Fin 24) (mv : Nat) (reg : Bool)
  | headroomUpdate
  | convEnable
  | convPgood
  | convOvervoltage
  | convFault (cause : ConvFault)
  | lampOffWrite (off : Bool)
  | lampClr
  | dissBinEnd
  | dissClr
  | shortTest
  | shortTestDone (adj gnd : BitVec 24)
  | peStart (e : Fin 16)
  | peStop (e : Fin 16)
  | peWaitEnd (e : Fin 16) (units : Nat)
  | chainSend (ch : Fin 2)
  | chainRefresh (ch : Fin 2)
  | chainReturn (ch : Fin 2) (ret : List Byte)
  | chainReturnTimeout (ch : Fin 2)
  | chainGapEnd (ch : Fin 2)
  | chainStrobeSend (ch : Fin 2)
  | awlPulse (k : Fin 24) (mv : Nat) (reg : Bool)
  | sinkUnverified (k : Fin 24)
  -- converters and front end
  | swtrigRegular (cv : Fin 2)
  | swtrigInjected (cv : Fin 2)
  | cnvTimerTrigger (cv : Fin 2) (q : Fin 2)
  | triggerDelayEnd (cv : Fin 2) (q : Fin 2)
  | settlingEnd (cv : Fin 2)
  | conversionDone (cv : Fin 2) (r : RawConv)
  | openWireSample (cv : Fin 2) (mv : Nat)
  | openWirePulseEnd (cv : Fin 2)
  | rangeWrite (k : Fin 32) (r : Fin 16)
  | excWaitResume (cv : Fin 2)
  | pairJoinTimeout
  | mainsEdge (period : Nat)
  | mainsTimeout
  | sourceStale (t : Fin 16)
  | tsUnlatch (m : BitVec 16)
  | polyApply (m : BitVec 8)
  | converterDisable (cv : Fin 2)
  -- queues
  | queuePop (q : Fin 64)
  | mark (q : Fin 64)
  | rewind (q : Fin 64)
  | release (q : Fin 64) (n : BitVec 16)
  | flush (q : Fin 64)
  | spillWriteDone (q : Fin 64) (n : Nat)
  | spillReadDone (q : Fin 64) (n : Nat)
  -- host link
  | dmaTailWrite (ch : Fin 8) (v : Word)
  | dmaDescFetch (ch : Fin 8)
  | dmaDescFetched (ch : Fin 8) (w0 w1 : BitVec 64)
  | dmaFetchError (ch : Fin 8) (e : FetchErr)
  | dmaDataWrite (ch : Fin 8) (q : Fin 64)
  | dmaDescComplete (ch : Fin 8) (q : Fin 64)
  | dmaDeadline (ch : Fin 8) (q : Fin 64)
  | dmaEnable (ch : Fin 8)
  | dmaDisable (ch : Fin 8)
  | pcieLinkChange (up l1 : Bool) (width : LinkWidth) (speed : LinkSpeed)
  | msixUnmask (v : Fin 64) (func mask : Bool)
  | cinch (v : Word)
  | cinchStatRead
  | alineCtrlWrite (v : Word)
  | alineLineWrite (v : Word)
  -- reflex port: table entry written and the value on D15 to D0
  | reflexNone (e : Fin 256) (v : BitVec 16)
  | reflexPauseScan (e : Fin 256) (v : BitVec 16)
  | reflexFireFrame (e : Fin 256) (v : BitVec 16)
  | reflexConvert (e : Fin 256) (v : BitVec 16)
  | reflexApplySet (e : Fin 256) (v : BitVec 16)
  | reflexPeStep (e : Fin 256) (v : BitVec 16)
  | reflexStrobe (e : Fin 256) (v : BitVec 16)
  | reflexHal (e : Fin 256) (v : BitVec 16)
  | reflexEvent (e : Fin 256) (v : BitVec 16)
  | reflexWriteIgnored (e : Fin 256) (v : BitVec 16)
  | reflexLogRead (e : Fin 256) (clk : Bool)
  | perst
  -- events
  | holdoffEnd (v : Fin 64)
  | pendingClear (w : Fin 9) (m : Word)
  | evtEnableWrite (w : Fin 9) (v : Word)
  -- bridle ring
  | ringEnable
  | ringRetrain
  | ringPortTrained (p : Fin 2) (step : PortStep)
  | ringPortLoss (p : Fin 2)
  | enumFrame (h : RingHdr) (next : BitVec 11) (own : Bool)
  | enumTimeout
  | measureFrame (h : RingHdr) (m : RingMeasure)
  | timeFrame (h : RingHdr) (lead : BitVec 64) (corr : Nat) (latency residence : Nat) (p : BitVec 20)
  | timeSend
  | logFrame (h : RingHdr) (log : Fin 4) (value : BitVec 48) (start : Nat) (ticks : List RingTick)
  | logFrameSend
  | ringLogTick (n : Fin 4)
  | codeFrame (h : RingHdr) (family : BitVec 11)
  | codeHoldExpiry
  | tunReqFrame (h : RingHdr) (off : BitVec 25) (data : Word) (write : Bool)
  | tunRspFrame (h : RingHdr) (status data : Word)
  | eventFrame (h : RingHdr) (source : Fin 288) (count : Word) (chrono : BitVec 64)
  | edgeFrame (h : RingHdr) (f : Fin 16) (part : Fin 8) (frame : Word) (stamp : BitVec 64) (entries : List ProfEntry)
  | ringFrameBad (h : RingHdr)
  | tunRead
  | tunWrite
  | tunTimeout
  -- calibration, logbook
  | calStart
  | calAbort
  | calStepDone (m : CalMeasure)
  | recordWriteDone (ok : Bool)
  | logbookSave
  | logbookPeriodicSave
  | pfwAssert
  | rtcSet (v : Word)
  | rtcStop
  -- security
  | fwLoad
  | svnCommit
  | regRoot (otpOk : Bool)
  | lockKoryr
  | quote
  | quoteReady
  | chal
  | unlock
  -- power, clocks, resets
  | wdtWarn (core : Fin 4)
  | watchdogExpiry (core : Fin 4)
  | porst (newlyUp gpio12 : Bool)
  | wrst
  | dramTrainingDone (rate : Nat)
  | standbyRequest
  | d3hotEntry
  | standbyEntryDone
  | standbyTimeout
  | wakeHost
  | wakeD0
  | wakeGpio (n : Fin 14) (rising : Bool)
  | wakeAlarm
  | wakeComplete
  | d2dFault
  | d2dRetrained
  | thermalSample (core field : Int)
  | strobeReturn (ch : Fin 2) (data : Byte) (ok : Bool)
  | ringPortRetry (p : Fin 2)
  | upstreamPacketCut (l : Fin 8) (blocks : List UpBlock)
  | pgoodLost
  | vledBelowVmax
  deriving DecidableEq, Repr

end Sys2Proof
end

