-- ==== Sys2Proof/Config.lean ====
section
/-! DEFINITION. What the spec leaves open. Every constant here is opaque: it has no body, so no proof can use a value of it, and a
claim holds whatever it is. A free value is taken fresh by applying the constant to `State.fresh` (notes/assumptions/7.md); a
function of operands stands for an external standard's function or for a key's secret (notes/assumptions/8.md). -/

namespace Sys2Proof.Config

/-- A free value, taken fresh each time (notes/assumptions/7.md). -/
opaque freeValue : Nat → Nat

/-- The Koryr root public key but its OID, word `n` from 1 on: root and public seed (R460). -/
opaque koryrRoot : Nat → Word

/-- The signature of an endorsement under the Koryr root: index, randomness, WOTS+ signature, path (R427, R460). -/
opaque endorsement : List Byte → Vector Byte 2820

/-- The public seed of the identity key (R425). -/
opaque identitySeed : BitVec 256

/-- The secret start of a chain of one of the identity's one-time keys (R425). -/
opaque identitySecret : Nat → Nat → BitVec 256

/-- The secret from which the randomness of an identity signature comes (R425). -/
opaque identityPrf : BitVec 256

/-- The mid-scale code of an excitation source's fine trim (R413), of which no width is given. -/
opaque fineMid : BitVec 32

/-- The least eye with which a ring port is UP and not WEAK (R102, R383): the ring chapter gives ports no EYE_MIN of their own. -/
opaque portEyeMin : Fin 65

/-- The binary32 value that the device gives on curve `c` at `x` (binary32 bits), with the coefficients or the cold junction it depends
on: which of the values that R299 allows, or, where the manual states none, any value (notes/assumptions/8.md, 102.md). -/
opaque curve : Nat → List Nat → Nat → Nat

/-- The reference function of thermocouple curve `c` (IEC 60584-1; R299, R300): the emf in 1e-15 V at a temperature in 1e-6 °C. -/
opaque refEmf : Nat → Int → Int

/-- The range of thermocouple curve `c` in IEC 60584-1, in 1e-6 °C (R299). -/
opaque refRange : Nat → Int × Int

end Sys2Proof.Config
end

