-- ==== Sys2Proof/Machine/Float.lean ====
section
/-! DEFINITION. The binary32 and binary64 arithmetic that the measurement front end needs (R299, R301, R305): exact dyadic
values `±m * 2^e` with a signed zero, rounding to nearest even, and comparison. -/

namespace Sys2Proof.Machine

/-- A finite dyadic value `m * 2^e` with its sign (a zero has one too), an infinity with its sign, or not a number. -/
inductive FVal where
  | fin (neg : Bool) (m : Nat) (e : Int)
  | inf (neg : Bool)
  | nan
  deriving DecidableEq, Repr

/-- The quiet NaN of R289. -/
def f32NaN : Nat := 0x7FC00000

/-- The value of a binary32 bit pattern. -/
def f32Dec (b : Nat) : FVal :=
  let neg : Bool := b / 2147483648 % 2 == 1
  let ex : Nat := b / 8388608 % 256
  let fr : Nat := b % 8388608
  if ex = 255 then (if fr = 0 then FVal.inf neg else FVal.nan)
  else if ex = 0 then FVal.fin neg fr (-149)
  else FVal.fin neg (fr + 8388608) (Int.ofNat ex - 150)

/-- `n / 2^k` rounded to nearest, ties to even. -/
def rneShift (n k : Nat) : Nat :=
  let q := n / 2 ^ k
  let r := n % 2 ^ k
  if k = 0 then n
  else if r * 2 > 2 ^ k then q + 1
  else if r * 2 = 2 ^ k then q + q % 2
  else q

/-- A magnitude rounded to `p` significant bits, with least exponent `emin` (ties to even). -/
def roundDyadic (p : Nat) (emin : Int) (m : Nat) (e : Int) : Nat × Int :=
  let len := if m = 0 then 0 else Nat.log2 m + 1
  let drop := max ((len : Int) - p) (emin - e)
  if drop ≤ 0 then (m, e) else (rneShift m drop.toNat, e + drop)

/-- A value rounded to binary64 (53 bits, least exponent -1074; R301). -/
def roundF64 : FVal → FVal
  | .fin neg m e =>
    let (m', e') := roundDyadic 53 (-1074) m e
    if m' * 2 ^ (e' + 1074).toNat ≥ 2 ^ 2098 then .inf neg else .fin neg m' e'
  | v => v

/-- The binary32 bit pattern nearest to a value (24 bits, least exponent -149). -/
def f32Enc : FVal → Nat
  | .nan => f32NaN
  | .inf neg => if neg then 0xFF800000 else 0x7F800000
  | .fin neg m e =>
    let (n, e') := roundDyadic 24 (-149) m e
    let sg := if neg then 2 ^ 31 else 0
    if n = 0 then sg
    else
      let len := Nat.log2 n + 1
      -- normalise to 24 bits, or to exponent -149
      let up := min (24 - len : Int) (e' + 149)
      let n' := if up ≥ 0 then n * 2 ^ up.toNat else n / 2 ^ (-up).toNat
      let ex := e' - up
      if n' < 2 ^ 23 then sg + n'
      else
        let be := ex + 150
        if be ≥ 255 then sg + 0x7F800000 else sg + be.toNat * 2 ^ 23 + (n' - 2 ^ 23)

/-- The quotient `n / d` with more than 80 significant bits and a sticky last bit, so that rounding it once is rounding the
quotient. -/
def ratVal (neg : Bool) (n d : Nat) : FVal :=
  let sh := 90 + Nat.log2 d - min (Nat.log2 n) (90 + Nat.log2 d)
  let q := n * 2 ^ sh / d
  .fin neg (2 * q + (if n * 2 ^ sh % d = 0 then 0 else 1)) (-(sh : Int) - 1)

/-- The quotient of two integers, the second not 0. -/
def ratInt (n d : Int) : FVal := ratVal (decide (n < 0) != decide (d < 0)) n.natAbs d.natAbs

/-- Exact product of two values. -/
def fMul : FVal → FVal → FVal
  | .nan, _ => .nan
  | _, .nan => .nan
  | .fin a m e, .fin b n f => .fin (a != b) (m * n) (e + f)
  | .inf a, .inf b => .inf (a != b)
  | .inf a, .fin b n _ => if n = 0 then .nan else .inf (a != b)
  | .fin a m _, .inf b => if m = 0 then .nan else .inf (a != b)

/-- The signed magnitude of a finite value on the exponent `g`, not above its own. -/
def fInt (neg : Bool) (m : Nat) (e g : Int) : Int := (if neg then -1 else 1) * ((m * 2 ^ (e - g).toNat : Nat) : Int)

/-- Exact sum of two values; an exact zero of unlike signs is positive. -/
def fAdd : FVal → FVal → FVal
  | .nan, _ => .nan
  | _, .nan => .nan
  | .inf a, .inf b => if a = b then .inf a else .nan
  | .inf a, .fin _ _ _ => .inf a
  | .fin _ _ _, .inf b => .inf b
  | .fin a m e, .fin b n f =>
    let g := min e f
    let v := fInt a m e g + fInt b n f g
    .fin (if v = 0 then a && b else decide (v < 0)) v.natAbs g

/-- `x < y`; false when either is not a number. -/
def fLt : FVal → FVal → Bool
  | .nan, _ => false
  | _, .nan => false
  | .inf a, .inf b => a && !b
  | .inf a, .fin _ _ _ => a
  | .fin _ _ _, .inf b => !b
  | .fin a m e, .fin b n f => decide (fInt a m e (min e f) < fInt b n f (min e f))

/-- The negation of a value. -/
def fNeg : FVal → FVal
  | .fin a m e => .fin (!a) m e
  | .inf a => .inf !a
  | .nan => .nan

/-- The magnitude of a value. -/
def fAbs : FVal → FVal
  | .fin _ m e => .fin false m e
  | .inf _ => .inf false
  | .nan => .nan

/-- The greatest integer not above the magnitude of `v` times `k`, with the sign of `v`; none where `v` is not finite. -/
def fScale (k : Nat) : FVal → Option Int
  | .fin a m e =>
    let n := if e < 0 then m * k / 2 ^ (-e).toNat else m * k * 2 ^ e.toNat
    some (if a then -(n : Int) else n)
  | _ => none

/-- `x < y` on binary32 patterns. -/
def f32Lt (x y : Nat) : Bool := fLt (f32Dec x) (f32Dec y)

/-- Whether a binary32 pattern is not a number. -/
def f32IsNaN (x : Nat) : Bool := decide (f32Dec x = .nan)

end Sys2Proof.Machine
end

