-- ==== Sys2Proof/Machine/Curve.lean ====
section
/-! DEFINITION. The curves of the measurement front end (spec/14_front_end.md, R299, R300): the reference functions, their inversion,
and the clamp to a curve's range. Temperatures are integers in millionths of a degree. -/

namespace Sys2Proof.Machine

/-- Whether curve `c` is a thermocouple's (R300). -/
def isThermo (c : Nat) : Bool := decide (10 ≤ c) && decide (c ≤ 15)

/-- Whether a curve number stands in the curve table (R299). -/
def curveKnown (c : Nat) : Bool := c == 0 || (decide (1 ≤ c) && decide (c ≤ 3)) || isThermo c || c == 20 || c == 100

/-- The range of a curve (R299); a thermocouple's is that of IEC 60584-1, which the manual does not repeat
(notes/assumptions/8.md). -/
def curveRange (c : Nat) : Int × Int :=
  match c with
  | 1 | 2 => (-200000000, 850000000)
  | 3 => (-60000000, 180000000)
  | 20 => (-55000000, 200000000)
  | _ => Config.refRange c

/-- The resistance at `t` over that at 0 °C, times `10^57`: IEC 60751 for curves 1 and 2, of which the manual gives the quadratic in its
example and PRESUMED below 0 °C the coefficient -4.183e-12 (notes/assumptions/102.md), and the polynomial of curve 3 (R299). -/
def rtdRatio (c : Nat) (t : Int) : Int :=
  if c = 3 then 10 ^ 57 + 5485 * 10 ^ 45 * t + 6650 * 10 ^ 36 * t ^ 2 + 2805 * 10 ^ 19 * t ^ 4 - 20000 * t ^ 6
  else 10 ^ 57 + 39083 * 10 ^ 44 * t - 5775 * 10 ^ 35 * t ^ 2 - (if t < 0 then 4183 * 10 ^ 18 * t ^ 3 * (t - 100000000) else 0)

/-- The reference function of an inverted curve: the ratio of resistances, or the emf in units of 1e-15 V (R299, R300). -/
def refFn (c : Nat) (t : Int) : Int := if isThermo c then Config.refEmf c t else rtdRatio c t

/-- What `x` is on the scale of `refFn`; an infinite `x` lies beyond every value. -/
def refScale (c : Nat) (x : FVal) : Int :=
  let k := if isThermo c then 10 ^ 15 else if c = 1 then 10 ^ 55 else 10 ^ 54
  match fScale k x with
  | some v => v
  | none => if x = .inf true then -(10 ^ 999) else 10 ^ 999

/-- The temperature from `lo` on below which `f` does not exceed `v`: halving keeps `f t ≤ v < f (t + w)` where it holds at the start. -/
def bisect (f : Int → Int) (v : Int) : Nat → Int → Int → Int
  | 0, lo, _ => lo
  | n + 1, lo, hi =>
    if hi ≤ lo + 1 then lo
    else
      let m := (lo + hi) / 2
      if f m ≤ v then bisect f v n m hi else bisect f v n lo m

/-- A temperature in binary32 degrees. -/
def celsius (t : Int) : Nat := f32Enc (ratInt t 1000000)

/-- The value that the device gives for temperature `t` on curve `c`: any value in the curve's range and within 0.001 °C of it (R299).
Which one is free. -/
def within (c : Nat) (t : Int) (guess : Nat) : Nat :=
  match fScale 1000000000000 (f32Dec guess) with
  | some g =>
    let r := curveRange c
    if (g - t * 1000000).natAbs ≤ 1000000000 && decide (r.1 * 1000000 ≤ g) && decide (g ≤ r.2 * 1000000) then guess else celsius t
  | none => celsius t

/-- The value of an inverted curve at `v` on the scale of its reference function, and whether it was clamped (R299). -/
def invertCurve (c : Nat) (v : Int) (guess : Nat) : Nat × Bool :=
  let r := curveRange c
  if v < refFn c r.1 then (celsius r.1, true)
  else if refFn c r.2 < v then (celsius r.2, true)
  else (within c (bisect (refFn c) v 64 r.1 r.2) guess, false)

/-- `2 * atanh(a / b)` in units of `2^-128`, for `0 ≤ a/b ≤ 1/3`. -/
def twiceAtanh (a b : Nat) : Nat :=
  let z := a * 2 ^ 128 / b
  let z2 := z * z / 2 ^ 128
  ((List.range 48).foldl (fun (acc : Nat × Nat) i => (acc.1 + 2 * acc.2 / (2 * i + 1), acc.2 * z2 / 2 ^ 128)) (0, z)).1

/-- The natural logarithm of `m * 2^e`, `m` above 0, in units of `2^-128`. -/
def lnFixed (m : Nat) (e : Int) : Int :=
  let k := Nat.log2 m
  (twiceAtanh (m - 2 ^ k) (m + 2 ^ k) : Int) + (e + k) * (twiceAtanh 1 3 : Int)

/-- A finite binary32 coefficient as an integer in units of `2^-149`; none where it is not finite. -/
def coefInt (b : Nat) : Option Int :=
  match f32Dec b with
  | .fin a m e => some (fInt a m e (-149))
  | _ => none

/-- A value clamped to the range of curve `c` (R299). -/
def clampCurve (c : Nat) (y : FVal) : Nat × Bool :=
  let r := curveRange c
  if fLt y (ratInt r.1 1000000) then (celsius r.1, true)
  else if fLt (ratInt r.2 1000000) y then (celsius r.2, true)
  else (f32Enc y, false)

/-- Curve 20 with coefficients `a`, `b` and `c` (R299). The manual gives it no value where the logarithm or the quotient does not
exist, or a coefficient or `x` is not finite: there the value is free (notes/assumptions/102.md). -/
def ntcCurve (a b c : Nat) (x : FVal) : Nat × Bool :=
  let open_ := clampCurve 20 (f32Dec (Config.curve 20 [a, b, c] (f32Enc x)))
  match x, coefInt a, coefInt b, coefInt c with
  | .fin neg m e, some p, some q, some r =>
    if neg || m = 0 then open_
    else
      let l := lnFixed m e
      let d := p * 2 ^ 384 + q * l * 2 ^ 256 + r * l ^ 3
      if d = 0 then open_ else clampCurve 20 (ratInt (100 * 2 ^ 533 - 27315 * d) (100 * d))
  | _, _, _, _ => open_

/-- A thermocouple curve at emf `x` with the cold junction at `cj`: `E(cj)` is added and the sum inverted (R300). The manual gives no
emf for an infinite temperature: there the value is free. -/
def thermoCurve (c cj : Nat) (x : FVal) : Nat × Bool :=
  let guess := Config.curve c [cj] (f32Enc x)
  match fScale 1000000 (f32Dec cj) with
  | some t => invertCurve c (refFn c t + refScale c x) guess
  | none => clampCurve c (f32Dec guess)

end Sys2Proof.Machine
end

