-- ==== Sys2Proof/Machine/Fir.lean ====
section
/-! DEFINITION. The coefficient bank of the geometry stage at reset (R140): 64 phases of 8 taps, the windowed sinc
L(x) = sinc(x) sinc(x/4) at x = (t - 3) - ph/64, scaled by 16,384 and rounded, tap 3 adjusted so that each phase sums to
16,384. Each phase stands as the four register words of `IPG_FIR[p]`, two taps a word. -/

namespace Sys2Proof.Machine

/-- Phases 0 to 15 of the bank of R140. -/
def firBank0 : List Nat :=
  [ 0x00000000, 0x40000000, 0x00000000, 0x00000000,
    0x0050ffe7, 0x3ff9ff1e, 0xffad00eb, 0x0000001a,
    0x009effcf, 0x3fe4fe45, 0xff5801de, 0xffff0035,
    0x00e8ffb9, 0x3fbffd75, 0xff0102da, 0xfffe0052,
    0x0130ffa3, 0x3f8ffcae, 0xfea703de, 0xfffc006f,
    0x0175ff8f, 0x3f4efbf0, 0xfe4c04ea, 0xfffa008e,
    0x01b7ff7c, 0x3f01fb3c, 0xfdef05fd, 0xfff700ad,
    0x01f5ff6b, 0x3ea7fa91, 0xfd900718, 0xfff300cd,
    0x0230ff5b, 0x3e3df9f0, 0xfd31083a, 0xffef00ee,
    0x0268ff4c, 0x3dc8f958, 0xfcd00962, 0xffeb010f,
    0x029cff3f, 0x3d45f8ca, 0xfc6e0a91, 0xffe60131,
    0x02cdff33, 0x3cb3f846, 0xfc0c0bc6, 0xffe10154,
    0x02fbff28, 0x3c16f7cb, 0xfba90d01, 0xffdb0177,
    0x0325ff1e, 0x3b6ff759, 0xfb460e41, 0xffd4019a,
    0x034bff16, 0x3ab9f6f1, 0xfae40f86, 0xffce01bd,
    0x036eff0f, 0x39f7f693, 0xfa8210d0, 0xffc601e1 ]

/-- Phases 16 to 31 of the bank of R140. -/
def firBank1 : List Nat :=
  [ 0x038eff09, 0x392cf63d, 0xfa20121d, 0xffbf0204,
    0x03aaff04, 0x3853f5f1, 0xf9c0136f, 0xffb70228,
    0x03c2ff01, 0x3770f5ae, 0xf96114c4, 0xffaf024b,
    0x03d8feff, 0x3684f574, 0xf903161b, 0xffa6026d,
    0x03e9fefd, 0x358ef543, 0xf8a71775, 0xff9d0290,
    0x03f8fefd, 0x348df51a, 0xf84e18d1, 0xff9402b1,
    0x0403fefe, 0x3383f4fa, 0xf7f71a2e, 0xff8b02d2,
    0x040cff00, 0x326ff4e2, 0xf7a21b8d, 0xff8202f2,
    0x0411ff02, 0x3156f4d2, 0xf7511ceb, 0xff780311,
    0x0413ff06, 0x3032f4ca, 0xf7031e4a, 0xff6f032f,
    0x0412ff0a, 0x2f07f4ca, 0xf6b91fa8, 0xff66034c,
    0x040eff0f, 0x2dd8f4d1, 0xf6722105, 0xff5c0367,
    0x0408ff14, 0x2ca1f4df, 0xf6302260, 0xff530381,
    0x03ffff1b, 0x2b62f4f4, 0xf5f323ba, 0xff4a0399,
    0x03f4ff21, 0x2a1ff510, 0xf5bb2511, 0xff4103af,
    0x03e6ff29, 0x28d9f531, 0xf5872664, 0xff3903c3 ]

/-- Phases 32 to 47 of the bank of R140. -/
def firBank2 : List Nat :=
  [ 0x03d6ff31, 0x278cf559, 0xf55927b4, 0xff3103d6,
    0x03c3ff39, 0x263df587, 0xf5312900, 0xff2903e6,
    0x03afff41, 0x24e8f5bb, 0xf5102a48, 0xff2103f4,
    0x0399ff4a, 0x2392f5f3, 0xf4f42b8a, 0xff1b03ff,
    0x0381ff53, 0x223af630, 0xf4df2cc7, 0xff140408,
    0x0367ff5c, 0x20e0f672, 0xf4d12dfd, 0xff0f040e,
    0x034cff66, 0x1f82f6b9, 0xf4ca2f2d, 0xff0a0412,
    0x032fff6f, 0x1e26f703, 0xf4ca3056, 0xff060413,
    0x0311ff78, 0x1cc9f751, 0xf4d23178, 0xff020411,
    0x02f2ff82, 0x1b6bf7a2, 0xf4e23291, 0xff00040c,
    0x02d2ff8b, 0x1a0ff7f7, 0xf4fa33a2, 0xfefe0403,
    0x02b1ff94, 0x18b4f84e, 0xf51a34aa, 0xfefd03f8,
    0x0290ff9d, 0x175af8a7, 0xf54335a9, 0xfefd03e9,
    0x026dffa6, 0x1601f903, 0xf574369e, 0xfeff03d8,
    0x024bffaf, 0x14aaf961, 0xf5ae378a, 0xff0103c2,
    0x0228ffb7, 0x1358f9c0, 0xf5f1386a, 0xff0403aa ]

/-- Phases 48 to 63 of the bank of R140. -/
def firBank3 : List Nat :=
  [ 0x0204ffbf, 0x1209fa20, 0xf63d3940, 0xff09038e,
    0x01e1ffc6, 0x10bcfa82, 0xf6933a0b, 0xff0f036e,
    0x01bdffce, 0x0f75fae4, 0xf6f13aca, 0xff16034b,
    0x019affd4, 0x0e32fb46, 0xf7593b7e, 0xff1e0325,
    0x0177ffdb, 0x0cf2fba9, 0xf7cb3c25, 0xff2802fb,
    0x0154ffe1, 0x0bb9fc0c, 0xf8463cc0, 0xff3302cd,
    0x0131ffe6, 0x0a88fc6e, 0xf8ca3d4e, 0xff3f029c,
    0x010fffeb, 0x095afcd0, 0xf9583dd0, 0xff4c0268,
    0x00eeffef, 0x0833fd31, 0xf9f03e44, 0xff5b0230,
    0x00cdfff3, 0x0713fd90, 0xfa913eac, 0xff6b01f5,
    0x00adfff7, 0x05f8fdef, 0xfb3c3f06, 0xff7c01b7,
    0x008efffa, 0x04e6fe4c, 0xfbf03f52, 0xff8f0175,
    0x006ffffc, 0x03ddfea7, 0xfcae3f90, 0xffa30130,
    0x0052fffe, 0x02d8ff01, 0xfd753fc1, 0xffb900e8,
    0x0035ffff, 0x01deff58, 0xfe453fe4, 0xffcf009e,
    0x001a0000, 0x00ebffad, 0xff1e3ff9, 0xffe70050 ]

/-- The reset word `k` of phase `p` (R140). -/
def firReset (i : Nat) : Nat :=
  if i < 64 then firBank0.getD i 0 else if i < 128 then firBank1.getD (i - 64) 0
  else if i < 192 then firBank2.getD (i - 128) 0 else firBank3.getD (i - 192) 0

end Sys2Proof.Machine
end

