-- ==== Sys2Proof/Machine/RegMap.lean ====
section
/-! DEFINITION. The register map of BAR0: one row per register of the spec, with its base offset, its indices' strides and
counts, its value after `PORST#` (R7), the masks of its bits by access code (R9) and its owning panel (16: resident). The
rows stand in the order of the chapters spec/02 to spec/23. -/

namespace Sys2Proof.Machine

/-- One register of the map (R5, R7, R9): strides and counts of its two indices (stride 0 and count 1 where it has none),
reset value, and the bits of each access code; `pan` is the owning panel, 16 for a resident register. -/
structure RegDesc where
  base : Nat
  s1 : Nat
  n1 : Nat
  s2 : Nat
  n2 : Nat
  reset : Nat
  rw : Nat
  rwl : Nat
  w1c : Nat
  rc : Nat
  wo : Nat
  pan : Nat
  deriving DecidableEq, Repr

/-- Registers of spec/02_harness.md. -/
def regs_hrn : List RegDesc :=
  [ ⟨0x100000, 0, 1, 0, 1, 0, 7, 0, 0, 0, 0, 16⟩,
    ⟨0x100004, 0, 1, 0, 1, 0, 0, 0, 0, 0, 0xfff, 16⟩,
    ⟨0x100008, 0, 1, 0, 1, 0, 0, 0, 0, 0, 0, 16⟩,
    ⟨0x10000c, 0, 1, 0, 1, 0, 0xffffffc0, 0, 0, 0, 0, 16⟩,
    ⟨0x100010, 0, 1, 0, 1, 0, 3, 0, 0, 0, 0, 16⟩,
    ⟨0x100014, 0, 1, 0, 1, 0x400000, 0x7fffff, 0, 0, 0, 0, 16⟩,
    ⟨0x100018, 0, 1, 0, 1, 0x64, 0x3ff, 0, 0, 0, 0, 16⟩,
    ⟨0x10001c, 0, 1, 0, 1, 0, 0, 0, 0, 0, 0, 16⟩,
    ⟨0x100020, 0, 1, 0, 1, 0, 0, 0, 0, 0xffffffff, 0, 16⟩,
    ⟨0x100024, 0, 1, 0, 1, 0, 0, 0, 0, 0, 0, 16⟩,
    ⟨0x100040, 4, 16, 0, 1, 0, 0, 0, 0, 0, 0, 16⟩,
    ⟨0x100080, 4, 8, 0, 1, 0, 0, 0, 0, 0, 0, 16⟩,
    ⟨0x40, 0, 1, 0, 1, 0, 0, 0, 0, 0, 0, 16⟩ ]

/-- Registers of spec/03_log.md. -/
def regs_log : List RegDesc :=
  [ ⟨0x200000, 0x40, 4, 0, 1, 0, 0xff000000, 0x3130f, 0, 0, 0, 0⟩,
    ⟨0x200004, 0x40, 4, 0, 1, 0, 0, 0, 0, 0, 0, 0⟩,
    ⟨0x200008, 0x40, 4, 0, 1, 0, 0, 0, 0, 0, 0, 0⟩,
    ⟨0x20000c, 0x40, 4, 0, 1, 0, 0xffffffff, 0, 0, 0, 0, 0⟩,
    ⟨0x200010, 0x40, 4, 0, 1, 0, 0xffff, 0, 0, 0, 0, 0⟩,
    ⟨0x200014, 0x40, 4, 0, 1, 0, 0, 0, 0, 0, 0, 0⟩,
    ⟨0x200018, 0x40, 4, 0, 1, 0x3e8, 0xffffff, 0, 0, 0, 0, 0⟩,
    ⟨0x20001c, 0x40, 4, 0, 1, 1, 0xffffffff, 0, 0, 0, 0, 0⟩,
    ⟨0x200020, 0x40, 4, 0, 1, 1, 0xffffffff, 0, 0, 0, 0, 0⟩,
    ⟨0x200024, 0x40, 4, 0, 1, 0, 0xffffffff, 0, 0, 0, 0, 0⟩,
    ⟨0x200028, 0x40, 4, 0, 1, 0, 0xffff, 0, 0, 0, 0, 0⟩,
    ⟨0x20002c, 0x40, 4, 0, 1, 0x1f4, 0x1ffff, 0, 0, 0, 0, 0⟩,
    ⟨0x200030, 0x40, 4, 0, 1, 0, 0, 0, 0, 0, 0, 0⟩,
    ⟨0x200034, 0x40, 4, 0, 1, 0, 0, 0, 0, 0xffffffff, 0, 0⟩,
    ⟨0x200200, 0x10, 2, 0, 1, 3, 0x3307, 0, 0, 0, 0, 0⟩,
    ⟨0x200204, 0x10, 2, 0, 1, 0, 0, 0, 0, 0, 0, 0⟩,
    ⟨0x200208, 0x10, 2, 0, 1, 0, 0, 0, 0, 0, 0, 0⟩,
    ⟨0x20020c, 0x10, 2, 0, 1, 0, 0, 0, 0, 0xffffffff, 0, 0⟩,
    ⟨0x200300, 0, 1, 0, 1, 0, 0, 0, 0, 0, 0, 0⟩,
    ⟨0x200304, 0, 1, 0, 1, 0, 0, 0, 0, 0, 0, 0⟩,
    ⟨0x200308, 0, 1, 0, 1, 0, 0, 0, 0, 0, 0xffffffff, 0⟩,
    ⟨0x20030c, 0, 1, 0, 1, 0, 0, 0, 0, 0, 0xffffffff, 0⟩,
    ⟨0x200310, 0, 1, 0, 1, 0, 0, 0, 0, 0xffffffff, 0, 0⟩,
    ⟨0x200314, 0, 1, 0, 1, 0, 0, 0, 0, 0, 0, 0⟩,
    ⟨0x200318, 0, 1, 0, 1, 0, 0, 0, 0, 0, 0, 0⟩,
    ⟨0x20031c, 0, 1, 0, 1, 0, 0, 0, 0, 0, 0, 0⟩,
    ⟨0x201000, 0x10, 128, 0, 1, 0, 0xffffffff, 0, 0, 0, 0, 0⟩,
    ⟨0x201004, 0x10, 128, 0, 1, 0, 0xffff, 0, 0, 0, 0, 0⟩,
    ⟨0x201008, 0x10, 128, 0, 1, 0, 0xffffff37, 0, 0, 0, 0, 0⟩,
    ⟨0x20100c, 0x10, 128, 0, 1, 0, 0xffff, 0, 0, 0, 0, 0⟩ ]

/-- Registers of spec/04_sensor_heads.md. -/
def regs_sns : List RegDesc :=
  [ ⟨0x300000, 0x400, 12, 0, 1, 0x7d0000, 0x80ffffff, 0xf000000, 0, 0, 0, 1⟩,
    ⟨0x300004, 0x400, 12, 0, 1, 0, 0, 0x73, 0, 0, 0, 1⟩,
    ⟨0x300008, 0x400, 12, 0, 1, 0, 0, 0xff1f3ec7, 0, 0, 0, 1⟩,
    ⟨0x30000c, 0x400, 12, 0, 1, 0, 0xffff0000, 0x3fff, 0, 0, 0, 1⟩,
    ⟨0x300010, 0x400, 12, 0, 1, 0, 0, 0xc0ffffff, 0, 0, 0, 1⟩,
    ⟨0x300014, 0x400, 12, 0, 1, 0, 0xffffff, 0, 0, 0, 0, 1⟩,
    ⟨0x300018, 0x400, 12, 0, 1, 0, 0xffffff, 0, 0, 0, 0, 1⟩,
    ⟨0x30001c, 0x400, 12, 0, 1, 0, 0, 0, 0, 0, 0, 1⟩,
    ⟨0x300020, 0x400, 12, 0, 1, 0, 0, 0, 0, 0xffffffff, 0, 1⟩,
    ⟨0x300024, 0x400, 12, 0, 1, 0, 0, 0, 0, 0xffffffff, 0, 1⟩,
    ⟨0x300028, 0x400, 12, 0, 1, 0, 0, 0, 0, 0xffffffff, 0, 1⟩,
    ⟨0x300080, 0x400, 12, 4, 32, 0, 0, 0xffffff, 0, 0, 0, 1⟩,
    ⟨0x300100, 0x400, 12, 4, 64, 0xf0000000, 0, 0xffffffff, 0, 0, 0, 1⟩,
    ⟨0x304000, 0x40, 8, 0, 1, 0x10, 0x8000003f, 0, 0, 0, 0x40000000, 1⟩,
    ⟨0x304004, 0x40, 8, 0, 1, 0, 0, 0, 0, 0, 0, 1⟩,
    ⟨0x304008, 0x40, 8, 0, 1, 0, 0, 0, 0, 0xffffffff, 0, 1⟩,
    ⟨0x30400c, 0x40, 8, 0, 1, 0, 0, 0, 0, 0, 0xf0000fff, 1⟩,
    ⟨0x304010, 0x40, 8, 0, 1, 0, 0xffff, 0, 0, 0, 0, 1⟩ ]

/-- Registers of spec/05_line_correction.md. -/
def regs_ipc : List RegDesc :=
  [ ⟨0x400000, 0x100, 12, 0, 1, 0, 0xf, 0, 0, 0, 0, 2⟩,
    ⟨0x400004, 0x100, 12, 0, 1, 0x4000000, 0xffff0000, 0, 0, 0, 0, 2⟩,
    ⟨0x400008, 0x100, 12, 0, 1, 0xd0000, 0xfffff, 0, 0, 0, 0, 2⟩,
    ⟨0x40000c, 0x100, 12, 0, 1, 0xffc0, 0xffff, 0, 0, 0, 0, 2⟩,
    ⟨0x400010, 0x100, 12, 4, 4, 0xfffff, 0xfffff, 0, 0, 0, 0, 2⟩,
    ⟨0x400020, 0x100, 12, 4, 4, 0xc0000, 0xfffff, 0, 0, 0, 0, 2⟩,
    ⟨0x400030, 0x100, 12, 0, 1, 0, 0, 0, 0x10000000, 0, 0, 2⟩,
    ⟨0x400034, 0x100, 12, 0, 1, 0, 0, 0, 0, 0xffffffff, 0, 2⟩,
    ⟨0x400040, 0x100, 12, 0, 1, 0xa00032, 0xbff0ffff, 0, 0, 0, 0x40000000, 2⟩,
    ⟨0x400044, 0x100, 12, 0, 1, 0, 0x3fff3fff, 0, 0, 0, 0, 2⟩,
    ⟨0x400048, 0x100, 12, 0, 1, 0, 0, 0, 0, 0, 0, 2⟩,
    ⟨0x40004c, 0x100, 12, 0, 1, 0, 0, 0, 0, 0, 0, 2⟩,
    ⟨0x401000, 0, 1, 0, 1, 0, 0, 0, 0, 0, 0xf00f0000, 2⟩,
    ⟨0x401004, 0, 1, 0, 1, 0, 0, 0, 0x40000000, 0, 0, 2⟩,
    ⟨0x401008, 0, 1, 0, 1, 0x4000, 0xfffff, 0, 0, 0, 0, 2⟩,
    ⟨0x40100c, 0, 1, 0, 1, 0, 0, 0, 0, 0, 0, 2⟩,
    ⟨0x401010, 0, 1, 0, 1, 0, 0, 0, 0, 0xffffffff, 0, 2⟩,
    ⟨0x401014, 0, 1, 0, 1, 0, 0, 0, 0, 0, 0, 2⟩,
    ⟨0x401018, 0, 1, 0, 1, 0, 0, 0, 0, 0xffff, 0, 2⟩,
    ⟨0x40101c, 0, 1, 0, 1, 0, 0, 0, 0, 0xffff, 0, 2⟩,
    ⟨0x401020, 0, 1, 0, 1, 0, 0, 0, 0xfff0fff, 0, 0, 2⟩,
    ⟨0x401024, 0, 1, 0, 1, 0, 0, 0, 0xfff0fff, 0, 0, 2⟩ ]

/-- Registers of spec/06_geometry_views.md. -/
def regs_ipg : List RegDesc :=
  [ ⟨0x500000, 0, 1, 0, 1, 0, 0, 0x8000000f, 0, 0, 0, 3⟩,
    ⟨0x500004, 0, 1, 0, 1, 0, 0, 0x1fff, 0, 0, 0, 3⟩,
    ⟨0x500010, 0, 1, 0, 1, 0, 0, 0, 0xffffff, 0, 0, 3⟩,
    ⟨0x500014, 0, 1, 0, 1, 0, 0, 0, 0, 0xffffffff, 0, 3⟩,
    ⟨0x501000, 0x10, 64, 4, 4, 0, 0xffffffff, 0, 0, 0, 0, 3⟩,
    ⟨0x502000, 0x100, 12, 0, 1, 0x10064, 0xffff, 0xffff0000, 0, 0, 0, 3⟩,
    ⟨0x502004, 0x100, 12, 0, 1, 0, 0, 0xfffff000, 0, 0, 0, 3⟩,
    ⟨0x502008, 0x100, 12, 0, 1, 0, 0, 3, 0, 0, 0, 3⟩,
    ⟨0x50200c, 0x100, 12, 0, 1, 0, 0, 0, 0, 0, 0, 3⟩,
    ⟨0x502010, 0x100, 12, 0, 1, 0, 0, 0, 0, 0xffffffff, 0, 3⟩,
    ⟨0x502014, 0x100, 12, 0, 1, 0, 0x80ffffff, 0xf000000, 0, 0, 0, 3⟩,
    ⟨0x502018, 0x100, 12, 0, 1, 0, 0xffffffff, 0, 0, 0, 0, 3⟩,
    ⟨0x50201c, 0x100, 12, 0, 1, 0, 0xffffffff, 0, 0, 0, 0, 3⟩,
    ⟨0x502020, 0x100, 12, 0, 1, 0, 0xfffff, 0, 0, 0, 0, 3⟩,
    ⟨0x502024, 0x100, 12, 0, 1, 0, 0xffff, 0, 0, 0, 0, 3⟩,
    ⟨0x502028, 0x100, 12, 0, 1, 0, 0, 0, 0, 0, 0, 3⟩,
    ⟨0x504000, 0x400, 12, 4, 256, 0, 0, 0xffffffff, 0, 0, 0, 3⟩,
    ⟨0x508000, 0x20, 64, 0, 1, 0, 0x80000000, 0x3fffff80, 0, 0, 0x40000000, 3⟩,
    ⟨0x508004, 0x20, 64, 0, 1, 0x3fff0000, 0x3fff3fff, 0, 0, 0, 0, 3⟩,
    ⟨0x508008, 0x20, 64, 0, 1, 0x100, 0xcf0001ff, 0, 0, 0, 0, 3⟩,
    ⟨0x50800c, 0x20, 64, 0, 1, 0, 0, 0, 0, 0, 0, 3⟩ ]

/-- Registers of spec/07_axes.md. -/
def regs_axs : List RegDesc :=
  [ ⟨0x600000, 0x100, 4, 0, 1, 0xa00, 0xff00, 0xffe00003, 0, 0, 0, 4⟩,
    ⟨0x600004, 0x100, 4, 0, 1, 0, 0x8e000000, 0, 0, 0, 0x60000000, 4⟩,
    ⟨0x600008, 0x100, 4, 0, 1, 0, 0xffffffff, 0, 0, 0, 0, 4⟩,
    ⟨0x60000c, 0x100, 4, 0, 1, 0x2710, 0x7ffff, 0, 0, 0, 0, 4⟩,
    ⟨0x600010, 0x100, 4, 0, 1, 0xf4240, 0xffffffff, 0, 0, 0, 0, 4⟩,
    ⟨0x600014, 0x100, 4, 0, 1, 0xf4240, 0xffffffff, 0, 0, 0, 0, 4⟩,
    ⟨0x600018, 0x100, 4, 0, 1, 0x10000, 0xffffffff, 0, 0, 0, 0, 4⟩,
    ⟨0x60001c, 0x100, 4, 0, 1, 0, 0xffffffff, 0, 0, 0, 0, 4⟩,
    ⟨0x600020, 0x100, 4, 0, 1, 0, 0xffffffff, 0, 0, 0, 0, 4⟩,
    ⟨0x600024, 0x100, 4, 0, 1, 0, 0, 0, 0, 0, 0, 4⟩,
    ⟨0x600028, 0x100, 4, 0, 1, 0, 0, 0, 0, 0, 0, 4⟩,
    ⟨0x60002c, 0x100, 4, 0, 1, 0, 0, 0, 0, 0, 0, 4⟩,
    ⟨0x600030, 0x100, 4, 0, 1, 0, 0, 0, 0x3000000, 0, 0, 4⟩,
    ⟨0x600034, 0x100, 4, 0, 1, 0, 0xfff, 0, 0, 0, 0, 4⟩,
    ⟨0x600038, 0x100, 4, 0, 1, 0x10000, 0xffffffff, 0, 0, 0, 0, 4⟩,
    ⟨0x60003c, 0x100, 4, 0, 1, 0, 0xffffffff, 0, 0, 0, 0, 4⟩,
    ⟨0x600040, 0x100, 4, 0, 1, 0, 0xffffffff, 0, 0, 0, 0, 4⟩,
    ⟨0x600044, 0x100, 4, 0, 1, 0, 0xffffffff, 0, 0, 0, 0, 4⟩,
    ⟨0x600048, 0x100, 4, 0, 1, 0x11388, 0x80ffffff, 0, 0, 0, 0, 4⟩,
    ⟨0x60004c, 0x100, 4, 0, 1, 0, 0xffffffff, 0, 0, 0, 0, 4⟩,
    ⟨0x600050, 0x100, 4, 0, 1, 0, 0, 0, 0, 0, 0, 4⟩,
    ⟨0x600054, 0x100, 4, 0, 1, 0, 0, 0, 0, 0, 0, 4⟩,
    ⟨0x600058, 0x100, 4, 0, 1, 0, 0, 0, 0xc0000000, 0, 0, 4⟩,
    ⟨0x60005c, 0x100, 4, 0, 1, 0, 0, 0, 0, 0, 0, 4⟩,
    ⟨0x600060, 0x100, 4, 0, 1, 0, 0, 0, 0, 0, 0, 4⟩,
    ⟨0x600064, 0x100, 4, 0, 1, 0, 0, 0, 0, 0, 0, 4⟩,
    ⟨0x600068, 0x100, 4, 0, 1, 0, 0, 0, 0, 0xffffffff, 0, 4⟩ ]

/-- Registers of spec/08_coil_current.md. -/
def regs_axsSup : List RegDesc :=
  [ ⟨0x600080, 0x100, 4, 0, 1, 0x20020100, 0x3fffffff, 0, 0, 0, 0, 4⟩,
    ⟨0x600084, 0x100, 4, 0, 1, 0x8564a010, 0xfffff0ff, 0, 0, 0, 0, 4⟩,
    ⟨0x600088, 0x100, 4, 0, 1, 0x640000c8, 0xff00ffff, 0, 0, 0, 0, 4⟩,
    ⟨0x60008c, 0x100, 4, 0, 1, 0x80200003, 0x80ff000f, 0, 0, 0, 0x40000000, 4⟩,
    ⟨0x600090, 0x100, 4, 4, 8, 0, 0xffff, 0, 0, 0, 0, 4⟩,
    ⟨0x6000b0, 0x100, 4, 0, 1, 0x3000000, 0x7000000, 0xe0000000, 0, 0, 0, 4⟩,
    ⟨0x6000b4, 0x100, 4, 0, 1, 0x10000, 0, 0xffffffff, 0, 0, 0, 4⟩,
    ⟨0x6000b8, 0x100, 4, 0, 1, 0, 0, 0, 0, 0, 0, 4⟩,
    ⟨0x6000bc, 0x100, 4, 0, 1, 0x40040, 0x80ffffff, 0, 0, 0, 0, 4⟩,
    ⟨0x6000c0, 0x100, 4, 0, 1, 0x8000400, 0xff00ffff, 0, 0, 0, 0, 4⟩,
    ⟨0x6000c4, 0x100, 4, 0, 1, 0, 0, 0, 0, 0, 0, 4⟩,
    ⟨0x6000c8, 0x100, 4, 0, 1, 0, 0, 0, 0xfc000000, 0, 0, 4⟩,
    ⟨0x6000cc, 0x100, 4, 0, 1, 0, 0, 0, 0, 0xffffffff, 0, 4⟩ ]

/-- Registers of spec/09_pacing_stitch.md. -/
def regs_axsPace : List RegDesc :=
  [ ⟨0x600400, 0x40, 4, 0, 1, 0x80700040, 0x80f0ffff, 0x3f0f0000, 0, 0, 0, 4⟩,
    ⟨0x600404, 0x40, 4, 0, 1, 0x1000020, 0xffffffff, 0, 0, 0, 0, 4⟩,
    ⟨0x600408, 0x40, 4, 0, 1, 0x10002710, 0xffffffff, 0, 0, 0, 0, 4⟩,
    ⟨0x60040c, 0x40, 4, 0, 1, 0x1000100, 0xfff0ffff, 0, 0, 0, 0, 4⟩,
    ⟨0x600410, 0x40, 4, 0, 1, 0x2710, 0x7ffff, 0, 0, 0, 0, 4⟩,
    ⟨0x600414, 0x40, 4, 0, 1, 0x3fff0000, 0x3fff3fff, 0, 0, 0, 0, 4⟩,
    ⟨0x600418, 0x40, 4, 0, 1, 0, 0, 0, 0xe00000, 0, 0, 4⟩,
    ⟨0x60041c, 0x40, 4, 0, 1, 0, 0, 0, 0, 0, 0, 4⟩,
    ⟨0x600420, 0x40, 4, 0, 1, 0x4000, 0, 0, 0, 0xffff0000, 0, 4⟩ ]

/-- Registers of spec/10_emitters.md. -/
def regs_rge : List RegDesc :=
  [ ⟨0x700000, 0, 1, 0, 1, 0, 0, 0, 0, 0, 0xc0000000, 5⟩,
    ⟨0x700004, 0, 1, 0, 1, 0x20000000, 0, 0, 0xf000, 0, 0, 5⟩,
    ⟨0x700008, 0, 1, 0, 1, 0x1e000032, 0, 0x1f00ffff, 0, 0, 0, 5⟩,
    ⟨0x70000c, 0, 1, 0, 1, 0x32, 0xffff, 0, 0, 0, 0, 5⟩,
    ⟨0x700010, 0, 1, 0, 1, 0, 0x7ff, 0x80000000, 0, 0, 0, 5⟩,
    ⟨0x700014, 0, 1, 0, 1, 0, 0, 0xffffffff, 0, 0, 0, 5⟩,
    ⟨0x700018, 0, 1, 0, 1, 0, 0, 0, 0, 0xffffffff, 0, 5⟩,
    ⟨0x70001c, 0, 1, 0, 1, 0, 0, 0, 0xffffffff, 0, 0, 5⟩,
    ⟨0x700100, 0x10, 16, 0, 1, 0x32, 0xf1fffff, 0, 0, 0, 0, 5⟩,
    ⟨0x700104, 0x10, 16, 0, 1, 0x100004, 0xfff0fff, 0, 0, 0, 0, 5⟩,
    ⟨0x700108, 0x10, 16, 0, 1, 0xe403ff, 0xff03ff, 0, 0, 0, 0, 5⟩,
    ⟨0x700200, 4, 32, 0, 1, 0, 0, 0xffffffff, 0, 0, 0, 5⟩,
    ⟨0x700280, 4, 32, 0, 1, 0, 0, 0, 0, 0, 0, 5⟩ ]

/-- Registers of spec/11_histograms.md. -/
def regs_rgh : List RegDesc :=
  [ ⟨0x800000, 0, 1, 0, 1, 0, 0x80000000, 0, 0, 0, 0, 6⟩,
    ⟨0x800004, 0, 1, 0, 1, 0, 0, 0, 0, 0, 0, 6⟩,
    ⟨0x800008, 0, 1, 0, 1, 5, 0xf, 0, 0, 0, 0, 6⟩,
    ⟨0x80000c, 0, 1, 0, 1, 0, 0, 0, 0, 0xffffffff, 0, 6⟩,
    ⟨0x800010, 0, 1, 0, 1, 0, 0, 0, 0, 0xffffffff, 0, 6⟩,
    ⟨0x800014, 0, 1, 0, 1, 0, 0, 0, 0, 0, 0, 6⟩,
    ⟨0x800018, 0, 1, 0, 1, 0, 0, 0, 0, 0, 0, 6⟩,
    ⟨0x80001c, 0, 1, 0, 1, 0, 0, 0, 0, 0xffff, 0, 6⟩,
    ⟨0x800040, 4, 8, 0, 1, 0, 0, 0xffffffff, 0, 0, 0, 6⟩,
    ⟨0x800100, 0x10, 16, 0, 1, 0x82000000, 0x870001ff, 0, 0, 0, 0, 6⟩,
    ⟨0x800104, 0x10, 16, 0, 1, 0x8300008, 0xffffffff, 0, 0, 0, 0, 6⟩,
    ⟨0x800108, 0x10, 16, 0, 1, 0, 0xffffff, 0, 0, 0, 0, 6⟩,
    ⟨0x80010c, 0x10, 16, 0, 1, 0xc0000010, 0xc00000ff, 0, 0, 0, 0, 6⟩ ]

/-- Registers of spec/12_fixes.md. -/
def regs_fix : List RegDesc :=
  [ ⟨0x801000, 0, 1, 0, 1, 0, 0x300000, 0xbf000000, 0, 0, 0, 6⟩,
    ⟨0x801004, 0, 1, 0, 1, 0x265f997, 0xffffffff, 0, 0, 0, 0, 6⟩,
    ⟨0x801008, 0, 1, 0, 1, 0, 0, 0, 0x10000000, 0, 0, 6⟩,
    ⟨0x80100c, 0, 1, 0, 1, 0, 0, 0, 0, 0xffffffff, 0, 6⟩,
    ⟨0x801010, 0, 1, 0, 1, 0x8000003c, 0x8000ffff, 0, 0, 0, 0, 6⟩,
    ⟨0x801014, 0, 1, 0, 1, 0, 0, 0, 0, 0, 0, 6⟩,
    ⟨0x801020, 4, 3, 0, 1, 0, 0, 0, 0, 0, 0, 6⟩,
    ⟨0x801100, 4, 65, 0, 1, 0, 0, 0, 0, 0, 0, 6⟩,
    ⟨0x801280, 4, 65, 0, 1, 0, 0, 0, 0, 0, 0, 6⟩,
    ⟨0x801400, 4, 256, 0, 1, 0, 0xffffffff, 0, 0, 0, 0, 6⟩,
    ⟨0x801800, 0x10, 16, 0, 1, 0, 0xf00000ff, 0xffff00, 0, 0, 0, 6⟩,
    ⟨0x801804, 0x10, 16, 0, 1, 0, 0xffffffff, 0, 0, 0, 0, 6⟩,
    ⟨0x801808, 0x10, 16, 0, 1, 0, 0xffff, 0, 0, 0, 0, 6⟩,
    ⟨0x80180c, 0x10, 16, 0, 1, 0x1ffff, 0, 0, 0, 0, 0, 6⟩ ]

/-- Registers of spec/13_illumination.md. -/
def regs_ilu : List RegDesc :=
  [ ⟨0x900000, 0, 1, 0, 1, 0, 0x80000000, 0, 0, 0, 0x70000000, 7⟩,
    ⟨0x900004, 0, 1, 0, 1, 0, 0, 0, 0x8000000, 0, 0, 7⟩,
    ⟨0x900008, 0, 1, 0, 1, 0, 0, 0xffff, 0, 0, 0, 7⟩,
    ⟨0x90000c, 0, 1, 0, 1, 0x640fa546, 0xffffffff, 0, 0, 0, 0, 7⟩,
    ⟨0x900010, 0, 1, 0, 1, 0, 0, 0, 0, 0xffffffff, 0, 7⟩,
    ⟨0x900020, 0, 1, 0, 1, 0x33c015e, 0x8fff03ff, 0, 0, 0, 0, 7⟩,
    ⟨0x900024, 0, 1, 0, 1, 0x17700190, 0x1fff, 0x1fff0000, 0, 0, 0, 7⟩,
    ⟨0x900028, 0, 1, 0, 1, 0x1f0000, 0, 0, 0xf000000, 0, 0, 7⟩,
    ⟨0x90002c, 0, 1, 0, 1, 0, 0, 0, 0, 0, 0, 7⟩,
    ⟨0x900100, 0x10, 24, 0, 1, 0x1f00, 0, 0xe0001f0f, 0, 0, 0, 7⟩,
    ⟨0x900104, 0x10, 24, 0, 1, 0x2000000, 0xffc03fff, 0, 0, 0, 0, 7⟩,
    ⟨0x900108, 0x10, 24, 0, 1, 0, 0xffff, 0, 0, 0, 0, 7⟩,
    ⟨0x90010c, 0x10, 24, 0, 1, 0, 0, 0, 0x44000000, 0, 0, 7⟩,
    ⟨0x900400, 0x10, 16, 0, 1, 0, 0x8cf0003f, 0, 0, 0, 0, 7⟩,
    ⟨0x900404, 0x10, 16, 0, 1, 0, 0, 0, 0x10000000, 0, 0, 7⟩,
    ⟨0x901000, 0x200, 16, 8, 64, 0, 0xffffffff, 0, 0, 0, 0, 7⟩,
    ⟨0x901004, 0x200, 16, 8, 64, 0, 0xffffffff, 0, 0, 0, 0, 7⟩,
    ⟨0x904000, 0x4000, 2, 0, 1, 0, 0x8000ffff, 0xff0000, 0, 0, 0x40000000, 7⟩,
    ⟨0x904004, 0x4000, 2, 0, 1, 0, 0, 0, 0, 0, 0, 7⟩,
    ⟨0x904008, 0x4000, 2, 0, 1, 0, 0, 0, 0, 0xffffffff, 0, 7⟩,
    ⟨0x904400, 0x4000, 2, 4, 255, 0, 0, 0x3f3f, 0, 0, 0, 7⟩,
    ⟨0x904800, 0x4000, 2, 4, 512, 0, 0xffffffff, 0, 0, 0, 0, 7⟩,
    ⟨0x905000, 0x4000, 2, 4, 256, 0, 0, 0, 0, 0, 0, 7⟩ ]

/-- Registers of spec/14_front_end.md. -/
def regs_afe : List RegDesc :=
  [ ⟨0xa00000, 0, 1, 0, 1, 2, 0xffff0003, 0, 0, 0, 0, 8⟩,
    ⟨0xa00004, 0, 1, 0, 1, 0x40000000, 0, 0, 0, 0, 0, 8⟩,
    ⟨0xa00008, 0, 1, 0, 1, 0x41c80000, 0xffffffff, 0, 0, 0, 0, 8⟩,
    ⟨0xa0000c, 0, 1, 0, 1, 0, 0, 0, 0, 0, 0, 8⟩,
    ⟨0xa00010, 0, 1, 0, 1, 0, 0, 0, 0xffff, 0, 0, 8⟩,
    ⟨0xa00014, 0, 1, 0, 1, 0, 0, 0, 0, 0xffffffff, 0, 8⟩,
    ⟨0xa00018, 0, 1, 0, 1, 0, 0, 0, 0, 0, 0xff, 8⟩,
    ⟨0xa0001c, 0, 1, 0, 1, 0, 0, 0, 0, 0, 0, 8⟩,
    ⟨0xa00020, 0, 1, 0, 1, 0, 0, 0, 0, 0, 0xffff, 8⟩,
    ⟨0xa00040, 4, 4, 0, 1, 3, 0, 3, 0, 0, 0, 8⟩,
    ⟨0xa00100, 0x20, 32, 0, 1, 0x140001, 0x4f0f, 0x1f1f8000, 0, 0, 0, 8⟩,
    ⟨0xa00104, 0x20, 32, 0, 1, 0xa0028, 0xfffff0ff, 0, 0, 0, 0, 8⟩,
    ⟨0xa00108, 0x20, 32, 0, 1, 0, 0x400fff, 0x7fbfc000, 0, 0, 0, 8⟩,
    ⟨0xa0010c, 0x20, 32, 0, 1, 0, 0xff7fff00, 0, 0, 0, 0, 8⟩,
    ⟨0xa00110, 0x20, 32, 0, 1, 0x3f800000, 0xffffffff, 0, 0, 0, 0, 8⟩,
    ⟨0xa00114, 0x20, 32, 0, 1, 0x7fc00000, 0, 0, 0, 0, 0, 8⟩,
    ⟨0xa00118, 0x20, 32, 0, 1, 0, 0, 0, 0, 0, 0, 8⟩,
    ⟨0xa00800, 0x80, 8, 4, 24, 0, 0xffffffff, 0, 0, 0, 0, 8⟩,
    ⟨0xa00c00, 0x10, 16, 0, 1, 0xf00, 0xe7000000, 0x101f0f00, 0, 0, 0, 8⟩,
    ⟨0xa00c04, 0x10, 16, 0, 1, 0x7f800000, 0xffffffff, 0, 0, 0, 0, 8⟩,
    ⟨0xa00c08, 0x10, 16, 0, 1, 0xff800000, 0xffffffff, 0, 0, 0, 0, 8⟩,
    ⟨0xa00c0c, 0x10, 16, 0, 1, 0, 0, 0xffff, 0, 0, 0, 8⟩ ]

/-- Registers of spec/15_converters.md. -/
def regs_cnv : List RegDesc :=
  [ ⟨0xb00000, 0x100, 2, 0, 1, 0, 0x90000000, 0x31f, 0, 0, 0x60000000, 9⟩,
    ⟨0xb00004, 0x100, 2, 4, 2, 0, 0xfc1fffff, 0, 0, 0, 0, 9⟩,
    ⟨0xb0000c, 0x100, 2, 4, 2, 0x3e8, 0xffffff, 0, 0, 0, 0, 9⟩,
    ⟨0xb00014, 0x100, 2, 0, 1, 0, 0, 0, 0, 0, 0, 9⟩,
    ⟨0xb00018, 0x100, 2, 0, 1, 0, 0, 0, 0, 0, 0, 9⟩,
    ⟨0xb0001c, 0x100, 2, 0, 1, 0, 0, 0, 0, 0xffffffff, 0, 9⟩,
    ⟨0xb00020, 0x100, 2, 0, 1, 0, 0, 0x8000003f, 0, 0, 0, 9⟩,
    ⟨0xb00040, 0x100, 2, 4, 32, 0, 0x700, 0x1f, 0, 0, 0, 9⟩,
    ⟨0xb000c0, 0x100, 2, 4, 4, 0, 0x700, 0x1f, 0, 0, 0, 9⟩,
    ⟨0xb00200, 0, 1, 0, 1, 0, 0, 0x8000001f, 0, 0, 0, 9⟩,
    ⟨0xb00204, 0, 1, 0, 1, 0x3f800000, 0xffffffff, 0, 0, 0, 0, 9⟩,
    ⟨0xb00208, 0, 1, 0, 1, 0x7fc00000, 0, 0, 0, 0, 0, 9⟩,
    ⟨0xb0020c, 0, 1, 0, 1, 0, 0, 0, 0, 0xffffffff, 0, 9⟩,
    ⟨0xb00210, 0, 1, 0, 1, 0, 0, 0, 0, 0, 0, 9⟩,
    ⟨0xb00214, 0, 1, 0, 1, 0, 0, 0, 0xffff, 0, 0, 9⟩,
    ⟨0xb00400, 0x100, 2, 4, 36, 0, 0, 0, 0, 0, 0, 9⟩,
    ⟨0xb00600, 0x100, 2, 4, 36, 0, 0, 0, 0, 0, 0, 9⟩,
    ⟨0xb00800, 0x10, 16, 0, 1, 0, 0x8000001f, 0, 0, 0, 0, 9⟩,
    ⟨0xb00804, 0x10, 16, 0, 1, 0x7f800000, 0xffffffff, 0, 0, 0, 0, 9⟩,
    ⟨0xb00808, 0x10, 16, 0, 1, 0xff800000, 0xffffffff, 0, 0, 0, 0, 9⟩ ]

/-- Registers of spec/16_queues.md. -/
def regs_que : List RegDesc :=
  [ ⟨0xc00000, 0x40, 64, 0, 1, 0, 0, 0x3ff07ff, 0, 0, 0, 10⟩,
    ⟨0xc00004, 0x40, 64, 0, 1, 0, 0, 0x3ffff, 0, 0, 0, 10⟩,
    ⟨0xc00008, 0x40, 64, 0, 1, 0, 0, 0x7ffff, 0, 0, 0, 10⟩,
    ⟨0xc0000c, 0x40, 64, 0, 1, 0, 0xf800ffff, 0, 0, 0, 0, 10⟩,
    ⟨0xc00010, 0x40, 64, 0, 1, 0, 0xffffffff, 0, 0, 0, 0, 10⟩,
    ⟨0xc00014, 0x40, 64, 0, 1, 0, 0xffffffff, 0, 0, 0, 0, 10⟩,
    ⟨0xc00018, 0x40, 64, 0, 1, 0, 0, 0, 0, 0, 0xffff07, 10⟩,
    ⟨0xc0001c, 0x40, 64, 0, 1, 1, 0, 0, 0xa000000, 0, 0, 10⟩,
    ⟨0xc00020, 0x40, 64, 0, 1, 0, 0, 0, 0, 0, 0, 10⟩,
    ⟨0xc00024, 0x40, 64, 0, 1, 0, 0, 0, 0, 0, 0, 10⟩,
    ⟨0xc00028, 0x40, 64, 0, 1, 0, 0, 0, 0, 0xffffffff, 0, 10⟩,
    ⟨0xc0002c, 0x40, 64, 0, 1, 0, 0, 0, 0, 0xffffffff, 0, 10⟩,
    ⟨0xc00030, 0x40, 64, 0, 1, 0, 0, 0, 0, 0xffffffff, 0, 10⟩ ]

/-- Registers of spec/17_host.md. -/
def regs_host : List RegDesc :=
  [ ⟨0x80, 0, 1, 0, 1, 0, 0, 0, 0, 0, 0, 16⟩,
    ⟨0x84, 0, 1, 0, 1, 0, 0, 0, 0, 0, 0, 16⟩,
    ⟨0x88, 0, 1, 0, 1, 0, 0, 0, 0, 0xffffffff, 0, 16⟩,
    ⟨0x90, 0, 1, 0, 1, 0, 0x8000000f, 0, 0, 0, 0, 16⟩,
    ⟨0x94, 0, 1, 0, 1, 0, 0xffffffff, 0, 0, 0, 0, 16⟩,
    ⟨0x1000, 0x40, 64, 8, 8, 0x80000000, 0x81fffffc, 0, 0, 0, 0, 16⟩,
    ⟨0x1004, 0x40, 64, 8, 8, 0, 0xffffffff, 0, 0, 0, 0, 16⟩,
    ⟨0x1100004, 0, 1, 0, 1, 0, 0, 0, 0, 0, 0, 16⟩,
    ⟨0x1100008, 0, 1, 0, 1, 0, 0, 0, 0, 0xffffff00, 0, 16⟩,
    ⟨0x1101000, 0x40, 8, 0, 1, 0, 0xffffffc0, 0, 0, 0, 0, 16⟩,
    ⟨0x1101004, 0x40, 8, 0, 1, 0, 0xffffffff, 0, 0, 0, 0, 16⟩,
    ⟨0x1101008, 0x40, 8, 0, 1, 3, 0x803f000f, 0, 0, 0, 0, 16⟩,
    ⟨0x110100c, 0x40, 8, 0, 1, 0, 0xffff, 0, 0, 0, 0, 16⟩,
    ⟨0x1101010, 0x40, 8, 0, 1, 0, 0, 0, 0, 0, 0, 16⟩,
    ⟨0x1101014, 0x40, 8, 0, 1, 0, 0, 0, 0, 0, 0, 16⟩,
    ⟨0x110c000, 0, 1, 0, 1, 0, 0, 0, 0, 0xffffff, 0, 16⟩,
    ⟨0x110c040, 4, 16, 0, 1, 0, 0xffff, 0, 0, 0, 0, 16⟩,
    ⟨0x110c400, 4, 256, 0, 1, 0, 0, 0, 0, 0, 0, 16⟩ ]

/-- Registers of spec/18_events.md. -/
def regs_evt : List RegDesc :=
  [ ⟨0xd00000, 0, 1, 0, 1, 0, 0, 0, 0, 0, 0, 11⟩,
    ⟨0xd00004, 0, 1, 0, 1, 0, 0, 0xffff, 0, 0, 0, 11⟩,
    ⟨0xd00008, 0, 1, 0, 1, 0, 0, 0, 0, 0, 0, 11⟩,
    ⟨0xd00020, 4, 4, 0, 1, 0, 0, 0, 0, 0, 0, 11⟩,
    ⟨0xd00100, 4, 9, 0, 1, 0, 0xffffffff, 0, 0, 0, 0, 11⟩,
    ⟨0xd00140, 4, 9, 0, 1, 0, 0, 0, 0xffffffff, 0, 0, 11⟩,
    ⟨0xd00400, 4, 64, 0, 1, 0, 0xffff, 0, 0, 0, 0, 11⟩,
    ⟨0xd00500, 4, 64, 0, 1, 0, 0, 0, 0, 0, 0, 11⟩,
    ⟨0xd01000, 4, 288, 0, 1, 0, 0, 0xbfbfffff, 0, 0, 0, 11⟩,
    ⟨0xd02000, 4, 288, 0, 1, 0, 0, 0, 0, 0, 0, 11⟩ ]

/-- Registers of spec/19_bridle_ring.md. -/
def regs_brd : List RegDesc :=
  [ ⟨0xe00000, 0, 1, 0, 1, 0, 0, 0xe7ff000f, 0, 0, 0, 12⟩,
    ⟨0xe00004, 0, 1, 0, 1, 0, 0x80000000, 0, 0, 0, 0x40000000, 12⟩,
    ⟨0xe00008, 0, 1, 0, 1, 0, 0, 0, 0, 0, 0, 12⟩,
    ⟨0xe0000c, 4, 2, 0, 1, 0, 0, 0, 0, 0xff00, 0, 12⟩,
    ⟨0xe00014, 0, 1, 0, 1, 0, 0, 0, 0, 0, 0, 12⟩,
    ⟨0xe00018, 0, 1, 0, 1, 0, 0x7ff, 0, 0, 0, 0, 12⟩,
    ⟨0xe0001c, 0, 1, 0, 1, 0, 0, 0x87ff87ff, 0, 0, 0, 12⟩,
    ⟨0xe00020, 0, 1, 0, 1, 0, 0, 0xffff0000, 0, 0, 0, 12⟩,
    ⟨0xe00024, 0, 1, 0, 1, 0, 0, 0xfff, 0, 0, 0, 12⟩,
    ⟨0xe00028, 0, 1, 0, 1, 0, 0, 0, 0, 0xffffffff, 0, 12⟩,
    ⟨0xe00040, 0, 1, 0, 1, 0, 0x7ff, 0, 0, 0, 0, 12⟩,
    ⟨0xe00044, 0, 1, 0, 1, 0, 0x1ffffff, 0, 0, 0, 0, 12⟩,
    ⟨0xe00048, 0, 1, 0, 1, 0, 0xffffffff, 0, 0, 0, 0, 12⟩,
    ⟨0xe0004c, 0, 1, 0, 1, 0, 0, 0, 0, 0, 0xc0000000, 12⟩,
    ⟨0xe00050, 0, 1, 0, 1, 0, 0, 0x8000003f, 0, 0, 0, 12⟩,
    ⟨0xe00060, 4, 9, 0, 1, 0, 0xffffffff, 0, 0, 0, 0, 12⟩ ]

/-- Registers of spec/20_calibration_logbook.md. -/
def regs_calLgb : List RegDesc :=
  [ ⟨0xf00000, 0, 1, 0, 1, 0x3f, 0x3f, 0, 0, 0, 0xc0000000, 13⟩,
    ⟨0xf00004, 0, 1, 0, 1, 0, 0, 0, 0, 0, 0, 13⟩,
    ⟨0xf00008, 0, 1, 0, 1, 0x4c4b40, 0xffffffff, 0, 0, 0, 0, 13⟩,
    ⟨0xf0000c, 0, 1, 0, 1, 0x989680, 0xffffffff, 0, 0, 0, 0, 13⟩,
    ⟨0xf00010, 0, 1, 0, 1, 0x186a0, 0xffffffff, 0, 0, 0, 0, 13⟩,
    ⟨0xf00014, 0, 1, 0, 1, 0x100, 0x1f1f, 0, 0, 0, 0, 13⟩,
    ⟨0xf00018, 0, 1, 0, 1, 0x7a1200, 0xffffffff, 0, 0, 0, 0, 13⟩,
    ⟨0xf00040, 4, 8, 0, 1, 0, 0, 0, 0, 0, 0, 13⟩,
    ⟨0xf80000, 0, 1, 0, 1, 0, 0, 0, 0, 0, 0x80000000, 16⟩,
    ⟨0xf80004, 0, 1, 0, 1, 0, 0, 0, 0x20000000, 0, 0, 16⟩,
    ⟨0xf80008, 0, 1, 0, 1, 0, 0, 0, 0, 0, 0, 16⟩,
    ⟨0xf8000c, 0, 1, 0, 1, 0, 0, 0, 0, 0, 0, 16⟩,
    ⟨0xf80010, 0, 1, 0, 1, 0, 0, 0, 0, 0, 0, 16⟩,
    ⟨0xf80014, 0, 1, 0, 1, 0, 0xffffffff, 0, 0, 0, 0, 16⟩,
    ⟨0xf80018, 0, 1, 0, 1, 0, 0, 0, 0, 0, 0, 16⟩,
    ⟨0xf80100, 8, 128, 0, 1, 0, 0, 0, 0, 0, 0, 16⟩,
    ⟨0xf80104, 8, 128, 0, 1, 0, 0, 0, 0, 0, 0, 16⟩ ]

/-- Registers of spec/21_security.md. -/
def regs_sec : List RegDesc :=
  [ ⟨0x1000000, 0, 1, 0, 1, 0, 0, 0, 0, 0, 0xfe000000, 16⟩,
    ⟨0x1000004, 0, 1, 0, 1, 0, 0, 0, 0x40000000, 0, 0, 16⟩,
    ⟨0x1000008, 0, 1, 0, 1, 0, 0, 0, 0, 0, 0, 16⟩,
    ⟨0x1000020, 4, 8, 0, 1, 0, 0xffffffff, 0, 0, 0, 0, 16⟩,
    ⟨0x1000040, 4, 8, 0, 1, 0, 0, 0, 0, 0, 0, 16⟩,
    ⟨0x1000060, 4, 8, 0, 1, 0, 0, 0, 0, 0, 0, 16⟩,
    ⟨0x1000080, 4, 17, 0, 1, 0, 0xffffffff, 0, 0, 0, 0, 16⟩,
    ⟨0x1000100, 4, 17, 0, 1, 0, 0, 0, 0, 0, 0, 16⟩ ]

/-- Registers of spec/22_power_clock_reset.md. -/
def regs_pwr : List RegDesc :=
  [ ⟨0x50, 0, 1, 0, 1, 1, 0, 0, 0xf, 0, 0, 16⟩,
    ⟨0x1100100, 0, 1, 0, 1, 0, 0x80000000, 0, 0, 0, 0, 16⟩,
    ⟨0x1100104, 0, 1, 0, 1, 0, 0, 0, 0x10000000, 0, 0, 16⟩,
    ⟨0x1100108, 0, 1, 0, 1, 0, 0xe0003fff, 0, 0, 0, 0, 16⟩,
    ⟨0x110010c, 0, 1, 0, 1, 0, 0xffffffff, 0, 0, 0, 0, 16⟩,
    ⟨0x1100110, 0, 1, 0, 1, 0xffffffff, 0, 0, 0, 0, 0, 16⟩ ]

/-- Registers of spec/23_balls_electrical.md. -/
def regs_misc : List RegDesc :=
  [ ⟨0x1100120, 0, 1, 0, 1, 0, 0, 0, 0x80000000, 0, 0, 16⟩,
    ⟨0x200, 4, 14, 0, 1, 0x20, 0x7f, 0, 0, 0, 0, 16⟩ ]

end Sys2Proof.Machine
end

