-- ==== Sys2Proof/Machine/RegNames.lean ====
section
/-! DEFINITION. Names of the registers of BAR0 and of their fields: for each, its base offset, the strides of its one or two
indices, its lowest bit and its width (the register descriptions of spec/02 to spec/23; R4, R5). A register's own name
stands for its whole word. -/

namespace Sys2Proof.Machine

/-- A register field: base offset, stride of the first and of the second index, lowest bit, width (R5). -/
structure Fld where
  base : Nat
  s1 : Nat
  s2 : Nat
  lo : Nat
  w : Nat
  deriving DecidableEq, Repr

def HRN_CTRL : Fld := ⟨0x100000, 0, 0, 0, 32⟩
def HRN_CTRL_AUTO_COMMIT : Fld := ⟨0x100000, 0, 0, 2, 1⟩
def HRN_CTRL_SRC : Fld := ⟨0x100000, 0, 0, 0, 2⟩
def HRN_CMD : Fld := ⟨0x100004, 0, 0, 0, 32⟩
def HRN_CMD_PANEL : Fld := ⟨0x100004, 0, 0, 8, 4⟩
def HRN_CMD_OP : Fld := ⟨0x100004, 0, 0, 0, 8⟩
def HRN_STAT : Fld := ⟨0x100008, 0, 0, 0, 32⟩
def HRN_STAT_ERR_CODE : Fld := ⟨0x100008, 0, 0, 24, 8⟩
def HRN_STAT_ERR_PANEL : Fld := ⟨0x100008, 0, 0, 20, 4⟩
def HRN_STAT_ERR_PANEL_V : Fld := ⟨0x100008, 0, 0, 19, 1⟩
def HRN_STAT_BOOT : Fld := ⟨0x100008, 0, 0, 8, 4⟩
def HRN_STAT_STATE : Fld := ⟨0x100008, 0, 0, 0, 4⟩
def HRN_SRC_ADDR_LO : Fld := ⟨0x10000c, 0, 0, 0, 32⟩
def HRN_SRC_ADDR_LO_ADDR : Fld := ⟨0x10000c, 0, 0, 6, 26⟩
def HRN_SRC_ADDR_HI : Fld := ⟨0x100010, 0, 0, 0, 32⟩
def HRN_SRC_ADDR_HI_ADDR : Fld := ⟨0x100010, 0, 0, 0, 2⟩
def HRN_SRC_LEN : Fld := ⟨0x100014, 0, 0, 0, 32⟩
def HRN_SRC_LEN_LEN : Fld := ⟨0x100014, 0, 0, 0, 23⟩
def HRN_QTIMEOUT : Fld := ⟨0x100018, 0, 0, 0, 32⟩
def HRN_QTIMEOUT_MS : Fld := ⟨0x100018, 0, 0, 0, 10⟩
def HRN_VERSION : Fld := ⟨0x10001c, 0, 0, 0, 32⟩
def HRN_VERSION_VERSION : Fld := ⟨0x10001c, 0, 0, 0, 32⟩
def HRN_REJ : Fld := ⟨0x100020, 0, 0, 0, 32⟩
def HRN_REJ_SWAP_DISCARD : Fld := ⟨0x100020, 0, 0, 16, 16⟩
def HRN_REJ_LOCK_REJECT : Fld := ⟨0x100020, 0, 0, 0, 16⟩
def HRN_REJ_ADDR : Fld := ⟨0x100024, 0, 0, 0, 32⟩
def HRN_REJ_ADDR_OFFSET : Fld := ⟨0x100024, 0, 0, 0, 25⟩
def HRN_PANEL_VER : Fld := ⟨0x100040, 4, 0, 0, 32⟩
def HRN_PANEL_VER_VERSION : Fld := ⟨0x100040, 4, 0, 0, 32⟩
def HRN_HASH : Fld := ⟨0x100080, 4, 0, 0, 32⟩
def HRN_HASH_HASH : Fld := ⟨0x100080, 4, 0, 0, 32⟩
def GLB_PANEL_STAT : Fld := ⟨0x40, 0, 0, 0, 32⟩
def GLB_PANEL_STAT_QUIESCED : Fld := ⟨0x40, 0, 0, 16, 16⟩
def GLB_PANEL_STAT_LOADED : Fld := ⟨0x40, 0, 0, 0, 16⟩
def LOG_CFG : Fld := ⟨0x200000, 0x40, 0, 0, 32⟩
def LOG_CFG_HYST : Fld := ⟨0x200000, 0x40, 0, 24, 8⟩
def LOG_CFG_RING_LOG : Fld := ⟨0x200000, 0x40, 0, 16, 2⟩
def LOG_CFG_INVERT : Fld := ⟨0x200000, 0x40, 0, 12, 1⟩
def LOG_CFG_DECODE : Fld := ⟨0x200000, 0x40, 0, 8, 2⟩
def LOG_CFG_SRC : Fld := ⟨0x200000, 0x40, 0, 0, 4⟩
def LOG_VALUE_LO : Fld := ⟨0x200004, 0x40, 0, 0, 32⟩
def LOG_VALUE_LO_VALUE : Fld := ⟨0x200004, 0x40, 0, 0, 32⟩
def LOG_VALUE_HI : Fld := ⟨0x200008, 0x40, 0, 0, 32⟩
def LOG_VALUE_HI_VALUE : Fld := ⟨0x200008, 0x40, 0, 0, 16⟩
def LOG_PRESET_LO : Fld := ⟨0x20000c, 0x40, 0, 0, 32⟩
def LOG_PRESET_LO_VALUE : Fld := ⟨0x20000c, 0x40, 0, 0, 32⟩
def LOG_PRESET_HI : Fld := ⟨0x200010, 0x40, 0, 0, 32⟩
def LOG_PRESET_HI_VALUE : Fld := ⟨0x200010, 0x40, 0, 0, 16⟩
def LOG_STAT : Fld := ⟨0x200014, 0x40, 0, 0, 32⟩
def LOG_STAT_CFG_ERR : Fld := ⟨0x200014, 0x40, 0, 3, 1⟩
def LOG_STAT_GEN_RUN : Fld := ⟨0x200014, 0x40, 0, 2, 1⟩
def LOG_STAT_SRC_LOST : Fld := ⟨0x200014, 0x40, 0, 1, 1⟩
def LOG_STAT_DIR : Fld := ⟨0x200014, 0x40, 0, 0, 1⟩
def LOG_TICKDIV : Fld := ⟨0x200018, 0x40, 0, 0, 32⟩
def LOG_TICKDIV_DIV : Fld := ⟨0x200018, 0x40, 0, 0, 24⟩
def LOG_LG_PITCH_INT : Fld := ⟨0x20001c, 0x40, 0, 0, 32⟩
def LOG_LG_PITCH_INT_INT : Fld := ⟨0x20001c, 0x40, 0, 0, 32⟩
def LOG_LG_PITCH_FRAC : Fld := ⟨0x200020, 0x40, 0, 0, 32⟩
def LOG_LG_PITCH_FRAC_NUM : Fld := ⟨0x200020, 0x40, 0, 16, 16⟩
def LOG_LG_PITCH_FRAC_DEN : Fld := ⟨0x200020, 0x40, 0, 0, 16⟩
def LOG_LG_ORIGIN_LO : Fld := ⟨0x200024, 0x40, 0, 0, 32⟩
def LOG_LG_ORIGIN_LO_ORIGIN : Fld := ⟨0x200024, 0x40, 0, 0, 32⟩
def LOG_LG_ORIGIN_HI : Fld := ⟨0x200028, 0x40, 0, 0, 32⟩
def LOG_LG_ORIGIN_HI_ORIGIN : Fld := ⟨0x200028, 0x40, 0, 0, 16⟩
def LOG_LG_CTRL : Fld := ⟨0x20002c, 0x40, 0, 0, 32⟩
def LOG_LG_CTRL_RUN : Fld := ⟨0x20002c, 0x40, 0, 16, 1⟩
def LOG_LG_CTRL_MINPER : Fld := ⟨0x20002c, 0x40, 0, 0, 16⟩
def LOG_LG_LINE : Fld := ⟨0x200030, 0x40, 0, 0, 32⟩
def LOG_LG_LINE_LINE : Fld := ⟨0x200030, 0x40, 0, 0, 32⟩
def LOG_LG_SKIP : Fld := ⟨0x200034, 0x40, 0, 0, 32⟩
def LOG_LG_SKIP_SKIP : Fld := ⟨0x200034, 0x40, 0, 0, 32⟩
def LOG_WE_CFG : Fld := ⟨0x200200, 0x10, 0, 0, 32⟩
def LOG_WE_CFG_ZLOG : Fld := ⟨0x200200, 0x10, 0, 12, 2⟩
def LOG_WE_CFG_Z_POL : Fld := ⟨0x200200, 0x10, 0, 9, 1⟩
def LOG_WE_CFG_Z_EN : Fld := ⟨0x200200, 0x10, 0, 8, 1⟩
def LOG_WE_CFG_FILTER : Fld := ⟨0x200200, 0x10, 0, 0, 3⟩
def LOG_WE_ZLATCH_LO : Fld := ⟨0x200204, 0x10, 0, 0, 32⟩
def LOG_WE_ZLATCH_LO_VALUE : Fld := ⟨0x200204, 0x10, 0, 0, 32⟩
def LOG_WE_ZLATCH_HI : Fld := ⟨0x200208, 0x10, 0, 0, 32⟩
def LOG_WE_ZLATCH_HI_VALUE : Fld := ⟨0x200208, 0x10, 0, 0, 16⟩
def LOG_WE_ERR : Fld := ⟨0x20020c, 0x10, 0, 0, 32⟩
def LOG_WE_ERR_COUNT : Fld := ⟨0x20020c, 0x10, 0, 0, 32⟩
def LOG_CHRONO_LO : Fld := ⟨0x200300, 0, 0, 0, 32⟩
def LOG_CHRONO_LO_NS : Fld := ⟨0x200300, 0, 0, 0, 32⟩
def LOG_CHRONO_HI : Fld := ⟨0x200304, 0, 0, 0, 32⟩
def LOG_CHRONO_HI_NS : Fld := ⟨0x200304, 0, 0, 0, 32⟩
def LOG_CHRONO_SET_LO : Fld := ⟨0x200308, 0, 0, 0, 32⟩
def LOG_CHRONO_SET_LO_NS : Fld := ⟨0x200308, 0, 0, 0, 32⟩
def LOG_CHRONO_SET_HI : Fld := ⟨0x20030c, 0, 0, 0, 32⟩
def LOG_CHRONO_SET_HI_NS : Fld := ⟨0x20030c, 0, 0, 0, 32⟩
def LOG_WP_CNT : Fld := ⟨0x200310, 0, 0, 0, 32⟩
def LOG_WP_CNT_MISSED : Fld := ⟨0x200310, 0, 0, 16, 16⟩
def LOG_WP_CNT_REFUSED : Fld := ⟨0x200310, 0, 0, 0, 16⟩
def LOG_WP_EVDATA : Fld := ⟨0x200314, 0, 0, 0, 32⟩
def LOG_WP_EVDATA_WP : Fld := ⟨0x200314, 0, 0, 16, 7⟩
def LOG_WP_EVDATA_DATA : Fld := ⟨0x200314, 0, 0, 0, 16⟩
def LOG_ELAPSED_LO : Fld := ⟨0x200318, 0, 0, 0, 32⟩
def LOG_ELAPSED_LO_NS : Fld := ⟨0x200318, 0, 0, 0, 32⟩
def LOG_ELAPSED_HI : Fld := ⟨0x20031c, 0, 0, 0, 32⟩
def LOG_ELAPSED_HI_NS : Fld := ⟨0x20031c, 0, 0, 0, 32⟩
def LOG_WP_POS_LO : Fld := ⟨0x201000, 0x10, 0, 0, 32⟩
def LOG_WP_POS_LO_POS : Fld := ⟨0x201000, 0x10, 0, 0, 32⟩
def LOG_WP_POS_HI : Fld := ⟨0x201004, 0x10, 0, 0, 32⟩
def LOG_WP_POS_HI_POS : Fld := ⟨0x201004, 0x10, 0, 0, 16⟩
def LOG_WP_CTRL : Fld := ⟨0x201008, 0x10, 0, 0, 32⟩
def LOG_WP_CTRL_PERIOD : Fld := ⟨0x201008, 0x10, 0, 16, 16⟩
def LOG_WP_CTRL_ACTION : Fld := ⟨0x201008, 0x10, 0, 8, 8⟩
def LOG_WP_CTRL_LOG : Fld := ⟨0x201008, 0x10, 0, 4, 2⟩
def LOG_WP_CTRL_ARMED : Fld := ⟨0x201008, 0x10, 0, 3, 1⟩
def LOG_WP_CTRL_MODE : Fld := ⟨0x201008, 0x10, 0, 0, 3⟩
def LOG_WP_ARG : Fld := ⟨0x20100c, 0x10, 0, 0, 32⟩
def LOG_WP_ARG_ARG : Fld := ⟨0x20100c, 0x10, 0, 0, 16⟩
def SNS_CH_CFG : Fld := ⟨0x300000, 0x400, 0, 0, 32⟩
def SNS_CH_CFG_EN : Fld := ⟨0x300000, 0x400, 0, 31, 1⟩
def SNS_CH_CFG_LSRC : Fld := ⟨0x300000, 0x400, 0, 26, 2⟩
def SNS_CH_CFG_SEL : Fld := ⟨0x300000, 0x400, 0, 24, 2⟩
def SNS_CH_CFG_TMO : Fld := ⟨0x300000, 0x400, 0, 16, 8⟩
def SNS_CH_CFG_SETTLE : Fld := ⟨0x300000, 0x400, 0, 0, 16⟩
def SNS_CH_MAP : Fld := ⟨0x300004, 0x400, 0, 0, 32⟩
def SNS_CH_MAP_LANE : Fld := ⟨0x300004, 0x400, 0, 4, 3⟩
def SNS_CH_MAP_HEAD : Fld := ⟨0x300004, 0x400, 0, 0, 2⟩
def SNS_TPL_CFG : Fld := ⟨0x300008, 0x400, 0, 0, 32⟩
def SNS_TPL_CFG_PIXPER : Fld := ⟨0x300008, 0x400, 0, 24, 8⟩
def SNS_TPL_CFG_SLOTS : Fld := ⟨0x300008, 0x400, 0, 16, 5⟩
def SNS_TPL_CFG_DLY : Fld := ⟨0x300008, 0x400, 0, 12, 2⟩
def SNS_TPL_CFG_PACK : Fld := ⟨0x300008, 0x400, 0, 10, 2⟩
def SNS_TPL_CFG_HDR : Fld := ⟨0x300008, 0x400, 0, 9, 1⟩
def SNS_TPL_CFG_COLOURS : Fld := ⟨0x300008, 0x400, 0, 6, 2⟩
def SNS_TPL_CFG_OUTPUTS : Fld := ⟨0x300008, 0x400, 0, 0, 3⟩
def SNS_TPL_PIXELS : Fld := ⟨0x30000c, 0x400, 0, 0, 32⟩
def SNS_TPL_PIXELS_FILL : Fld := ⟨0x30000c, 0x400, 0, 16, 16⟩
def SNS_TPL_PIXELS_PIXELS : Fld := ⟨0x30000c, 0x400, 0, 0, 14⟩
def SNS_TPL_LEN : Fld := ⟨0x300010, 0x400, 0, 0, 32⟩
def SNS_TPL_LEN_ANCHOR : Fld := ⟨0x300010, 0x400, 0, 30, 2⟩
def SNS_TPL_LEN_LEN : Fld := ⟨0x300010, 0x400, 0, 0, 24⟩
def SNS_EXP_LONG : Fld := ⟨0x300014, 0x400, 0, 0, 32⟩
def SNS_EXP_LONG_EXP : Fld := ⟨0x300014, 0x400, 0, 0, 24⟩
def SNS_EXP_SHORT : Fld := ⟨0x300018, 0x400, 0, 0, 32⟩
def SNS_EXP_SHORT_EXP : Fld := ⟨0x300018, 0x400, 0, 0, 24⟩
def SNS_CH_STAT : Fld := ⟨0x30001c, 0x400, 0, 0, 32⟩
def SNS_CH_STAT_OUTST : Fld := ⟨0x30001c, 0x400, 0, 4, 3⟩
def SNS_CH_STAT_CFG_ERR : Fld := ⟨0x30001c, 0x400, 0, 3, 1⟩
def SNS_CH_STAT_BUSY : Fld := ⟨0x30001c, 0x400, 0, 2, 1⟩
def SNS_CH_STAT_RUN : Fld := ⟨0x30001c, 0x400, 0, 0, 1⟩
def SNS_CH_ERR : Fld := ⟨0x300020, 0x400, 0, 0, 32⟩
def SNS_CH_ERR_CRC : Fld := ⟨0x300020, 0x400, 0, 16, 16⟩
def SNS_CH_ERR_MISSING : Fld := ⟨0x300020, 0x400, 0, 0, 16⟩
def SNS_CH_SIZE : Fld := ⟨0x300024, 0x400, 0, 0, 32⟩
def SNS_CH_SIZE_SHORT : Fld := ⟨0x300024, 0x400, 0, 16, 16⟩
def SNS_CH_SIZE_LONG : Fld := ⟨0x300024, 0x400, 0, 0, 16⟩
def SNS_CH_LOST : Fld := ⟨0x300028, 0x400, 0, 0, 32⟩
def SNS_CH_LOST_OVERRUN : Fld := ⟨0x300028, 0x400, 0, 16, 16⟩
def SNS_CH_LOST_LOST : Fld := ⟨0x300028, 0x400, 0, 0, 16⟩
def SNS_TPL_PIX : Fld := ⟨0x300080, 0x400, 4, 0, 32⟩
def SNS_TPL_PIX_OFFSET : Fld := ⟨0x300080, 0x400, 4, 16, 8⟩
def SNS_TPL_PIX_PHASES : Fld := ⟨0x300080, 0x400, 4, 0, 16⟩
def SNS_TPL_EVT : Fld := ⟨0x300100, 0x400, 4, 0, 32⟩
def SNS_TPL_EVT_SIG : Fld := ⟨0x300100, 0x400, 4, 28, 4⟩
def SNS_TPL_EVT_LEVEL : Fld := ⟨0x300100, 0x400, 4, 27, 1⟩
def SNS_TPL_EVT_SUB : Fld := ⟨0x300100, 0x400, 4, 26, 1⟩
def SNS_TPL_EVT_ANCHOR : Fld := ⟨0x300100, 0x400, 4, 24, 2⟩
def SNS_TPL_EVT_TIME : Fld := ⟨0x300100, 0x400, 4, 0, 24⟩
def SNS_LANE_CTRL : Fld := ⟨0x304000, 0x40, 0, 0, 32⟩
def SNS_LANE_CTRL_EN : Fld := ⟨0x304000, 0x40, 0, 31, 1⟩
def SNS_LANE_CTRL_RETRAIN : Fld := ⟨0x304000, 0x40, 0, 30, 1⟩
def SNS_LANE_CTRL_EYE_MIN : Fld := ⟨0x304000, 0x40, 0, 0, 6⟩
def SNS_LANE_STAT : Fld := ⟨0x304004, 0x40, 0, 0, 32⟩
def SNS_LANE_STAT_EYE : Fld := ⟨0x304004, 0x40, 0, 16, 7⟩
def SNS_LANE_STAT_STATE : Fld := ⟨0x304004, 0x40, 0, 0, 4⟩
def SNS_LANE_ERR : Fld := ⟨0x304008, 0x40, 0, 0, 32⟩
def SNS_LANE_ERR_HDR : Fld := ⟨0x304008, 0x40, 0, 24, 8⟩
def SNS_LANE_ERR_UNMAPPED : Fld := ⟨0x304008, 0x40, 0, 16, 8⟩
def SNS_LANE_ERR_LOCKLOSS : Fld := ⟨0x304008, 0x40, 0, 8, 8⟩
def SNS_LANE_ERR_LATE : Fld := ⟨0x304008, 0x40, 0, 0, 8⟩
def SNS_HCMD : Fld := ⟨0x30400c, 0x40, 0, 0, 32⟩
def SNS_HCMD_OP : Fld := ⟨0x30400c, 0x40, 0, 30, 2⟩
def SNS_HCMD_HEAD : Fld := ⟨0x30400c, 0x40, 0, 28, 2⟩
def SNS_HCMD_ADDR : Fld := ⟨0x30400c, 0x40, 0, 0, 12⟩
def SNS_HDATA : Fld := ⟨0x304010, 0x40, 0, 0, 32⟩
def SNS_HDATA_DONE : Fld := ⟨0x304010, 0x40, 0, 31, 1⟩
def SNS_HDATA_TMO : Fld := ⟨0x304010, 0x40, 0, 30, 1⟩
def SNS_HDATA_DATA : Fld := ⟨0x304010, 0x40, 0, 0, 16⟩
def IPC_CH_CTRL : Fld := ⟨0x400000, 0x100, 0, 0, 32⟩
def IPC_CH_CTRL_RATIO_SRC : Fld := ⟨0x400000, 0x100, 0, 3, 1⟩
def IPC_CH_CTRL_SHD_EN : Fld := ⟨0x400000, 0x100, 0, 2, 1⟩
def IPC_CH_CTRL_MERGE_EN : Fld := ⟨0x400000, 0x100, 0, 1, 1⟩
def IPC_CH_CTRL_LIN_EN : Fld := ⟨0x400000, 0x100, 0, 0, 1⟩
def IPC_MERGE : Fld := ⟨0x400004, 0x100, 0, 0, 32⟩
def IPC_MERGE_RATIO : Fld := ⟨0x400004, 0x100, 0, 16, 16⟩
def IPC_KNEE : Fld := ⟨0x400008, 0x100, 0, 0, 32⟩
def IPC_KNEE_KNEE : Fld := ⟨0x400008, 0x100, 0, 0, 20⟩
def IPC_SAT : Fld := ⟨0x40000c, 0x100, 0, 0, 32⟩
def IPC_SAT_LEVEL : Fld := ⟨0x40000c, 0x100, 0, 0, 16⟩
def IPC_LIN_END : Fld := ⟨0x400010, 0x100, 4, 0, 32⟩
def IPC_LIN_END_END : Fld := ⟨0x400010, 0x100, 4, 0, 20⟩
def IPC_SHD_TARGET : Fld := ⟨0x400020, 0x100, 4, 0, 32⟩
def IPC_SHD_TARGET_TARGET : Fld := ⟨0x400020, 0x100, 4, 0, 20⟩
def IPC_CH_STAT : Fld := ⟨0x400030, 0x100, 0, 0, 32⟩
def IPC_CH_STAT_LAMP_STABLE : Fld := ⟨0x400030, 0x100, 0, 31, 1⟩
def IPC_CH_STAT_FORCED : Fld := ⟨0x400030, 0x100, 0, 30, 1⟩
def IPC_CH_STAT_RATIO_CLAMP : Fld := ⟨0x400030, 0x100, 0, 29, 1⟩
def IPC_CH_STAT_STRIP_SAT : Fld := ⟨0x400030, 0x100, 0, 28, 1⟩
def IPC_CH_STAT_WARM_COUNT : Fld := ⟨0x400030, 0x100, 0, 0, 2⟩
def IPC_CH_CNT : Fld := ⟨0x400034, 0x100, 0, 0, 32⟩
def IPC_CH_CNT_SAT : Fld := ⟨0x400034, 0x100, 0, 16, 16⟩
def IPC_CH_CNT_CLIP : Fld := ⟨0x400034, 0x100, 0, 0, 16⟩
def IPC_WARM : Fld := ⟨0x400040, 0x100, 0, 0, 32⟩
def IPC_WARM_EN : Fld := ⟨0x400040, 0x100, 0, 31, 1⟩
def IPC_WARM_RESTART : Fld := ⟨0x400040, 0x100, 0, 30, 1⟩
def IPC_WARM_COLOUR : Fld := ⟨0x400040, 0x100, 0, 28, 2⟩
def IPC_WARM_WIN_S : Fld := ⟨0x400040, 0x100, 0, 20, 8⟩
def IPC_WARM_LIMIT : Fld := ⟨0x400040, 0x100, 0, 0, 16⟩
def IPC_WARM_STRIP : Fld := ⟨0x400044, 0x100, 0, 0, 32⟩
def IPC_WARM_STRIP_LAST : Fld := ⟨0x400044, 0x100, 0, 16, 14⟩
def IPC_WARM_STRIP_FIRST : Fld := ⟨0x400044, 0x100, 0, 0, 14⟩
def IPC_WARM_MEAN : Fld := ⟨0x400048, 0x100, 0, 0, 32⟩
def IPC_WARM_MEAN_VALID : Fld := ⟨0x400048, 0x100, 0, 31, 1⟩
def IPC_WARM_MEAN_MEAN : Fld := ⟨0x400048, 0x100, 0, 0, 20⟩
def IPC_WARM_DRIFT : Fld := ⟨0x40004c, 0x100, 0, 0, 32⟩
def IPC_WARM_DRIFT_DRIFT : Fld := ⟨0x40004c, 0x100, 0, 0, 16⟩
def IPC_CAP_CTRL : Fld := ⟨0x401000, 0, 0, 0, 32⟩
def IPC_CAP_CTRL_START : Fld := ⟨0x401000, 0, 0, 31, 1⟩
def IPC_CAP_CTRL_ABORT : Fld := ⟨0x401000, 0, 0, 30, 1⟩
def IPC_CAP_CTRL_FORCE : Fld := ⟨0x401000, 0, 0, 29, 1⟩
def IPC_CAP_CTRL_KIND : Fld := ⟨0x401000, 0, 0, 28, 1⟩
def IPC_CAP_CTRL_CHANNEL : Fld := ⟨0x401000, 0, 0, 16, 4⟩
def IPC_CAP_STAT : Fld := ⟨0x401004, 0, 0, 0, 32⟩
def IPC_CAP_STAT_BUSY : Fld := ⟨0x401004, 0, 0, 31, 1⟩
def IPC_CAP_STAT_DONE : Fld := ⟨0x401004, 0, 0, 30, 1⟩
def IPC_CAP_STAT_ERR : Fld := ⟨0x401004, 0, 0, 24, 4⟩
def IPC_CAP_STAT_CHANNEL : Fld := ⟨0x401004, 0, 0, 20, 4⟩
def IPC_CAP_STAT_SEEN : Fld := ⟨0x401004, 0, 0, 8, 9⟩
def IPC_CAP_STAT_ACCEPTED : Fld := ⟨0x401004, 0, 0, 0, 7⟩
def IPC_CAP_MINSPAN : Fld := ⟨0x401008, 0, 0, 0, 32⟩
def IPC_CAP_MINSPAN_MINSPAN : Fld := ⟨0x401008, 0, 0, 0, 20⟩
def IPC_CAP_DEFECT : Fld := ⟨0x40100c, 0, 0, 0, 32⟩
def IPC_CAP_DEFECT_COUNT : Fld := ⟨0x40100c, 0, 0, 16, 16⟩
def IPC_CAP_DEFECT_COLOUR : Fld := ⟨0x40100c, 0, 0, 14, 2⟩
def IPC_CAP_DEFECT_PIXEL : Fld := ⟨0x40100c, 0, 0, 0, 14⟩
def IPC_PAR : Fld := ⟨0x401010, 0, 0, 0, 32⟩
def IPC_PAR_SHD : Fld := ⟨0x401010, 0, 0, 16, 16⟩
def IPC_PAR_LIN : Fld := ⟨0x401010, 0, 0, 0, 16⟩
def IPC_PAR_ADDR : Fld := ⟨0x401014, 0, 0, 0, 32⟩
def IPC_PAR_ADDR_OFFSET : Fld := ⟨0x401014, 0, 0, 0, 22⟩
def IPC_WIN_REJ : Fld := ⟨0x401018, 0, 0, 0, 32⟩
def IPC_WIN_REJ_COUNT : Fld := ⟨0x401018, 0, 0, 0, 16⟩
def IPC_PEND_DISCARD : Fld := ⟨0x40101c, 0, 0, 0, 32⟩
def IPC_PEND_DISCARD_COUNT : Fld := ⟨0x40101c, 0, 0, 0, 16⟩
def IPC_LAMP_EVT : Fld := ⟨0x401020, 0, 0, 0, 32⟩
def IPC_LAMP_EVT_DRIFT : Fld := ⟨0x401020, 0, 0, 16, 12⟩
def IPC_LAMP_EVT_STABLE : Fld := ⟨0x401020, 0, 0, 0, 12⟩
def IPC_SAT_EVT : Fld := ⟨0x401024, 0, 0, 0, 32⟩
def IPC_SAT_EVT_CLIP : Fld := ⟨0x401024, 0, 0, 16, 12⟩
def IPC_SAT_EVT_SAT : Fld := ⟨0x401024, 0, 0, 0, 12⟩
def IPG_INLINE : Fld := ⟨0x500000, 0, 0, 0, 32⟩
def IPG_INLINE_EN : Fld := ⟨0x500000, 0, 0, 31, 1⟩
def IPG_INLINE_CHANNEL : Fld := ⟨0x500000, 0, 0, 0, 4⟩
def IPG_HIST_BASE : Fld := ⟨0x500004, 0, 0, 0, 32⟩
def IPG_HIST_BASE_BASE : Fld := ⟨0x500004, 0, 0, 0, 13⟩
def IPG_EVT : Fld := ⟨0x500010, 0, 0, 0, 32⟩
def IPG_EVT_GEO : Fld := ⟨0x500010, 0, 0, 12, 12⟩
def IPG_EVT_ARB : Fld := ⟨0x500010, 0, 0, 0, 12⟩
def IPG_CNT : Fld := ⟨0x500014, 0, 0, 0, 32⟩
def IPG_CNT_PEND_DISCARD : Fld := ⟨0x500014, 0, 0, 16, 16⟩
def IPG_CNT_FIR_REJ : Fld := ⟨0x500014, 0, 0, 0, 16⟩
def IPG_FIR : Fld := ⟨0x501000, 0x10, 4, 0, 32⟩
def IPG_FIR_TAP_HI : Fld := ⟨0x501000, 0x10, 4, 16, 16⟩
def IPG_FIR_TAP_LO : Fld := ⟨0x501000, 0x10, 4, 0, 16⟩
def IPG_CH_CFG : Fld := ⟨0x502000, 0x100, 0, 0, 32⟩
def IPG_CH_CFG_BACKLOG : Fld := ⟨0x502000, 0x100, 0, 16, 16⟩
def IPG_CH_CFG_DEADLINE : Fld := ⟨0x502000, 0x100, 0, 0, 16⟩
def IPG_LZ_BASE_LO : Fld := ⟨0x502004, 0x100, 0, 0, 32⟩
def IPG_LZ_BASE_LO_BASE : Fld := ⟨0x502004, 0x100, 0, 12, 20⟩
def IPG_LZ_BASE_HI : Fld := ⟨0x502008, 0x100, 0, 0, 32⟩
def IPG_LZ_BASE_HI_BASE : Fld := ⟨0x502008, 0x100, 0, 0, 2⟩
def IPG_CH_STAT : Fld := ⟨0x50200c, 0x100, 0, 0, 32⟩
def IPG_CH_STAT_INLINE_ACTIVE : Fld := ⟨0x50200c, 0x100, 0, 31, 1⟩
def IPG_CH_STAT_BACKLOG : Fld := ⟨0x50200c, 0x100, 0, 0, 12⟩
def IPG_CH_DROP : Fld := ⟨0x502010, 0x100, 0, 0, 32⟩
def IPG_CH_DROP_DROPPED : Fld := ⟨0x502010, 0x100, 0, 16, 16⟩
def IPG_CH_DROP_LATE : Fld := ⟨0x502010, 0x100, 0, 0, 16⟩
def IPG_GEO_CFG : Fld := ⟨0x502014, 0x100, 0, 0, 32⟩
def IPG_GEO_CFG_GEO_EN : Fld := ⟨0x502014, 0x100, 0, 31, 1⟩
def IPG_GEO_CFG_FPROF : Fld := ⟨0x502014, 0x100, 0, 24, 4⟩
def IPG_GEO_CFG_MINCONF : Fld := ⟨0x502014, 0x100, 0, 16, 8⟩
def IPG_GEO_CFG_MAXAGE : Fld := ⟨0x502014, 0x100, 0, 0, 16⟩
def IPG_GEO_REF : Fld := ⟨0x502018, 0x100, 0, 0, 32⟩
def IPG_GEO_REF_REF : Fld := ⟨0x502018, 0x100, 0, 0, 32⟩
def IPG_GEO_DIST : Fld := ⟨0x50201c, 0x100, 0, 0, 32⟩
def IPG_GEO_DIST_DIST : Fld := ⟨0x50201c, 0x100, 0, 0, 32⟩
def IPG_GEO_U0 : Fld := ⟨0x502020, 0x100, 0, 0, 32⟩
def IPG_GEO_U0_U0 : Fld := ⟨0x502020, 0x100, 0, 0, 20⟩
def IPG_GEO_TILT : Fld := ⟨0x502024, 0x100, 0, 0, 32⟩
def IPG_GEO_TILT_TILT : Fld := ⟨0x502024, 0x100, 0, 0, 16⟩
def IPG_GEO_STAT : Fld := ⟨0x502028, 0x100, 0, 0, 32⟩
def IPG_GEO_STAT_MAP_ERR : Fld := ⟨0x502028, 0x100, 0, 31, 1⟩
def IPG_GEO_STAT_AGE : Fld := ⟨0x502028, 0x100, 0, 0, 16⟩
def IPG_RMAP : Fld := ⟨0x504000, 0x400, 4, 0, 32⟩
def IPG_RMAP_SRC : Fld := ⟨0x504000, 0x400, 4, 30, 2⟩
def IPG_RMAP_RCH : Fld := ⟨0x504000, 0x400, 4, 22, 8⟩
def IPG_RMAP_COL : Fld := ⟨0x504000, 0x400, 4, 0, 22⟩
def IPG_VIEW_CFG : Fld := ⟨0x508000, 0x20, 0, 0, 32⟩
def IPG_VIEW_CFG_EN : Fld := ⟨0x508000, 0x20, 0, 31, 1⟩
def IPG_VIEW_CFG_FLUSH : Fld := ⟨0x508000, 0x20, 0, 30, 1⟩
def IPG_VIEW_CFG_QUEUE : Fld := ⟨0x508000, 0x20, 0, 24, 6⟩
def IPG_VIEW_CFG_CHANNEL : Fld := ⟨0x508000, 0x20, 0, 20, 4⟩
def IPG_VIEW_CFG_COLOURS : Fld := ⟨0x508000, 0x20, 0, 16, 4⟩
def IPG_VIEW_CFG_DEPTH : Fld := ⟨0x508000, 0x20, 0, 14, 2⟩
def IPG_VIEW_CFG_CFMT : Fld := ⟨0x508000, 0x20, 0, 13, 1⟩
def IPG_VIEW_CFG_LPP : Fld := ⟨0x508000, 0x20, 0, 7, 6⟩
def IPG_VIEW_CROP : Fld := ⟨0x508004, 0x20, 0, 0, 32⟩
def IPG_VIEW_CROP_LAST : Fld := ⟨0x508004, 0x20, 0, 16, 14⟩
def IPG_VIEW_CROP_FIRST : Fld := ⟨0x508004, 0x20, 0, 0, 14⟩
def IPG_VIEW_SCALE : Fld := ⟨0x508008, 0x20, 0, 0, 32⟩
def IPG_VIEW_SCALE_VMODE : Fld := ⟨0x508008, 0x20, 0, 30, 2⟩
def IPG_VIEW_SCALE_VDIV : Fld := ⟨0x508008, 0x20, 0, 24, 4⟩
def IPG_VIEW_SCALE_SCALE : Fld := ⟨0x508008, 0x20, 0, 0, 9⟩
def IPG_VIEW_STAT : Fld := ⟨0x50800c, 0x20, 0, 0, 32⟩
def IPG_VIEW_STAT_CFG_ERR : Fld := ⟨0x50800c, 0x20, 0, 31, 1⟩
def IPG_VIEW_STAT_LWORDS : Fld := ⟨0x50800c, 0x20, 0, 0, 19⟩
def AXS_CFG : Fld := ⟨0x600000, 0x100, 0, 0, 32⟩
def AXS_CFG_MRES : Fld := ⟨0x600000, 0x100, 0, 28, 4⟩
def AXS_CFG_SWA_FN : Fld := ⟨0x600000, 0x100, 0, 26, 2⟩
def AXS_CFG_SWB_FN : Fld := ⟨0x600000, 0x100, 0, 24, 2⟩
def AXS_CFG_SWA_POL : Fld := ⟨0x600000, 0x100, 0, 23, 1⟩
def AXS_CFG_SWB_POL : Fld := ⟨0x600000, 0x100, 0, 22, 1⟩
def AXS_CFG_MOTOR_INV : Fld := ⟨0x600000, 0x100, 0, 21, 1⟩
def AXS_CFG_SW_FILT : Fld := ⟨0x600000, 0x100, 0, 8, 8⟩
def AXS_CFG_BRIDGE : Fld := ⟨0x600000, 0x100, 0, 0, 2⟩
def AXS_CTRL : Fld := ⟨0x600004, 0x100, 0, 0, 32⟩
def AXS_CTRL_EN : Fld := ⟨0x600004, 0x100, 0, 31, 1⟩
def AXS_CTRL_STOP : Fld := ⟨0x600004, 0x100, 0, 30, 1⟩
def AXS_CTRL_HOME : Fld := ⟨0x600004, 0x100, 0, 29, 1⟩
def AXS_CTRL_MODE : Fld := ⟨0x600004, 0x100, 0, 26, 2⟩
def AXS_CTRL_PROFILE : Fld := ⟨0x600004, 0x100, 0, 25, 1⟩
def AXS_TARGET : Fld := ⟨0x600008, 0x100, 0, 0, 32⟩
def AXS_TARGET_TARGET : Fld := ⟨0x600008, 0x100, 0, 0, 32⟩
def AXS_VMAX : Fld := ⟨0x60000c, 0x100, 0, 0, 32⟩
def AXS_VMAX_VMAX : Fld := ⟨0x60000c, 0x100, 0, 0, 19⟩
def AXS_AMAX : Fld := ⟨0x600010, 0x100, 0, 0, 32⟩
def AXS_AMAX_AMAX : Fld := ⟨0x600010, 0x100, 0, 0, 32⟩
def AXS_DMAX : Fld := ⟨0x600014, 0x100, 0, 0, 32⟩
def AXS_DMAX_DMAX : Fld := ⟨0x600014, 0x100, 0, 0, 32⟩
def AXS_JMAX : Fld := ⟨0x600018, 0x100, 0, 0, 32⟩
def AXS_JMAX_JMAX : Fld := ⟨0x600018, 0x100, 0, 0, 32⟩
def AXS_DSTOP : Fld := ⟨0x60001c, 0x100, 0, 0, 32⟩
def AXS_DSTOP_DSTOP : Fld := ⟨0x60001c, 0x100, 0, 0, 32⟩
def AXS_VTARGET : Fld := ⟨0x600020, 0x100, 0, 0, 32⟩
def AXS_VTARGET_VTARGET : Fld := ⟨0x600020, 0x100, 0, 0, 32⟩
def AXS_POS_LO : Fld := ⟨0x600024, 0x100, 0, 0, 32⟩
def AXS_POS_LO_FRAC : Fld := ⟨0x600024, 0x100, 0, 0, 32⟩
def AXS_POS_HI : Fld := ⟨0x600028, 0x100, 0, 0, 32⟩
def AXS_POS_HI_INT : Fld := ⟨0x600028, 0x100, 0, 0, 32⟩
def AXS_VEL : Fld := ⟨0x60002c, 0x100, 0, 0, 32⟩
def AXS_VEL_VEL : Fld := ⟨0x60002c, 0x100, 0, 0, 32⟩
def AXS_STAT : Fld := ⟨0x600030, 0x100, 0, 0, 32⟩
def AXS_STAT_REF : Fld := ⟨0x600030, 0x100, 0, 31, 1⟩
def AXS_STAT_MOVING : Fld := ⟨0x600030, 0x100, 0, 30, 1⟩
def AXS_STAT_DIR : Fld := ⟨0x600030, 0x100, 0, 29, 1⟩
def AXS_STAT_LINE_SUSP : Fld := ⟨0x600030, 0x100, 0, 28, 1⟩
def AXS_STAT_AT_LIMIT_NEG : Fld := ⟨0x600030, 0x100, 0, 27, 1⟩
def AXS_STAT_AT_LIMIT_POS : Fld := ⟨0x600030, 0x100, 0, 26, 1⟩
def AXS_STAT_ACCEL_DEFERRED : Fld := ⟨0x600030, 0x100, 0, 25, 1⟩
def AXS_STAT_HOME_FAIL : Fld := ⟨0x600030, 0x100, 0, 24, 1⟩
def AXS_STAT_CFG_ERR : Fld := ⟨0x600030, 0x100, 0, 23, 1⟩
def AXS_STAT_PHASE : Fld := ⟨0x600030, 0x100, 0, 16, 4⟩
def AXS_BACKLASH : Fld := ⟨0x600034, 0x100, 0, 0, 32⟩
def AXS_BACKLASH_BACKLASH : Fld := ⟨0x600034, 0x100, 0, 0, 12⟩
def AXS_LINE_PITCH : Fld := ⟨0x600038, 0x100, 0, 0, 32⟩
def AXS_LINE_PITCH_PITCH : Fld := ⟨0x600038, 0x100, 0, 0, 32⟩
def AXS_LINE_ORIGIN : Fld := ⟨0x60003c, 0x100, 0, 0, 32⟩
def AXS_LINE_ORIGIN_ORIGIN : Fld := ⟨0x60003c, 0x100, 0, 0, 32⟩
def AXS_SOFT_MIN : Fld := ⟨0x600040, 0x100, 0, 0, 32⟩
def AXS_SOFT_MIN_MIN : Fld := ⟨0x600040, 0x100, 0, 0, 32⟩
def AXS_SOFT_MAX : Fld := ⟨0x600044, 0x100, 0, 0, 32⟩
def AXS_SOFT_MAX_MAX : Fld := ⟨0x600044, 0x100, 0, 0, 32⟩
def AXS_HOME : Fld := ⟨0x600048, 0x100, 0, 0, 32⟩
def AXS_HOME_HOME_DIR : Fld := ⟨0x600048, 0x100, 0, 31, 1⟩
def AXS_HOME_MAXDIST : Fld := ⟨0x600048, 0x100, 0, 16, 8⟩
def AXS_HOME_HOME_VEL : Fld := ⟨0x600048, 0x100, 0, 0, 16⟩
def AXS_HOME_OFFSET : Fld := ⟨0x60004c, 0x100, 0, 0, 32⟩
def AXS_HOME_OFFSET_OFFSET : Fld := ⟨0x60004c, 0x100, 0, 0, 32⟩
def AXS_LATCH_POS : Fld := ⟨0x600050, 0x100, 0, 0, 32⟩
def AXS_LATCH_POS_POS : Fld := ⟨0x600050, 0x100, 0, 0, 32⟩
def AXS_LATCH_ENC : Fld := ⟨0x600054, 0x100, 0, 0, 32⟩
def AXS_LATCH_ENC_ENC : Fld := ⟨0x600054, 0x100, 0, 0, 32⟩
def AXS_LATCH_INFO : Fld := ⟨0x600058, 0x100, 0, 0, 32⟩
def AXS_LATCH_INFO_VALID : Fld := ⟨0x600058, 0x100, 0, 31, 1⟩
def AXS_LATCH_INFO_OVER : Fld := ⟨0x600058, 0x100, 0, 30, 1⟩
def AXS_LATCH_INFO_SWITCH : Fld := ⟨0x600058, 0x100, 0, 29, 1⟩
def AXS_LATCH_INFO_EDGE : Fld := ⟨0x600058, 0x100, 0, 28, 1⟩
def AXS_LATCH_TIME_LO : Fld := ⟨0x60005c, 0x100, 0, 0, 32⟩
def AXS_LATCH_TIME_LO_NS : Fld := ⟨0x60005c, 0x100, 0, 0, 32⟩
def AXS_LATCH_TIME_HI : Fld := ⟨0x600060, 0x100, 0, 0, 32⟩
def AXS_LATCH_TIME_HI_NS : Fld := ⟨0x600060, 0x100, 0, 0, 32⟩
def AXS_MPOS : Fld := ⟨0x600064, 0x100, 0, 0, 32⟩
def AXS_MPOS_MPOS : Fld := ⟨0x600064, 0x100, 0, 0, 32⟩
def AXS_CNT : Fld := ⟨0x600068, 0x100, 0, 0, 32⟩
def AXS_CNT_TGT_REJ : Fld := ⟨0x600068, 0x100, 0, 16, 16⟩
def AXS_CNT_DEFERRED : Fld := ⟨0x600068, 0x100, 0, 0, 16⟩
def AXS_CUR : Fld := ⟨0x600080, 0x100, 0, 0, 32⟩
def AXS_CUR_IBOOST : Fld := ⟨0x600080, 0x100, 0, 20, 10⟩
def AXS_CUR_IHOLD : Fld := ⟨0x600080, 0x100, 0, 10, 10⟩
def AXS_CUR_IRUN : Fld := ⟨0x600080, 0x100, 0, 0, 10⟩
def AXS_CHOP : Fld := ⟨0x600084, 0x100, 0, 0, 32⟩
def AXS_CHOP_DECAY : Fld := ⟨0x600084, 0x100, 0, 30, 2⟩
def AXS_CHOP_TFAST : Fld := ⟨0x600084, 0x100, 0, 24, 6⟩
def AXS_CHOP_TOFF : Fld := ⟨0x600084, 0x100, 0, 16, 8⟩
def AXS_CHOP_TBLANK : Fld := ⟨0x600084, 0x100, 0, 12, 4⟩
def AXS_CHOP_HYST : Fld := ⟨0x600084, 0x100, 0, 0, 8⟩
def AXS_HOLD : Fld := ⟨0x600088, 0x100, 0, 0, 32⟩
def AXS_HOLD_MAXON : Fld := ⟨0x600088, 0x100, 0, 24, 8⟩
def AXS_HOLD_THOLD : Fld := ⟨0x600088, 0x100, 0, 0, 16⟩
def AXS_OFFS_CFG : Fld := ⟨0x60008c, 0x100, 0, 0, 32⟩
def AXS_OFFS_CFG_ADAPT_EN : Fld := ⟨0x60008c, 0x100, 0, 31, 1⟩
def AXS_OFFS_CFG_CLEAR : Fld := ⟨0x60008c, 0x100, 0, 30, 1⟩
def AXS_OFFS_CFG_OFFS_MAX : Fld := ⟨0x60008c, 0x100, 0, 16, 8⟩
def AXS_OFFS_CFG_GAIN_SHIFT : Fld := ⟨0x60008c, 0x100, 0, 0, 4⟩
def AXS_OFFS : Fld := ⟨0x600090, 0x100, 4, 0, 32⟩
def AXS_OFFS_OFFS : Fld := ⟨0x600090, 0x100, 4, 0, 16⟩
def AXS_ENC_CFG : Fld := ⟨0x6000b0, 0x100, 0, 0, 32⟩
def AXS_ENC_CFG_ENC_EN : Fld := ⟨0x6000b0, 0x100, 0, 31, 1⟩
def AXS_ENC_CFG_ENC_INV : Fld := ⟨0x6000b0, 0x100, 0, 30, 1⟩
def AXS_ENC_CFG_ENC_SIDE : Fld := ⟨0x6000b0, 0x100, 0, 29, 1⟩
def AXS_ENC_CFG_ENC_FILT : Fld := ⟨0x6000b0, 0x100, 0, 24, 3⟩
def AXS_ENC_RATIO : Fld := ⟨0x6000b4, 0x100, 0, 0, 32⟩
def AXS_ENC_RATIO_RATIO : Fld := ⟨0x6000b4, 0x100, 0, 0, 32⟩
def AXS_ENC : Fld := ⟨0x6000b8, 0x100, 0, 0, 32⟩
def AXS_ENC_COUNT : Fld := ⟨0x6000b8, 0x100, 0, 0, 32⟩
def AXS_DEV_CFG : Fld := ⟨0x6000bc, 0x100, 0, 0, 32⟩
def AXS_DEV_CFG_SUPMODE : Fld := ⟨0x6000bc, 0x100, 0, 31, 1⟩
def AXS_DEV_CFG_DEV_TIME : Fld := ⟨0x6000bc, 0x100, 0, 16, 8⟩
def AXS_DEV_CFG_DEV_WIN : Fld := ⟨0x6000bc, 0x100, 0, 0, 16⟩
def AXS_BOOST : Fld := ⟨0x6000c0, 0x100, 0, 0, 32⟩
def AXS_BOOST_BOOST_DEAD : Fld := ⟨0x6000c0, 0x100, 0, 24, 8⟩
def AXS_BOOST_BOOST_K : Fld := ⟨0x6000c0, 0x100, 0, 0, 16⟩
def AXS_DEV : Fld := ⟨0x6000c4, 0x100, 0, 0, 32⟩
def AXS_DEV_DEV : Fld := ⟨0x6000c4, 0x100, 0, 0, 32⟩
def AXS_SUP_STAT : Fld := ⟨0x6000c8, 0x100, 0, 0, 32⟩
def AXS_SUP_STAT_STALL : Fld := ⟨0x6000c8, 0x100, 0, 31, 1⟩
def AXS_SUP_STAT_DEV_WARN : Fld := ⟨0x6000c8, 0x100, 0, 30, 1⟩
def AXS_SUP_STAT_OVERCURRENT : Fld := ⟨0x6000c8, 0x100, 0, 29, 1⟩
def AXS_SUP_STAT_OPEN_A : Fld := ⟨0x6000c8, 0x100, 0, 28, 1⟩
def AXS_SUP_STAT_OPEN_B : Fld := ⟨0x6000c8, 0x100, 0, 27, 1⟩
def AXS_SUP_STAT_BOOST_MAX : Fld := ⟨0x6000c8, 0x100, 0, 26, 1⟩
def AXS_SUP_STAT_NO_ENC : Fld := ⟨0x6000c8, 0x100, 0, 25, 1⟩
def AXS_SUP_STAT_HOLDING : Fld := ⟨0x6000c8, 0x100, 0, 24, 1⟩
def AXS_SUP_STAT_QUAD : Fld := ⟨0x6000c8, 0x100, 0, 16, 2⟩
def AXS_SUP_STAT_ISET : Fld := ⟨0x6000c8, 0x100, 0, 0, 10⟩
def AXS_SUP_CNT : Fld := ⟨0x6000cc, 0x100, 0, 0, 32⟩
def AXS_SUP_CNT_STALLS : Fld := ⟨0x6000cc, 0x100, 0, 16, 16⟩
def AXS_SUP_CNT_DEV_WARNS : Fld := ⟨0x6000cc, 0x100, 0, 0, 16⟩
def AXS_PACE_CFG : Fld := ⟨0x600400, 0x40, 0, 0, 32⟩
def AXS_PACE_CFG_STITCH_EN : Fld := ⟨0x600400, 0x40, 0, 31, 1⟩
def AXS_PACE_CFG_QUEUE : Fld := ⟨0x600400, 0x40, 0, 24, 6⟩
def AXS_PACE_CFG_DRAIN_SHIFT : Fld := ⟨0x600400, 0x40, 0, 20, 4⟩
def AXS_PACE_CFG_CH : Fld := ⟨0x600400, 0x40, 0, 16, 4⟩
def AXS_PACE_CFG_SETPOINT : Fld := ⟨0x600400, 0x40, 0, 0, 16⟩
def AXS_PACE_LVL : Fld := ⟨0x600404, 0x40, 0, 0, 32⟩
def AXS_PACE_LVL_STOP : Fld := ⟨0x600404, 0x40, 0, 16, 16⟩
def AXS_PACE_LVL_RESUME : Fld := ⟨0x600404, 0x40, 0, 0, 16⟩
def AXS_PACE_GAIN : Fld := ⟨0x600408, 0x40, 0, 0, 32⟩
def AXS_PACE_GAIN_KP : Fld := ⟨0x600408, 0x40, 0, 20, 12⟩
def AXS_PACE_GAIN_RATE_MAX : Fld := ⟨0x600408, 0x40, 0, 0, 20⟩
def AXS_STITCH_CFG : Fld := ⟨0x60040c, 0x40, 0, 0, 32⟩
def AXS_STITCH_CFG_COLOUR : Fld := ⟨0x60040c, 0x40, 0, 30, 2⟩
def AXS_STITCH_CFG_TOL : Fld := ⟨0x60040c, 0x40, 0, 20, 10⟩
def AXS_STITCH_CFG_MINVAR : Fld := ⟨0x60040c, 0x40, 0, 0, 16⟩
def AXS_STITCH_VEL : Fld := ⟨0x600410, 0x40, 0, 0, 32⟩
def AXS_STITCH_VEL_VEL : Fld := ⟨0x600410, 0x40, 0, 0, 19⟩
def AXS_STITCH_WIN : Fld := ⟨0x600414, 0x40, 0, 0, 32⟩
def AXS_STITCH_WIN_LAST : Fld := ⟨0x600414, 0x40, 0, 16, 14⟩
def AXS_STITCH_WIN_FIRST : Fld := ⟨0x600414, 0x40, 0, 0, 14⟩
def AXS_PACE_STAT : Fld := ⟨0x600418, 0x40, 0, 0, 32⟩
def AXS_PACE_STAT_STATE : Fld := ⟨0x600418, 0x40, 0, 28, 4⟩
def AXS_PACE_STAT_CHECKS : Fld := ⟨0x600418, 0x40, 0, 24, 4⟩
def AXS_PACE_STAT_STITCH_POOR : Fld := ⟨0x600418, 0x40, 0, 23, 1⟩
def AXS_PACE_STAT_STITCH_ABORT : Fld := ⟨0x600418, 0x40, 0, 22, 1⟩
def AXS_PACE_STAT_PAGE_END : Fld := ⟨0x600418, 0x40, 0, 21, 1⟩
def AXS_PACE_STAT_SEAM_PEND : Fld := ⟨0x600418, 0x40, 0, 20, 1⟩
def AXS_PACE_STAT_INFLIGHT : Fld := ⟨0x600418, 0x40, 0, 0, 16⟩
def AXS_PACE_RATE : Fld := ⟨0x60041c, 0x40, 0, 0, 32⟩
def AXS_PACE_RATE_RATE : Fld := ⟨0x60041c, 0x40, 0, 0, 20⟩
def AXS_STITCH_RES : Fld := ⟨0x600420, 0x40, 0, 0, 32⟩
def AXS_STITCH_RES_SEAMS : Fld := ⟨0x600420, 0x40, 0, 16, 16⟩
def AXS_STITCH_RES_RESIDUAL : Fld := ⟨0x600420, 0x40, 0, 0, 15⟩
def RGE_CTRL : Fld := ⟨0x700000, 0, 0, 0, 32⟩
def RGE_CTRL_ARM : Fld := ⟨0x700000, 0, 0, 31, 1⟩
def RGE_CTRL_DISARM : Fld := ⟨0x700000, 0, 0, 30, 1⟩
def RGE_STAT : Fld := ⟨0x700004, 0, 0, 0, 32⟩
def RGE_STAT_ARMED : Fld := ⟨0x700004, 0, 0, 31, 1⟩
def RGE_STAT_BUSY : Fld := ⟨0x700004, 0, 0, 30, 1⟩
def RGE_STAT_BLACKOUT : Fld := ⟨0x700004, 0, 0, 29, 1⟩
def RGE_STAT_SAFE_OK : Fld := ⟨0x700004, 0, 0, 28, 1⟩
def RGE_STAT_FAULT_IN : Fld := ⟨0x700004, 0, 0, 27, 1⟩
def RGE_STAT_INHIBIT_IN : Fld := ⟨0x700004, 0, 0, 26, 1⟩
def RGE_STAT_PROFILE : Fld := ⟨0x700004, 0, 0, 20, 4⟩
def RGE_STAT_PHASE : Fld := ⟨0x700004, 0, 0, 18, 2⟩
def RGE_STAT_SAFE_TRIP : Fld := ⟨0x700004, 0, 0, 15, 1⟩
def RGE_STAT_FAULT_TRIP : Fld := ⟨0x700004, 0, 0, 14, 1⟩
def RGE_STAT_INHIBIT_TRIP : Fld := ⟨0x700004, 0, 0, 13, 1⟩
def RGE_STAT_ABORTED : Fld := ⟨0x700004, 0, 0, 12, 1⟩
def RGE_STAT_ARM_ERR : Fld := ⟨0x700004, 0, 0, 4, 4⟩
def RGE_LIMITS : Fld := ⟨0x700008, 0, 0, 0, 32⟩
def RGE_LIMITS_MAXW : Fld := ⟨0x700008, 0, 0, 24, 5⟩
def RGE_LIMITS_MIN_PER : Fld := ⟨0x700008, 0, 0, 0, 16⟩
def RGE_STEER : Fld := ⟨0x70000c, 0, 0, 0, 32⟩
def RGE_STEER_SETTLE : Fld := ⟨0x70000c, 0, 0, 0, 16⟩
def RGE_CODE : Fld := ⟨0x700010, 0, 0, 0, 32⟩
def RGE_CODE_SRC : Fld := ⟨0x700010, 0, 0, 31, 1⟩
def RGE_CODE_FALLBACK : Fld := ⟨0x700010, 0, 0, 30, 1⟩
def RGE_CODE_FAMILY : Fld := ⟨0x700010, 0, 0, 16, 11⟩
def RGE_CODE_LOCAL : Fld := ⟨0x700010, 0, 0, 0, 11⟩
def RGE_SEG_EN : Fld := ⟨0x700014, 0, 0, 0, 32⟩
def RGE_SEG_EN_EN : Fld := ⟨0x700014, 0, 0, 0, 32⟩
def RGE_CNT : Fld := ⟨0x700018, 0, 0, 0, 32⟩
def RGE_CNT_WITHHELD : Fld := ⟨0x700018, 0, 0, 16, 16⟩
def RGE_CNT_REFUSED : Fld := ⟨0x700018, 0, 0, 0, 16⟩
def RGE_LIMITED : Fld := ⟨0x70001c, 0, 0, 0, 32⟩
def RGE_LIMITED_SEG : Fld := ⟨0x70001c, 0, 0, 0, 32⟩
def RGE_FP_TIME : Fld := ⟨0x700100, 0x10, 0, 0, 32⟩
def RGE_FP_TIME_DBITS : Fld := ⟨0x700100, 0x10, 0, 24, 4⟩
def RGE_FP_TIME_WIDTH : Fld := ⟨0x700100, 0x10, 0, 16, 5⟩
def RGE_FP_TIME_SHOT_PER : Fld := ⟨0x700100, 0x10, 0, 0, 16⟩
def RGE_FP_SHOTS : Fld := ⟨0x700104, 0x10, 0, 0, 32⟩
def RGE_FP_SHOTS_SHOTS_Z : Fld := ⟨0x700104, 0x10, 0, 16, 12⟩
def RGE_FP_SHOTS_SHOTS_C : Fld := ⟨0x700104, 0x10, 0, 0, 12⟩
def RGE_FP_SEQ : Fld := ⟨0x700108, 0x10, 0, 0, 32⟩
def RGE_FP_SEQ_PH3 : Fld := ⟨0x700108, 0x10, 0, 22, 2⟩
def RGE_FP_SEQ_PH2 : Fld := ⟨0x700108, 0x10, 0, 20, 2⟩
def RGE_FP_SEQ_PH1 : Fld := ⟨0x700108, 0x10, 0, 18, 2⟩
def RGE_FP_SEQ_PH0 : Fld := ⟨0x700108, 0x10, 0, 16, 2⟩
def RGE_FP_SEQ_NPH : Fld := ⟨0x700108, 0x10, 0, 8, 2⟩
def RGE_FP_SEQ_LINE_MASK : Fld := ⟨0x700108, 0x10, 0, 0, 8⟩
def RGE_SAFE_LIMIT : Fld := ⟨0x700200, 4, 0, 0, 32⟩
def RGE_SAFE_LIMIT_LIMIT : Fld := ⟨0x700200, 4, 0, 0, 32⟩
def RGE_SAFE_ACC : Fld := ⟨0x700280, 4, 0, 0, 32⟩
def RGE_SAFE_ACC_SUM : Fld := ⟨0x700280, 4, 0, 0, 32⟩
def RGH_CTRL : Fld := ⟨0x800000, 0, 0, 0, 32⟩
def RGH_CTRL_FREEZE : Fld := ⟨0x800000, 0, 0, 31, 1⟩
def RGH_STAT : Fld := ⟨0x800004, 0, 0, 0, 32⟩
def RGH_STAT_BUSY : Fld := ⟨0x800004, 0, 0, 31, 1⟩
def RGH_STAT_FROZEN : Fld := ⟨0x800004, 0, 0, 30, 1⟩
def RGH_STAT_FROZEN_BUF : Fld := ⟨0x800004, 0, 0, 29, 1⟩
def RGH_STAT_FILL_BUF : Fld := ⟨0x800004, 0, 0, 28, 1⟩
def RGH_STAT_PHASE : Fld := ⟨0x800004, 0, 0, 26, 2⟩
def RGH_STAT_PASS : Fld := ⟨0x800004, 0, 0, 24, 2⟩
def RGH_START : Fld := ⟨0x800008, 0, 0, 0, 32⟩
def RGH_START_START_WIN : Fld := ⟨0x800008, 0, 0, 0, 4⟩
def RGH_CNT : Fld := ⟨0x80000c, 0, 0, 0, 32⟩
def RGH_CNT_START_MISS : Fld := ⟨0x80000c, 0, 0, 16, 16⟩
def RGH_CNT_REFUSED : Fld := ⟨0x80000c, 0, 0, 0, 16⟩
def RGH_EVT_OVER : Fld := ⟨0x800010, 0, 0, 0, 32⟩
def RGH_EVT_OVER_COUNT : Fld := ⟨0x800010, 0, 0, 0, 32⟩
def RGH_FRAME : Fld := ⟨0x800014, 0, 0, 0, 32⟩
def RGH_FRAME_NUMBER : Fld := ⟨0x800014, 0, 0, 0, 32⟩
def RGH_FROZEN_FRAME : Fld := ⟨0x800018, 0, 0, 0, 32⟩
def RGH_FROZEN_FRAME_NUMBER : Fld := ⟨0x800018, 0, 0, 0, 32⟩
def RGH_SAT_CNT : Fld := ⟨0x80001c, 0, 0, 0, 32⟩
def RGH_SAT_CNT_COUNT : Fld := ⟨0x80001c, 0, 0, 0, 16⟩
def RGH_RC_EN : Fld := ⟨0x800040, 4, 0, 0, 32⟩
def RGH_RC_EN_EN : Fld := ⟨0x800040, 4, 0, 0, 32⟩
def RGH_FP_WIN : Fld := ⟨0x800100, 0x10, 0, 0, 32⟩
def RGH_FP_WIN_ZOOM_EN : Fld := ⟨0x800100, 0x10, 0, 31, 1⟩
def RGH_FP_WIN_Z : Fld := ⟨0x800100, 0x10, 0, 24, 3⟩
def RGH_FP_WIN_CSTART : Fld := ⟨0x800100, 0x10, 0, 0, 9⟩
def RGH_FP_PEAK : Fld := ⟨0x800104, 0x10, 0, 0, 32⟩
def RGH_FP_PEAK_RULE : Fld := ⟨0x800104, 0x10, 0, 30, 2⟩
def RGH_FP_PEAK_SEP : Fld := ⟨0x800104, 0x10, 0, 24, 6⟩
def RGH_FP_PEAK_PAR : Fld := ⟨0x800104, 0x10, 0, 16, 8⟩
def RGH_FP_PEAK_MINCNT : Fld := ⟨0x800104, 0x10, 0, 0, 16⟩
def RGH_FP_EXPECT : Fld := ⟨0x800108, 0x10, 0, 0, 32⟩
def RGH_FP_EXPECT_EXPECT : Fld := ⟨0x800108, 0x10, 0, 0, 24⟩
def RGH_FP_PROC : Fld := ⟨0x80010c, 0x10, 0, 0, 32⟩
def RGH_FP_PROC_PILE_EN : Fld := ⟨0x80010c, 0x10, 0, 31, 1⟩
def RGH_FP_PROC_XT_EN : Fld := ⟨0x80010c, 0x10, 0, 30, 1⟩
def RGH_FP_PROC_EDGE : Fld := ⟨0x80010c, 0x10, 0, 0, 8⟩
def RGH_FIX_CFG : Fld := ⟨0x801000, 0, 0, 0, 32⟩
def RGH_FIX_CFG_QEN : Fld := ⟨0x801000, 0, 0, 31, 1⟩
def RGH_FIX_CFG_QUEUE : Fld := ⟨0x801000, 0, 0, 24, 6⟩
def RGH_FIX_CFG_ALOG : Fld := ⟨0x801000, 0, 0, 20, 2⟩
def RGH_FIX_SCALE : Fld := ⟨0x801004, 0, 0, 0, 32⟩
def RGH_FIX_SCALE_SCALE : Fld := ⟨0x801004, 0, 0, 0, 32⟩
def RGH_FIX_STAT : Fld := ⟨0x801008, 0, 0, 0, 32⟩
def RGH_FIX_STAT_CAL_VALID : Fld := ⟨0x801008, 0, 0, 31, 1⟩
def RGH_FIX_STAT_CAL_STALE : Fld := ⟨0x801008, 0, 0, 30, 1⟩
def RGH_FIX_STAT_LOAD_ANY : Fld := ⟨0x801008, 0, 0, 29, 1⟩
def RGH_FIX_STAT_CAL_FAULT : Fld := ⟨0x801008, 0, 0, 28, 1⟩
def RGH_FIX_CNT : Fld := ⟨0x80100c, 0, 0, 0, 32⟩
def RGH_FIX_CNT_QDROP : Fld := ⟨0x80100c, 0, 0, 16, 16⟩
def RGH_FIX_CNT_WINDOW : Fld := ⟨0x80100c, 0, 0, 0, 16⟩
def RGH_CAL_CTRL : Fld := ⟨0x801010, 0, 0, 0, 32⟩
def RGH_CAL_CTRL_EN : Fld := ⟨0x801010, 0, 0, 31, 1⟩
def RGH_CAL_CTRL_AGE_MAX : Fld := ⟨0x801010, 0, 0, 0, 16⟩
def RGH_CAL_STAT : Fld := ⟨0x801014, 0, 0, 0, 32⟩
def RGH_CAL_STAT_SWEEP : Fld := ⟨0x801014, 0, 0, 31, 1⟩
def RGH_CAL_STAT_INPUT : Fld := ⟨0x801014, 0, 0, 16, 7⟩
def RGH_CAL_STAT_AGE : Fld := ⟨0x801014, 0, 0, 0, 16⟩
def RGH_LOAD_STAT : Fld := ⟨0x801020, 4, 0, 0, 32⟩
def RGH_LOAD_STAT_LOAD : Fld := ⟨0x801020, 4, 0, 0, 32⟩
def RGH_RATE : Fld := ⟨0x801100, 4, 0, 0, 32⟩
def RGH_RATE_RATE : Fld := ⟨0x801100, 4, 0, 0, 32⟩
def RGH_RATE_CAL : Fld := ⟨0x801280, 4, 0, 0, 32⟩
def RGH_RATE_CAL_RATE : Fld := ⟨0x801280, 4, 0, 0, 32⟩
def RGH_FIX_ZERO : Fld := ⟨0x801400, 4, 0, 0, 32⟩
def RGH_FIX_ZERO_ZERO : Fld := ⟨0x801400, 4, 0, 0, 32⟩
def RGH_ZONE_CFG : Fld := ⟨0x801800, 0x10, 0, 0, 32⟩
def RGH_ZONE_CFG_EN : Fld := ⟨0x801800, 0x10, 0, 31, 1⟩
def RGH_ZONE_CFG_MODE : Fld := ⟨0x801800, 0x10, 0, 29, 2⟩
def RGH_ZONE_CFG_EXCL_LOAD : Fld := ⟨0x801800, 0x10, 0, 28, 1⟩
def RGH_ZONE_CFG_LAST : Fld := ⟨0x801800, 0x10, 0, 16, 8⟩
def RGH_ZONE_CFG_FIRST : Fld := ⟨0x801800, 0x10, 0, 8, 8⟩
def RGH_ZONE_CFG_MINCONF : Fld := ⟨0x801800, 0x10, 0, 0, 8⟩
def RGH_ZONE_HEAD : Fld := ⟨0x801804, 0x10, 0, 0, 32⟩
def RGH_ZONE_HEAD_HEAD : Fld := ⟨0x801804, 0x10, 0, 0, 32⟩
def RGH_ZONE_MIN : Fld := ⟨0x801808, 0x10, 0, 0, 32⟩
def RGH_ZONE_MIN_GAP_MIN : Fld := ⟨0x801808, 0x10, 0, 0, 16⟩
def RGH_ZONE_VAL : Fld := ⟨0x80180c, 0x10, 0, 0, 32⟩
def RGH_ZONE_VAL_FRAME : Fld := ⟨0x80180c, 0x10, 0, 24, 8⟩
def RGH_ZONE_VAL_LOAD : Fld := ⟨0x80180c, 0x10, 0, 18, 1⟩
def RGH_ZONE_VAL_LOW : Fld := ⟨0x80180c, 0x10, 0, 17, 1⟩
def RGH_ZONE_VAL_NONE : Fld := ⟨0x80180c, 0x10, 0, 16, 1⟩
def RGH_ZONE_VAL_GAP : Fld := ⟨0x80180c, 0x10, 0, 0, 16⟩
def ILU_CTRL : Fld := ⟨0x900000, 0, 0, 0, 32⟩
def ILU_CTRL_LAMP_OFF : Fld := ⟨0x900000, 0, 0, 31, 1⟩
def ILU_CTRL_LAMP_CLR : Fld := ⟨0x900000, 0, 0, 30, 1⟩
def ILU_CTRL_DISS_CLR : Fld := ⟨0x900000, 0, 0, 29, 1⟩
def ILU_CTRL_SHORT_TEST : Fld := ⟨0x900000, 0, 0, 28, 1⟩
def ILU_STAT : Fld := ⟨0x900004, 0, 0, 0, 32⟩
def ILU_STAT_LAMP_TRIP : Fld := ⟨0x900004, 0, 0, 31, 1⟩
def ILU_STAT_DISS_TRIP : Fld := ⟨0x900004, 0, 0, 30, 1⟩
def ILU_STAT_DISS_WARN : Fld := ⟨0x900004, 0, 0, 29, 1⟩
def ILU_STAT_SHORT_BUSY : Fld := ⟨0x900004, 0, 0, 28, 1⟩
def ILU_STAT_SHORT_FOUND : Fld := ⟨0x900004, 0, 0, 27, 1⟩
def ILU_STAT_DISS : Fld := ⟨0x900004, 0, 0, 0, 16⟩
def ILU_HAL : Fld := ⟨0x900008, 0, 0, 0, 32⟩
def ILU_HAL_LINES : Fld := ⟨0x900008, 0, 0, 0, 16⟩
def ILU_DIAG : Fld := ⟨0x90000c, 0, 0, 0, 32⟩
def ILU_DIAG_AWL_INT : Fld := ⟨0x90000c, 0, 0, 24, 8⟩
def ILU_DIAG_HEAD_MAX : Fld := ⟨0x90000c, 0, 0, 12, 12⟩
def ILU_DIAG_WARN : Fld := ⟨0x90000c, 0, 0, 0, 12⟩
def ILU_CNT : Fld := ⟨0x900010, 0, 0, 0, 32⟩
def ILU_CNT_PE_OWN : Fld := ⟨0x900010, 0, 0, 16, 16⟩
def ILU_CNT_AWL : Fld := ⟨0x900010, 0, 0, 0, 16⟩
def ILU_CONV_CTRL : Fld := ⟨0x900020, 0, 0, 0, 32⟩
def ILU_CONV_CTRL_EN : Fld := ⟨0x900020, 0, 0, 31, 1⟩
def ILU_CONV_CTRL_SWFREQ : Fld := ⟨0x900020, 0, 0, 24, 4⟩
def ILU_CONV_CTRL_ILIM : Fld := ⟨0x900020, 0, 0, 16, 8⟩
def ILU_CONV_CTRL_HEAD_SET : Fld := ⟨0x900020, 0, 0, 0, 10⟩
def ILU_CONV_LIM : Fld := ⟨0x900024, 0, 0, 0, 32⟩
def ILU_CONV_LIM_VMAX : Fld := ⟨0x900024, 0, 0, 16, 13⟩
def ILU_CONV_LIM_VMIN : Fld := ⟨0x900024, 0, 0, 0, 13⟩
def ILU_CONV_STAT : Fld := ⟨0x900028, 0, 0, 0, 32⟩
def ILU_CONV_STAT_STATE : Fld := ⟨0x900028, 0, 0, 29, 3⟩
def ILU_CONV_STAT_PGOOD : Fld := ⟨0x900028, 0, 0, 28, 1⟩
def ILU_CONV_STAT_OVP : Fld := ⟨0x900028, 0, 0, 27, 1⟩
def ILU_CONV_STAT_ILIM : Fld := ⟨0x900028, 0, 0, 26, 1⟩
def ILU_CONV_STAT_UVLO : Fld := ⟨0x900028, 0, 0, 25, 1⟩
def ILU_CONV_STAT_LOSS : Fld := ⟨0x900028, 0, 0, 24, 1⟩
def ILU_CONV_STAT_NEEDY : Fld := ⟨0x900028, 0, 0, 16, 5⟩
def ILU_CONV_STAT_TARGET : Fld := ⟨0x900028, 0, 0, 0, 13⟩
def ILU_CONV_VOLT : Fld := ⟨0x90002c, 0, 0, 0, 32⟩
def ILU_CONV_VOLT_VIN : Fld := ⟨0x90002c, 0, 0, 16, 13⟩
def ILU_CONV_VOLT_VLED : Fld := ⟨0x90002c, 0, 0, 0, 13⟩
def ILU_SINK_CFG : Fld := ⟨0x900100, 0x10, 0, 0, 32⟩
def ILU_SINK_CFG_USED : Fld := ⟨0x900100, 0x10, 0, 31, 1⟩
def ILU_SINK_CFG_CONV : Fld := ⟨0x900100, 0x10, 0, 30, 1⟩
def ILU_SINK_CFG_LAMP : Fld := ⟨0x900100, 0x10, 0, 29, 1⟩
def ILU_SINK_CFG_PE : Fld := ⟨0x900100, 0x10, 0, 8, 5⟩
def ILU_SINK_CFG_GCH : Fld := ⟨0x900100, 0x10, 0, 0, 4⟩
def ILU_SINK_CTRL : Fld := ⟨0x900104, 0x10, 0, 0, 32⟩
def ILU_SINK_CTRL_EN : Fld := ⟨0x900104, 0x10, 0, 31, 1⟩
def ILU_SINK_CTRL_AWL_EN : Fld := ⟨0x900104, 0x10, 0, 30, 1⟩
def ILU_SINK_CTRL_GATE : Fld := ⟨0x900104, 0x10, 0, 28, 2⟩
def ILU_SINK_CTRL_SUB : Fld := ⟨0x900104, 0x10, 0, 26, 2⟩
def ILU_SINK_CTRL_SPREAD : Fld := ⟨0x900104, 0x10, 0, 22, 4⟩
def ILU_SINK_CTRL_CUR : Fld := ⟨0x900104, 0x10, 0, 0, 14⟩
def ILU_SINK_DUTY : Fld := ⟨0x900108, 0x10, 0, 0, 32⟩
def ILU_SINK_DUTY_DUTY : Fld := ⟨0x900108, 0x10, 0, 0, 16⟩
def ILU_SINK_STAT : Fld := ⟨0x90010c, 0x10, 0, 0, 32⟩
def ILU_SINK_STAT_ON : Fld := ⟨0x90010c, 0x10, 0, 31, 1⟩
def ILU_SINK_STAT_OPEN : Fld := ⟨0x90010c, 0x10, 0, 30, 1⟩
def ILU_SINK_STAT_SHORT_ADJ : Fld := ⟨0x90010c, 0x10, 0, 29, 1⟩
def ILU_SINK_STAT_SHORT_GND : Fld := ⟨0x90010c, 0x10, 0, 28, 1⟩
def ILU_SINK_STAT_UNVERIFIED : Fld := ⟨0x90010c, 0x10, 0, 27, 1⟩
def ILU_SINK_STAT_HIGH_HEAD : Fld := ⟨0x90010c, 0x10, 0, 26, 1⟩
def ILU_SINK_STAT_REG : Fld := ⟨0x90010c, 0x10, 0, 25, 1⟩
def ILU_SINK_STAT_OWNED : Fld := ⟨0x90010c, 0x10, 0, 24, 1⟩
def ILU_SINK_STAT_HEAD : Fld := ⟨0x90010c, 0x10, 0, 0, 12⟩
def ILU_PE_CFG : Fld := ⟨0x900400, 0x10, 0, 0, 32⟩
def ILU_PE_CFG_RUN : Fld := ⟨0x900400, 0x10, 0, 31, 1⟩
def ILU_PE_CFG_LOG : Fld := ⟨0x900400, 0x10, 0, 26, 2⟩
def ILU_PE_CFG_LINES : Fld := ⟨0x900400, 0x10, 0, 20, 4⟩
def ILU_PE_CFG_START : Fld := ⟨0x900400, 0x10, 0, 0, 6⟩
def ILU_PE_STAT : Fld := ⟨0x900404, 0x10, 0, 0, 32⟩
def ILU_PE_STAT_ACTIVE : Fld := ⟨0x900404, 0x10, 0, 31, 1⟩
def ILU_PE_STAT_WAIT3 : Fld := ⟨0x900404, 0x10, 0, 30, 1⟩
def ILU_PE_STAT_ILLEGAL : Fld := ⟨0x900404, 0x10, 0, 28, 1⟩
def ILU_PE_STAT_STEP : Fld := ⟨0x900404, 0x10, 0, 22, 6⟩
def ILU_PE_STAT_EVDATA : Fld := ⟨0x900404, 0x10, 0, 0, 16⟩
def ILU_PE_PROG_LO : Fld := ⟨0x901000, 0x200, 8, 0, 32⟩
def ILU_PE_PROG_LO_WORD : Fld := ⟨0x901000, 0x200, 8, 0, 32⟩
def ILU_PE_PROG_HI : Fld := ⟨0x901004, 0x200, 8, 0, 32⟩
def ILU_PE_PROG_HI_WORD : Fld := ⟨0x901004, 0x200, 8, 0, 32⟩
def ILU_SW_CTRL : Fld := ⟨0x904000, 0x4000, 0, 0, 32⟩
def ILU_SW_CTRL_EN : Fld := ⟨0x904000, 0x4000, 0, 31, 1⟩
def ILU_SW_CTRL_SEND : Fld := ⟨0x904000, 0x4000, 0, 30, 1⟩
def ILU_SW_CTRL_DRIVERS : Fld := ⟨0x904000, 0x4000, 0, 16, 8⟩
def ILU_SW_CTRL_REFRESH : Fld := ⟨0x904000, 0x4000, 0, 0, 16⟩
def ILU_SW_STAT : Fld := ⟨0x904004, 0x4000, 0, 0, 32⟩
def ILU_SW_STAT_STATE : Fld := ⟨0x904004, 0x4000, 0, 29, 3⟩
def ILU_SW_STAT_ERR : Fld := ⟨0x904004, 0x4000, 0, 24, 4⟩
def ILU_SW_STAT_ERR_DRV : Fld := ⟨0x904004, 0x4000, 0, 16, 8⟩
def ILU_SW_STAT_SEQ : Fld := ⟨0x904004, 0x4000, 0, 0, 8⟩
def ILU_SW_CNT : Fld := ⟨0x904008, 0x4000, 0, 0, 32⟩
def ILU_SW_CNT_FRAME_ERR : Fld := ⟨0x904008, 0x4000, 0, 16, 16⟩
def ILU_SW_CNT_SHARE_ERR : Fld := ⟨0x904008, 0x4000, 0, 8, 8⟩
def ILU_SW_CNT_STROBE_LOST : Fld := ⟨0x904008, 0x4000, 0, 0, 8⟩
def ILU_SW_SHARE : Fld := ⟨0x904400, 0x4000, 4, 0, 32⟩
def ILU_SW_SHARE_SBYTES : Fld := ⟨0x904400, 0x4000, 4, 8, 6⟩
def ILU_SW_SHARE_DBYTES : Fld := ⟨0x904400, 0x4000, 4, 0, 6⟩
def ILU_SW_DATA : Fld := ⟨0x904800, 0x4000, 4, 0, 32⟩
def ILU_SW_DATA_BYTES : Fld := ⟨0x904800, 0x4000, 4, 0, 32⟩
def ILU_SW_STS : Fld := ⟨0x905000, 0x4000, 4, 0, 32⟩
def ILU_SW_STS_BYTES : Fld := ⟨0x905000, 0x4000, 4, 0, 32⟩
def AFE_CFG : Fld := ⟨0xa00000, 0, 0, 0, 32⟩
def AFE_CFG_EN : Fld := ⟨0xa00000, 0, 0, 31, 1⟩
def AFE_CFG_SRC_AGE : Fld := ⟨0xa00000, 0, 0, 16, 15⟩
def AFE_CFG_SYNC_EN : Fld := ⟨0xa00000, 0, 0, 1, 1⟩
def AFE_CFG_NOMINAL : Fld := ⟨0xa00000, 0, 0, 0, 1⟩
def AFE_MAINS : Fld := ⟨0xa00004, 0, 0, 0, 32⟩
def AFE_MAINS_LOCK : Fld := ⟨0xa00004, 0, 0, 31, 1⟩
def AFE_MAINS_FALLBACK : Fld := ⟨0xa00004, 0, 0, 30, 1⟩
def AFE_MAINS_PERIOD : Fld := ⟨0xa00004, 0, 0, 0, 24⟩
def AFE_CJ_FIXED : Fld := ⟨0xa00008, 0, 0, 0, 32⟩
def AFE_CJ_FIXED_TEMP : Fld := ⟨0xa00008, 0, 0, 0, 32⟩
def AFE_TS_STAT : Fld := ⟨0xa0000c, 0, 0, 0, 32⟩
def AFE_TS_STAT_SAFE_ACT : Fld := ⟨0xa0000c, 0, 0, 16, 16⟩
def AFE_TS_STAT_STATE : Fld := ⟨0xa0000c, 0, 0, 0, 16⟩
def AFE_TS_EVT : Fld := ⟨0xa00010, 0, 0, 0, 32⟩
def AFE_TS_EVT_CHANGED : Fld := ⟨0xa00010, 0, 0, 0, 16⟩
def AFE_CNT : Fld := ⟨0xa00014, 0, 0, 0, 32⟩
def AFE_CNT_RANGE_RESTART : Fld := ⟨0xa00014, 0, 0, 24, 8⟩
def AFE_CNT_OW_SKIP : Fld := ⟨0xa00014, 0, 0, 16, 8⟩
def AFE_CNT_EXC_WAIT : Fld := ⟨0xa00014, 0, 0, 8, 8⟩
def AFE_CNT_CFG : Fld := ⟨0xa00014, 0, 0, 0, 8⟩
def AFE_POLY_APPLY : Fld := ⟨0xa00018, 0, 0, 0, 32⟩
def AFE_POLY_APPLY_SET : Fld := ⟨0xa00018, 0, 0, 0, 8⟩
def AFE_BROKEN : Fld := ⟨0xa0001c, 0, 0, 0, 32⟩
def AFE_BROKEN_SETUP : Fld := ⟨0xa0001c, 0, 0, 0, 32⟩
def AFE_TS_CLR : Fld := ⟨0xa00020, 0, 0, 0, 32⟩
def AFE_TS_CLR_UNLATCH : Fld := ⟨0xa00020, 0, 0, 0, 16⟩
def AFE_EXC_CFG : Fld := ⟨0xa00040, 4, 0, 0, 32⟩
def AFE_EXC_CFG_OWNER : Fld := ⟨0xa00040, 4, 0, 0, 2⟩
def AFE_SU_IN : Fld := ⟨0xa00100, 0x20, 0, 0, 32⟩
def AFE_SU_IN_INP : Fld := ⟨0xa00100, 0x20, 0, 24, 5⟩
def AFE_SU_IN_INN : Fld := ⟨0xa00100, 0x20, 0, 16, 5⟩
def AFE_SU_IN_REF : Fld := ⟨0xa00100, 0x20, 0, 15, 1⟩
def AFE_SU_IN_AUTO : Fld := ⟨0xa00100, 0x20, 0, 14, 1⟩
def AFE_SU_IN_LIMRANGE : Fld := ⟨0xa00100, 0x20, 0, 8, 4⟩
def AFE_SU_IN_RANGE : Fld := ⟨0xa00100, 0x20, 0, 0, 4⟩
def AFE_SU_SET : Fld := ⟨0xa00104, 0x20, 0, 0, 32⟩
def AFE_SU_SET_SETTLE : Fld := ⟨0xa00104, 0x20, 0, 16, 16⟩
def AFE_SU_SET_OW_EN : Fld := ⟨0xa00104, 0x20, 0, 15, 1⟩
def AFE_SU_SET_BO : Fld := ⟨0xa00104, 0x20, 0, 12, 3⟩
def AFE_SU_SET_OW_V : Fld := ⟨0xa00104, 0x20, 0, 0, 8⟩
def AFE_SU_EXC : Fld := ⟨0xa00108, 0x20, 0, 0, 32⟩
def AFE_SU_EXC_ASRC : Fld := ⟨0xa00108, 0x20, 0, 28, 3⟩
def AFE_SU_EXC_APIN : Fld := ⟨0xa00108, 0x20, 0, 23, 5⟩
def AFE_SU_EXC_SWAP : Fld := ⟨0xa00108, 0x20, 0, 22, 1⟩
def AFE_SU_EXC_BSRC : Fld := ⟨0xa00108, 0x20, 0, 19, 3⟩
def AFE_SU_EXC_BPIN : Fld := ⟨0xa00108, 0x20, 0, 14, 5⟩
def AFE_SU_EXC_ICODE : Fld := ⟨0xa00108, 0x20, 0, 0, 12⟩
def AFE_SU_CURVE : Fld := ⟨0xa0010c, 0x20, 0, 0, 32⟩
def AFE_SU_CURVE_CURVE : Fld := ⟨0xa0010c, 0x20, 0, 24, 8⟩
def AFE_SU_CURVE_PSET : Fld := ⟨0xa0010c, 0x20, 0, 20, 3⟩
def AFE_SU_CURVE_CJ_FIX : Fld := ⟨0xa0010c, 0x20, 0, 19, 1⟩
def AFE_SU_CURVE_CJSRC : Fld := ⟨0xa0010c, 0x20, 0, 14, 5⟩
def AFE_SU_CURVE_TSRC_EN : Fld := ⟨0xa0010c, 0x20, 0, 13, 1⟩
def AFE_SU_CURVE_TSRC : Fld := ⟨0xa0010c, 0x20, 0, 8, 5⟩
def AFE_SU_K : Fld := ⟨0xa00110, 0x20, 0, 0, 32⟩
def AFE_SU_K_K : Fld := ⟨0xa00110, 0x20, 0, 0, 32⟩
def AFE_SU_LAST : Fld := ⟨0xa00114, 0x20, 0, 0, 32⟩
def AFE_SU_LAST_Y : Fld := ⟨0xa00114, 0x20, 0, 0, 32⟩
def AFE_SU_STAT : Fld := ⟨0xa00118, 0x20, 0, 0, 32⟩
def AFE_SU_STAT_RANGE : Fld := ⟨0xa00118, 0x20, 0, 28, 4⟩
def AFE_SU_STAT_OWCOUNT : Fld := ⟨0xa00118, 0x20, 0, 8, 2⟩
def AFE_SU_STAT_FLAGS : Fld := ⟨0xa00118, 0x20, 0, 0, 8⟩
def AFE_POLY : Fld := ⟨0xa00800, 0x80, 4, 0, 32⟩
def AFE_POLY_COEF : Fld := ⟨0xa00800, 0x80, 4, 0, 32⟩
def AFE_TS_CFG : Fld := ⟨0xa00c00, 0x10, 0, 0, 32⟩
def AFE_TS_CFG_EN : Fld := ⟨0xa00c00, 0x10, 0, 31, 1⟩
def AFE_TS_CFG_DIR : Fld := ⟨0xa00c00, 0x10, 0, 30, 1⟩
def AFE_TS_CFG_LATCH : Fld := ⟨0xa00c00, 0x10, 0, 29, 1⟩
def AFE_TS_CFG_SAFE : Fld := ⟨0xa00c00, 0x10, 0, 28, 1⟩
def AFE_TS_CFG_CNT : Fld := ⟨0xa00c00, 0x10, 0, 24, 3⟩
def AFE_TS_CFG_SETUP : Fld := ⟨0xa00c00, 0x10, 0, 16, 5⟩
def AFE_TS_CFG_GPIO : Fld := ⟨0xa00c00, 0x10, 0, 8, 4⟩
def AFE_TS_HI : Fld := ⟨0xa00c04, 0x10, 0, 0, 32⟩
def AFE_TS_HI_HI : Fld := ⟨0xa00c04, 0x10, 0, 0, 32⟩
def AFE_TS_LO : Fld := ⟨0xa00c08, 0x10, 0, 0, 32⟩
def AFE_TS_LO_LO : Fld := ⟨0xa00c08, 0x10, 0, 0, 32⟩
def AFE_TS_HAL : Fld := ⟨0xa00c0c, 0x10, 0, 0, 32⟩
def AFE_TS_HAL_LINES : Fld := ⟨0xa00c0c, 0x10, 0, 0, 16⟩
def CNV_CTRL : Fld := ⟨0xb00000, 0x100, 0, 0, 32⟩
def CNV_CTRL_EN : Fld := ⟨0xb00000, 0x100, 0, 31, 1⟩
def CNV_CTRL_SWTRIG_R : Fld := ⟨0xb00000, 0x100, 0, 30, 1⟩
def CNV_CTRL_SWTRIG_I : Fld := ⟨0xb00000, 0x100, 0, 29, 1⟩
def CNV_CTRL_CONT : Fld := ⟨0xb00000, 0x100, 0, 28, 1⟩
def CNV_CTRL_ILEN : Fld := ⟨0xb00000, 0x100, 0, 8, 2⟩
def CNV_CTRL_RLEN : Fld := ⟨0xb00000, 0x100, 0, 0, 5⟩
def CNV_TRIG : Fld := ⟨0xb00004, 0x100, 4, 0, 32⟩
def CNV_TRIG_TSRC : Fld := ⟨0xb00004, 0x100, 4, 29, 3⟩
def CNV_TRIG_DUNIT : Fld := ⟨0xb00004, 0x100, 4, 28, 1⟩
def CNV_TRIG_DLOG : Fld := ⟨0xb00004, 0x100, 4, 26, 2⟩
def CNV_TRIG_SEL : Fld := ⟨0xb00004, 0x100, 4, 16, 5⟩
def CNV_TRIG_DELAY : Fld := ⟨0xb00004, 0x100, 4, 0, 16⟩
def CNV_TIMER : Fld := ⟨0xb0000c, 0x100, 4, 0, 32⟩
def CNV_TIMER_PERIOD : Fld := ⟨0xb0000c, 0x100, 4, 0, 24⟩
def CNV_STAT : Fld := ⟨0xb00014, 0x100, 0, 0, 32⟩
def CNV_STAT_BUSY : Fld := ⟨0xb00014, 0x100, 0, 31, 1⟩
def CNV_STAT_INJ : Fld := ⟨0xb00014, 0x100, 0, 30, 1⟩
def CNV_STAT_RPEND : Fld := ⟨0xb00014, 0x100, 0, 29, 1⟩
def CNV_STAT_IPEND : Fld := ⟨0xb00014, 0x100, 0, 28, 1⟩
def CNV_STAT_DELAYING : Fld := ⟨0xb00014, 0x100, 0, 27, 1⟩
def CNV_STAT_PAIRED : Fld := ⟨0xb00014, 0x100, 0, 26, 1⟩
def CNV_STAT_ENTRY : Fld := ⟨0xb00014, 0x100, 0, 16, 5⟩
def CNV_PASS : Fld := ⟨0xb00018, 0x100, 0, 0, 32⟩
def CNV_PASS_INJ : Fld := ⟨0xb00018, 0x100, 0, 16, 16⟩
def CNV_PASS_REG : Fld := ⟨0xb00018, 0x100, 0, 0, 16⟩
def CNV_CNT : Fld := ⟨0xb0001c, 0x100, 0, 0, 32⟩
def CNV_CNT_LOST : Fld := ⟨0xb0001c, 0x100, 0, 16, 16⟩
def CNV_CNT_ABORTS : Fld := ⟨0xb0001c, 0x100, 0, 8, 8⟩
def CNV_CNT_OVR : Fld := ⟨0xb0001c, 0x100, 0, 0, 8⟩
def CNV_QCFG : Fld := ⟨0xb00020, 0x100, 0, 0, 32⟩
def CNV_QCFG_QEN : Fld := ⟨0xb00020, 0x100, 0, 31, 1⟩
def CNV_QCFG_QUEUE : Fld := ⟨0xb00020, 0x100, 0, 0, 6⟩
def CNV_SEQ : Fld := ⟨0xb00040, 0x100, 4, 0, 32⟩
def CNV_SEQ_PLC : Fld := ⟨0xb00040, 0x100, 4, 8, 3⟩
def CNV_SEQ_SETUP : Fld := ⟨0xb00040, 0x100, 4, 0, 5⟩
def CNV_INJ : Fld := ⟨0xb000c0, 0x100, 4, 0, 32⟩
def CNV_INJ_PLC : Fld := ⟨0xb000c0, 0x100, 4, 8, 3⟩
def CNV_INJ_SETUP : Fld := ⟨0xb000c0, 0x100, 4, 0, 5⟩
def CNV_SHARED : Fld := ⟨0xb00200, 0, 0, 0, 32⟩
def CNV_SHARED_EN : Fld := ⟨0xb00200, 0, 0, 31, 1⟩
def CNV_SHARED_SETUP : Fld := ⟨0xb00200, 0, 0, 0, 5⟩
def CNV_PLAUS_WIN : Fld := ⟨0xb00204, 0, 0, 0, 32⟩
def CNV_PLAUS_WIN_WIN : Fld := ⟨0xb00204, 0, 0, 0, 32⟩
def CNV_PLAUS_B : Fld := ⟨0xb00208, 0, 0, 0, 32⟩
def CNV_PLAUS_B_Y : Fld := ⟨0xb00208, 0, 0, 0, 32⟩
def CNV_PLAUS_CNT : Fld := ⟨0xb0020c, 0, 0, 0, 32⟩
def CNV_PLAUS_CNT_FAULT : Fld := ⟨0xb0020c, 0, 0, 16, 16⟩
def CNV_PLAUS_CNT_UNPAIRED : Fld := ⟨0xb0020c, 0, 0, 0, 16⟩
def CNV_WIN_STAT : Fld := ⟨0xb00210, 0, 0, 0, 32⟩
def CNV_WIN_STAT_OUT : Fld := ⟨0xb00210, 0, 0, 0, 16⟩
def CNV_WIN_EVT : Fld := ⟨0xb00214, 0, 0, 0, 32⟩
def CNV_WIN_EVT_LEFT : Fld := ⟨0xb00214, 0, 0, 0, 16⟩
def CNV_RES_CODE : Fld := ⟨0xb00400, 0x100, 4, 0, 32⟩
def CNV_RES_CODE_CODE : Fld := ⟨0xb00400, 0x100, 4, 0, 32⟩
def CNV_RES_FLAG : Fld := ⟨0xb00600, 0x100, 4, 0, 32⟩
def CNV_RES_FLAG_RANGE : Fld := ⟨0xb00600, 0x100, 4, 28, 4⟩
def CNV_RES_FLAG_CNV : Fld := ⟨0xb00600, 0x100, 4, 8, 8⟩
def CNV_RES_FLAG_AFE : Fld := ⟨0xb00600, 0x100, 4, 0, 8⟩
def CNV_WIN_CFG : Fld := ⟨0xb00800, 0x10, 0, 0, 32⟩
def CNV_WIN_CFG_EN : Fld := ⟨0xb00800, 0x10, 0, 31, 1⟩
def CNV_WIN_CFG_SETUP : Fld := ⟨0xb00800, 0x10, 0, 0, 5⟩
def CNV_WIN_HI : Fld := ⟨0xb00804, 0x10, 0, 0, 32⟩
def CNV_WIN_HI_HI : Fld := ⟨0xb00804, 0x10, 0, 0, 32⟩
def CNV_WIN_LO : Fld := ⟨0xb00808, 0x10, 0, 0, 32⟩
def CNV_WIN_LO_LO : Fld := ⟨0xb00808, 0x10, 0, 0, 32⟩
def QUE_PART : Fld := ⟨0xc00000, 0x40, 0, 0, 32⟩
def QUE_PART_BASE : Fld := ⟨0xc00000, 0x40, 0, 16, 10⟩
def QUE_PART_SIZE : Fld := ⟨0xc00000, 0x40, 0, 0, 11⟩
def QUE_SPILL_BASE : Fld := ⟨0xc00004, 0x40, 0, 0, 32⟩
def QUE_SPILL_BASE_BASE : Fld := ⟨0xc00004, 0x40, 0, 0, 18⟩
def QUE_SPILL_SIZE : Fld := ⟨0xc00008, 0x40, 0, 0, 32⟩
def QUE_SPILL_SIZE_SPILL : Fld := ⟨0xc00008, 0x40, 0, 0, 19⟩
def QUE_CFG : Fld := ⟨0xc0000c, 0x40, 0, 0, 32⟩
def QUE_CFG_DMA_EN : Fld := ⟨0xc0000c, 0x40, 0, 31, 1⟩
def QUE_CFG_RELAXED : Fld := ⟨0xc0000c, 0x40, 0, 30, 1⟩
def QUE_CFG_DCH : Fld := ⟨0xc0000c, 0x40, 0, 27, 3⟩
def QUE_CFG_DEADLINE : Fld := ⟨0xc0000c, 0x40, 0, 0, 16⟩
def QUE_IDLE_LO : Fld := ⟨0xc00010, 0x40, 0, 0, 32⟩
def QUE_IDLE_LO_IDLE : Fld := ⟨0xc00010, 0x40, 0, 0, 32⟩
def QUE_IDLE_HI : Fld := ⟨0xc00014, 0x40, 0, 0, 32⟩
def QUE_IDLE_HI_IDLE : Fld := ⟨0xc00014, 0x40, 0, 0, 32⟩
def QUE_CMD : Fld := ⟨0xc00018, 0x40, 0, 0, 32⟩
def QUE_CMD_COUNT : Fld := ⟨0xc00018, 0x40, 0, 8, 16⟩
def QUE_CMD_OP : Fld := ⟨0xc00018, 0x40, 0, 0, 3⟩
def QUE_STAT : Fld := ⟨0xc0001c, 0x40, 0, 0, 32⟩
def QUE_STAT_CFG_ERR : Fld := ⟨0xc0001c, 0x40, 0, 31, 1⟩
def QUE_STAT_MARK_VALID : Fld := ⟨0xc0001c, 0x40, 0, 30, 1⟩
def QUE_STAT_MARK_LOST : Fld := ⟨0xc0001c, 0x40, 0, 29, 1⟩
def QUE_STAT_DROPPING : Fld := ⟨0xc0001c, 0x40, 0, 28, 1⟩
def QUE_STAT_SPILL_STALL : Fld := ⟨0xc0001c, 0x40, 0, 27, 1⟩
def QUE_STAT_OPEN : Fld := ⟨0xc0001c, 0x40, 0, 26, 1⟩
def QUE_STAT_PRODUCER_CONFLICT : Fld := ⟨0xc0001c, 0x40, 0, 25, 1⟩
def QUE_STAT_CMD_ERR : Fld := ⟨0xc0001c, 0x40, 0, 4, 4⟩
def QUE_STAT_EMPTY : Fld := ⟨0xc0001c, 0x40, 0, 0, 1⟩
def QUE_FILL : Fld := ⟨0xc00020, 0x40, 0, 0, 32⟩
def QUE_FILL_WORDS : Fld := ⟨0xc00020, 0x40, 0, 0, 32⟩
def QUE_SEQ : Fld := ⟨0xc00024, 0x40, 0, 0, 32⟩
def QUE_SEQ_NEXT : Fld := ⟨0xc00024, 0x40, 0, 0, 32⟩
def QUE_CNT_LOSS : Fld := ⟨0xc00028, 0x40, 0, 0, 32⟩
def QUE_CNT_LOSS_LOST : Fld := ⟨0xc00028, 0x40, 0, 16, 16⟩
def QUE_CNT_LOSS_OVERSIZE : Fld := ⟨0xc00028, 0x40, 0, 0, 16⟩
def QUE_CNT_MISC : Fld := ⟨0xc0002c, 0x40, 0, 0, 32⟩
def QUE_CNT_MISC_FLUSHES : Fld := ⟨0xc0002c, 0x40, 0, 16, 16⟩
def QUE_CNT_MISC_ABORTS : Fld := ⟨0xc0002c, 0x40, 0, 0, 16⟩
def QUE_CNT_ERR : Fld := ⟨0xc00030, 0x40, 0, 0, 32⟩
def QUE_CNT_ERR_PARITY : Fld := ⟨0xc00030, 0x40, 0, 16, 16⟩
def QUE_CNT_ERR_ORPHAN : Fld := ⟨0xc00030, 0x40, 0, 0, 16⟩
def GLB_CINCH : Fld := ⟨0x80, 0, 0, 0, 32⟩
def GLB_CINCH_STAT : Fld := ⟨0x84, 0, 0, 0, 32⟩
def GLB_CINCH_STAT_COUNT : Fld := ⟨0x84, 0, 0, 0, 16⟩
def GLB_ORDER_CNT : Fld := ⟨0x88, 0, 0, 0, 32⟩
def GLB_ORDER_CNT_STAMP_LATE : Fld := ⟨0x88, 0, 0, 16, 16⟩
def GLB_ORDER_CNT_STAMP_IGN : Fld := ⟨0x88, 0, 0, 0, 16⟩
def GLB_ALINE_CTRL : Fld := ⟨0x90, 0, 0, 0, 32⟩
def GLB_ALINE_CTRL_EN : Fld := ⟨0x90, 0, 0, 31, 1⟩
def GLB_ALINE_CTRL_CH : Fld := ⟨0x90, 0, 0, 0, 4⟩
def GLB_ALINE_LINE : Fld := ⟨0x94, 0, 0, 0, 32⟩
def GLB_ALINE_LINE_LINE : Fld := ⟨0x94, 0, 0, 0, 32⟩
def GLB_PSET_OFF : Fld := ⟨0x1000, 0x40, 8, 0, 32⟩
def GLB_PSET_OFF_END : Fld := ⟨0x1000, 0x40, 8, 31, 1⟩
def GLB_PSET_OFF_OFFSET : Fld := ⟨0x1000, 0x40, 8, 2, 23⟩
def GLB_PSET_VAL : Fld := ⟨0x1004, 0x40, 8, 0, 32⟩
def GLB_PSET_VAL_VALUE : Fld := ⟨0x1004, 0x40, 8, 0, 32⟩
def PCR_LINK : Fld := ⟨0x1100004, 0, 0, 0, 32⟩
def PCR_LINK_UP : Fld := ⟨0x1100004, 0, 0, 31, 1⟩
def PCR_LINK_L1 : Fld := ⟨0x1100004, 0, 0, 30, 1⟩
def PCR_LINK_WIDTH : Fld := ⟨0x1100004, 0, 0, 4, 3⟩
def PCR_LINK_SPEED : Fld := ⟨0x1100004, 0, 0, 0, 4⟩
def PCR_ERR : Fld := ⟨0x1100008, 0, 0, 0, 32⟩
def PCR_ERR_PARTIAL : Fld := ⟨0x1100008, 0, 0, 24, 8⟩
def PCR_ERR_LENGTH : Fld := ⟨0x1100008, 0, 0, 16, 8⟩
def PCR_ERR_POISON : Fld := ⟨0x1100008, 0, 0, 8, 8⟩
def PCR_DMA_BASE_LO : Fld := ⟨0x1101000, 0x40, 0, 0, 32⟩
def PCR_DMA_BASE_LO_BASE : Fld := ⟨0x1101000, 0x40, 0, 6, 26⟩
def PCR_DMA_BASE_HI : Fld := ⟨0x1101004, 0x40, 0, 0, 32⟩
def PCR_DMA_BASE_HI_BASE : Fld := ⟨0x1101004, 0x40, 0, 0, 32⟩
def PCR_DMA_CTRL : Fld := ⟨0x1101008, 0x40, 0, 0, 32⟩
def PCR_DMA_CTRL_EN : Fld := ⟨0x1101008, 0x40, 0, 31, 1⟩
def PCR_DMA_CTRL_VEC : Fld := ⟨0x1101008, 0x40, 0, 16, 6⟩
def PCR_DMA_CTRL_SIZE : Fld := ⟨0x1101008, 0x40, 0, 0, 4⟩
def PCR_DMA_TAIL : Fld := ⟨0x110100c, 0x40, 0, 0, 32⟩
def PCR_DMA_TAIL_TAIL : Fld := ⟨0x110100c, 0x40, 0, 0, 16⟩
def PCR_DMA_HEAD : Fld := ⟨0x1101010, 0x40, 0, 0, 32⟩
def PCR_DMA_HEAD_HEAD : Fld := ⟨0x1101010, 0x40, 0, 0, 16⟩
def PCR_DMA_STAT : Fld := ⟨0x1101014, 0x40, 0, 0, 32⟩
def PCR_DMA_STAT_STATE : Fld := ⟨0x1101014, 0x40, 0, 30, 2⟩
def PCR_DMA_STAT_ERR : Fld := ⟨0x1101014, 0x40, 0, 24, 4⟩
def PCR_DMA_STAT_FETCHED : Fld := ⟨0x1101014, 0x40, 0, 0, 10⟩
def PCR_REF_STAT : Fld := ⟨0x110c000, 0, 0, 0, 32⟩
def PCR_REF_STAT_RDY : Fld := ⟨0x110c000, 0, 0, 31, 1⟩
def PCR_REF_STAT_WR_IGN : Fld := ⟨0x110c000, 0, 0, 16, 8⟩
def PCR_REF_STAT_CMD_REF : Fld := ⟨0x110c000, 0, 0, 0, 16⟩
def PCR_REF_HOST : Fld := ⟨0x110c040, 4, 0, 0, 32⟩
def PCR_REF_HOST_VALUE : Fld := ⟨0x110c040, 4, 0, 0, 16⟩
def PCR_REF_TABLE : Fld := ⟨0x110c400, 4, 0, 0, 32⟩
def PCR_REF_TABLE_VALUE : Fld := ⟨0x110c400, 4, 0, 0, 16⟩
def EVT_HAL_STAT : Fld := ⟨0xd00000, 0, 0, 0, 32⟩
def EVT_HAL_STAT_MATRIX : Fld := ⟨0xd00000, 0, 0, 16, 16⟩
def EVT_HAL_STAT_LEVEL : Fld := ⟨0xd00000, 0, 0, 0, 16⟩
def EVT_HAL_INH : Fld := ⟨0xd00004, 0, 0, 0, 32⟩
def EVT_HAL_INH_LINES : Fld := ⟨0xd00004, 0, 0, 0, 16⟩
def EVT_REFLEX_DATA : Fld := ⟨0xd00008, 0, 0, 0, 32⟩
def EVT_REFLEX_DATA_DATA : Fld := ⟨0xd00008, 0, 0, 0, 16⟩
def EVT_RSTAT : Fld := ⟨0xd00020, 4, 0, 0, 32⟩
def EVT_RSTAT_BITS : Fld := ⟨0xd00020, 4, 0, 0, 16⟩
def EVT_EN : Fld := ⟨0xd00100, 4, 0, 0, 32⟩
def EVT_EN_EN : Fld := ⟨0xd00100, 4, 0, 0, 32⟩
def EVT_PEND : Fld := ⟨0xd00140, 4, 0, 0, 32⟩
def EVT_PEND_PEND : Fld := ⟨0xd00140, 4, 0, 0, 32⟩
def EVT_VMOD : Fld := ⟨0xd00400, 4, 0, 0, 32⟩
def EVT_VMOD_HOLD : Fld := ⟨0xd00400, 4, 0, 0, 16⟩
def EVT_VSTAT : Fld := ⟨0xd00500, 4, 0, 0, 32⟩
def EVT_VSTAT_HOLDOFF : Fld := ⟨0xd00500, 4, 0, 31, 1⟩
def EVT_VSTAT_DUE : Fld := ⟨0xd00500, 4, 0, 30, 1⟩
def EVT_VSTAT_SENT : Fld := ⟨0xd00500, 4, 0, 0, 16⟩
def EVT_MAP : Fld := ⟨0xd01000, 4, 0, 0, 32⟩
def EVT_MAP_VEN : Fld := ⟨0xd01000, 4, 0, 31, 1⟩
def EVT_MAP_VEC : Fld := ⟨0xd01000, 4, 0, 24, 6⟩
def EVT_MAP_SEN : Fld := ⟨0xd01000, 4, 0, 23, 1⟩
def EVT_MAP_SBIT : Fld := ⟨0xd01000, 4, 0, 16, 6⟩
def EVT_MAP_HAL : Fld := ⟨0xd01000, 4, 0, 0, 16⟩
def EVT_CNT : Fld := ⟨0xd02000, 4, 0, 0, 32⟩
def EVT_CNT_COUNT : Fld := ⟨0xd02000, 4, 0, 0, 32⟩
def BRD_CFG : Fld := ⟨0xe00000, 0, 0, 0, 32⟩
def BRD_CFG_ROLE : Fld := ⟨0xe00000, 0, 0, 30, 2⟩
def BRD_CFG_ID_MODE : Fld := ⟨0xe00000, 0, 0, 29, 1⟩
def BRD_CFG_ID : Fld := ⟨0xe00000, 0, 0, 16, 11⟩
def BRD_CFG_DIST : Fld := ⟨0xe00000, 0, 0, 0, 4⟩
def BRD_CTRL : Fld := ⟨0xe00004, 0, 0, 0, 32⟩
def BRD_CTRL_EN : Fld := ⟨0xe00004, 0, 0, 31, 1⟩
def BRD_CTRL_RETRAIN : Fld := ⟨0xe00004, 0, 0, 30, 1⟩
def BRD_STAT : Fld := ⟨0xe00008, 0, 0, 0, 32⟩
def BRD_STAT_STATE : Fld := ⟨0xe00008, 0, 0, 29, 3⟩
def BRD_STAT_LEAD : Fld := ⟨0xe00008, 0, 0, 28, 1⟩
def BRD_STAT_FOLDED : Fld := ⟨0xe00008, 0, 0, 27, 1⟩
def BRD_STAT_FOLD_PORT : Fld := ⟨0xe00008, 0, 0, 26, 1⟩
def BRD_STAT_ID_CONFLICT : Fld := ⟨0xe00008, 0, 0, 25, 1⟩
def BRD_STAT_OVERFLOW : Fld := ⟨0xe00008, 0, 0, 24, 1⟩
def BRD_STAT_LEAD_CONFLICT : Fld := ⟨0xe00008, 0, 0, 23, 1⟩
def BRD_STAT_P_EXCEED : Fld := ⟨0xe00008, 0, 0, 22, 1⟩
def BRD_STAT_ID : Fld := ⟨0xe00008, 0, 0, 0, 11⟩
def BRD_PORT_STAT : Fld := ⟨0xe0000c, 4, 0, 0, 32⟩
def BRD_PORT_STAT_EYE : Fld := ⟨0xe0000c, 4, 0, 16, 7⟩
def BRD_PORT_STAT_LOCKLOSS : Fld := ⟨0xe0000c, 4, 0, 8, 8⟩
def BRD_PORT_STAT_STATE : Fld := ⟨0xe0000c, 4, 0, 0, 4⟩
def BRD_PRES : Fld := ⟨0xe00014, 0, 0, 0, 32⟩
def BRD_PRES_P : Fld := ⟨0xe00014, 0, 0, 0, 20⟩
def BRD_CODE : Fld := ⟨0xe00018, 0, 0, 0, 32⟩
def BRD_CODE_OFFSET : Fld := ⟨0xe00018, 0, 0, 0, 11⟩
def BRD_NBR : Fld := ⟨0xe0001c, 0, 0, 0, 32⟩
def BRD_NBR_LEFT_EN : Fld := ⟨0xe0001c, 0, 0, 31, 1⟩
def BRD_NBR_LEFT_ID : Fld := ⟨0xe0001c, 0, 0, 16, 11⟩
def BRD_NBR_RIGHT_EN : Fld := ⟨0xe0001c, 0, 0, 15, 1⟩
def BRD_NBR_RIGHT_ID : Fld := ⟨0xe0001c, 0, 0, 0, 11⟩
def BRD_EDGE : Fld := ⟨0xe00020, 0, 0, 0, 32⟩
def BRD_EDGE_FPMASK : Fld := ⟨0xe00020, 0, 0, 16, 16⟩
def BRD_NBR_BASE : Fld := ⟨0xe00024, 0, 0, 0, 32⟩
def BRD_NBR_BASE_BASE : Fld := ⟨0xe00024, 0, 0, 0, 12⟩
def BRD_CNT : Fld := ⟨0xe00028, 0, 0, 0, 32⟩
def BRD_CNT_BAD : Fld := ⟨0xe00028, 0, 0, 16, 16⟩
def BRD_CNT_RESYNC : Fld := ⟨0xe00028, 0, 0, 0, 16⟩
def BRD_TUN_DEST : Fld := ⟨0xe00040, 0, 0, 0, 32⟩
def BRD_TUN_DEST_ID : Fld := ⟨0xe00040, 0, 0, 0, 11⟩
def BRD_TUN_ADDR : Fld := ⟨0xe00044, 0, 0, 0, 32⟩
def BRD_TUN_ADDR_OFFSET : Fld := ⟨0xe00044, 0, 0, 0, 25⟩
def BRD_TUN_DATA : Fld := ⟨0xe00048, 0, 0, 0, 32⟩
def BRD_TUN_DATA_DATA : Fld := ⟨0xe00048, 0, 0, 0, 32⟩
def BRD_TUN_CMD : Fld := ⟨0xe0004c, 0, 0, 0, 32⟩
def BRD_TUN_CMD_GO : Fld := ⟨0xe0004c, 0, 0, 31, 1⟩
def BRD_TUN_CMD_WRITE : Fld := ⟨0xe0004c, 0, 0, 30, 1⟩
def BRD_TUN_CMD_BUSY : Fld := ⟨0xe0004c, 0, 0, 29, 1⟩
def BRD_TUN_CMD_ERR : Fld := ⟨0xe0004c, 0, 0, 0, 4⟩
def BRD_FWD_CFG : Fld := ⟨0xe00050, 0, 0, 0, 32⟩
def BRD_FWD_CFG_QEN : Fld := ⟨0xe00050, 0, 0, 31, 1⟩
def BRD_FWD_CFG_QUEUE : Fld := ⟨0xe00050, 0, 0, 0, 6⟩
def BRD_FWD_EN : Fld := ⟨0xe00060, 4, 0, 0, 32⟩
def BRD_FWD_EN_EN : Fld := ⟨0xe00060, 4, 0, 0, 32⟩
def CAL_CTRL : Fld := ⟨0xf00000, 0, 0, 0, 32⟩
def CAL_CTRL_START : Fld := ⟨0xf00000, 0, 0, 31, 1⟩
def CAL_CTRL_ABORT : Fld := ⟨0xf00000, 0, 0, 30, 1⟩
def CAL_CTRL_STEPS : Fld := ⟨0xf00000, 0, 0, 0, 6⟩
def CAL_STAT : Fld := ⟨0xf00004, 0, 0, 0, 32⟩
def CAL_STAT_STATE : Fld := ⟨0xf00004, 0, 0, 29, 3⟩
def CAL_STAT_STEP : Fld := ⟨0xf00004, 0, 0, 20, 4⟩
def CAL_STAT_ERR : Fld := ⟨0xf00004, 0, 0, 12, 4⟩
def CAL_STAT_QFAIL : Fld := ⟨0xf00004, 0, 0, 0, 8⟩
def CAL_REF_V : Fld := ⟨0xf00008, 0, 0, 0, 32⟩
def CAL_REF_V_UV : Fld := ⟨0xf00008, 0, 0, 0, 32⟩
def CAL_REF_R : Fld := ⟨0xf0000c, 0, 0, 0, 32⟩
def CAL_REF_R_MOHM : Fld := ⟨0xf0000c, 0, 0, 0, 32⟩
def CAL_REF_T : Fld := ⟨0xf00010, 0, 0, 0, 32⟩
def CAL_REF_T_PS : Fld := ⟨0xf00010, 0, 0, 0, 32⟩
def CAL_REF_PIN : Fld := ⟨0xf00014, 0, 0, 0, 32⟩
def CAL_REF_PIN_RPIN : Fld := ⟨0xf00014, 0, 0, 8, 5⟩
def CAL_REF_PIN_VPIN : Fld := ⟨0xf00014, 0, 0, 0, 5⟩
def CAL_LOAD : Fld := ⟨0xf00018, 0, 0, 0, 32⟩
def CAL_LOAD_RATE : Fld := ⟨0xf00018, 0, 0, 0, 32⟩
def CAL_QF : Fld := ⟨0xf00040, 4, 0, 0, 32⟩
def CAL_QF_VALUE : Fld := ⟨0xf00040, 4, 0, 0, 32⟩
def LGB_CTRL : Fld := ⟨0xf80000, 0, 0, 0, 32⟩
def LGB_CTRL_SAVE : Fld := ⟨0xf80000, 0, 0, 31, 1⟩
def LGB_STAT : Fld := ⟨0xf80004, 0, 0, 0, 32⟩
def LGB_STAT_RTC_VALID : Fld := ⟨0xf80004, 0, 0, 31, 1⟩
def LGB_STAT_SAVE_BUSY : Fld := ⟨0xf80004, 0, 0, 30, 1⟩
def LGB_STAT_SAVE_FAIL : Fld := ⟨0xf80004, 0, 0, 29, 1⟩
def LGB_STAT_LGB_SLOT : Fld := ⟨0xf80004, 0, 0, 28, 1⟩
def LGB_STAT_CAL_SLOT : Fld := ⟨0xf80004, 0, 0, 27, 1⟩
def LGB_GEN : Fld := ⟨0xf80008, 0, 0, 0, 32⟩
def LGB_GEN_GEN : Fld := ⟨0xf80008, 0, 0, 0, 32⟩
def LGB_CAL_GEN : Fld := ⟨0xf8000c, 0, 0, 0, 32⟩
def LGB_CAL_GEN_GEN : Fld := ⟨0xf8000c, 0, 0, 0, 32⟩
def LGB_RTC_SUB : Fld := ⟨0xf80010, 0, 0, 0, 32⟩
def LGB_RTC_SUB_SUB : Fld := ⟨0xf80010, 0, 0, 0, 15⟩
def LGB_RTC_SEC : Fld := ⟨0xf80014, 0, 0, 0, 32⟩
def LGB_RTC_SEC_SEC : Fld := ⟨0xf80014, 0, 0, 0, 32⟩
def LGB_INC_HEAD : Fld := ⟨0xf80018, 0, 0, 0, 32⟩
def LGB_INC_HEAD_NEXT : Fld := ⟨0xf80018, 0, 0, 0, 11⟩
def LGB_CTR_LO : Fld := ⟨0xf80100, 8, 0, 0, 32⟩
def LGB_CTR_LO_COUNT : Fld := ⟨0xf80100, 8, 0, 0, 32⟩
def LGB_CTR_HI : Fld := ⟨0xf80104, 8, 0, 0, 32⟩
def LGB_CTR_HI_COUNT : Fld := ⟨0xf80104, 8, 0, 0, 32⟩
def SEC_CTRL : Fld := ⟨0x1000000, 0, 0, 0, 32⟩
def SEC_CTRL_QUOTE : Fld := ⟨0x1000000, 0, 0, 31, 1⟩
def SEC_CTRL_CHAL : Fld := ⟨0x1000000, 0, 0, 30, 1⟩
def SEC_CTRL_UNLOCK : Fld := ⟨0x1000000, 0, 0, 29, 1⟩
def SEC_CTRL_REG_ROOT : Fld := ⟨0x1000000, 0, 0, 28, 1⟩
def SEC_CTRL_LOCK_KORYR : Fld := ⟨0x1000000, 0, 0, 27, 1⟩
def SEC_CTRL_FW_LOAD : Fld := ⟨0x1000000, 0, 0, 26, 1⟩
def SEC_CTRL_SVN_COMMIT : Fld := ⟨0x1000000, 0, 0, 25, 1⟩
def SEC_STAT : Fld := ⟨0x1000004, 0, 0, 0, 32⟩
def SEC_STAT_BUSY : Fld := ⟨0x1000004, 0, 0, 31, 1⟩
def SEC_STAT_QUOTE_READY : Fld := ⟨0x1000004, 0, 0, 30, 1⟩
def SEC_STAT_DEBUG : Fld := ⟨0x1000004, 0, 0, 29, 1⟩
def SEC_STAT_ROOT_SET : Fld := ⟨0x1000004, 0, 0, 28, 1⟩
def SEC_STAT_KORYR_OFF : Fld := ⟨0x1000004, 0, 0, 27, 1⟩
def SEC_STAT_IDX_LOST : Fld := ⟨0x1000004, 0, 0, 26, 1⟩
def SEC_STAT_FAILS : Fld := ⟨0x1000004, 0, 0, 24, 2⟩
def SEC_STAT_FW : Fld := ⟨0x1000004, 0, 0, 16, 4⟩
def SEC_STAT_SVN : Fld := ⟨0x1000004, 0, 0, 8, 8⟩
def SEC_STAT_ERR : Fld := ⟨0x1000004, 0, 0, 0, 4⟩
def SEC_IDX : Fld := ⟨0x1000008, 0, 0, 0, 32⟩
def SEC_IDX_NEXT : Fld := ⟨0x1000008, 0, 0, 0, 17⟩
def SEC_NONCE : Fld := ⟨0x1000020, 4, 0, 0, 32⟩
def SEC_NONCE_NONCE : Fld := ⟨0x1000020, 4, 0, 0, 32⟩
def SEC_DBG_CHAL : Fld := ⟨0x1000040, 4, 0, 0, 32⟩
def SEC_DBG_CHAL_CHAL : Fld := ⟨0x1000040, 4, 0, 0, 32⟩
def SEC_FW_HASH : Fld := ⟨0x1000060, 4, 0, 0, 32⟩
def SEC_FW_HASH_HASH : Fld := ⟨0x1000060, 4, 0, 0, 32⟩
def SEC_ROOT_STAGE : Fld := ⟨0x1000080, 4, 0, 0, 32⟩
def SEC_ROOT_STAGE_KEY : Fld := ⟨0x1000080, 4, 0, 0, 32⟩
def SEC_KORYR_ROOT : Fld := ⟨0x1000100, 4, 0, 0, 32⟩
def SEC_KORYR_ROOT_KEY : Fld := ⟨0x1000100, 4, 0, 0, 32⟩
def GLB_RST_CAUSE : Fld := ⟨0x50, 0, 0, 0, 32⟩
def GLB_RST_CAUSE_CORE : Fld := ⟨0x50, 0, 0, 8, 3⟩
def GLB_RST_CAUSE_WDT : Fld := ⟨0x50, 0, 0, 3, 1⟩
def GLB_RST_CAUSE_PERST : Fld := ⟨0x50, 0, 0, 2, 1⟩
def GLB_RST_CAUSE_WRST : Fld := ⟨0x50, 0, 0, 1, 1⟩
def GLB_RST_CAUSE_PORST : Fld := ⟨0x50, 0, 0, 0, 1⟩
def PCR_PWR_CTRL : Fld := ⟨0x1100100, 0, 0, 0, 32⟩
def PCR_PWR_CTRL_STANDBY : Fld := ⟨0x1100100, 0, 0, 31, 1⟩
def PCR_PWR_STAT : Fld := ⟨0x1100104, 0, 0, 0, 32⟩
def PCR_PWR_STAT_STATE : Fld := ⟨0x1100104, 0, 0, 29, 3⟩
def PCR_PWR_STAT_REFUSED : Fld := ⟨0x1100104, 0, 0, 28, 1⟩
def PCR_PWR_STAT_ERR : Fld := ⟨0x1100104, 0, 0, 24, 4⟩
def PCR_PWR_STAT_WAKE_SRC : Fld := ⟨0x1100104, 0, 0, 20, 4⟩
def PCR_WAKE_CFG : Fld := ⟨0x1100108, 0, 0, 0, 32⟩
def PCR_WAKE_CFG_ALARM_EN : Fld := ⟨0x1100108, 0, 0, 31, 1⟩
def PCR_WAKE_CFG_REFLEX_EN : Fld := ⟨0x1100108, 0, 0, 30, 1⟩
def PCR_WAKE_CFG_GPIO_POL : Fld := ⟨0x1100108, 0, 0, 29, 1⟩
def PCR_WAKE_CFG_GPIO : Fld := ⟨0x1100108, 0, 0, 0, 14⟩
def PCR_WAKE_ALARM : Fld := ⟨0x110010c, 0, 0, 0, 32⟩
def PCR_WAKE_ALARM_SEC : Fld := ⟨0x110010c, 0, 0, 0, 32⟩
def PCR_PD_STAT : Fld := ⟨0x1100110, 0, 0, 0, 32⟩
def PCR_PD_STAT_ON : Fld := ⟨0x1100110, 0, 0, 0, 32⟩
def PCR_THERM : Fld := ⟨0x1100120, 0, 0, 0, 32⟩
def PCR_THERM_THERM_TRIP : Fld := ⟨0x1100120, 0, 0, 31, 1⟩
def PCR_THERM_HOT : Fld := ⟨0x1100120, 0, 0, 30, 1⟩
def PCR_THERM_TJ_FIELD : Fld := ⟨0x1100120, 0, 0, 8, 8⟩
def PCR_THERM_TJ_CORE : Fld := ⟨0x1100120, 0, 0, 0, 8⟩
def GLB_GPIO_CFG : Fld := ⟨0x200, 4, 0, 0, 32⟩
def GLB_GPIO_CFG_IN : Fld := ⟨0x200, 4, 0, 7, 1⟩
def GLB_GPIO_CFG_PULL : Fld := ⟨0x200, 4, 0, 5, 2⟩
def GLB_GPIO_CFG_OUT : Fld := ⟨0x200, 4, 0, 4, 1⟩
def GLB_GPIO_CFG_OD : Fld := ⟨0x200, 4, 0, 3, 1⟩
def GLB_GPIO_CFG_FUNC : Fld := ⟨0x200, 4, 0, 0, 3⟩

end Sys2Proof.Machine
end

