-- ==== Sys2Proof/Machine/State.lean ====
section
/-! DEFINITION. The machine's state as plain data: the registers and windows of BAR0, DRAM, the queue of waiting commands, and
every hidden piece of state that the rules give the blocks. Numbered resources stand in sparse lists keyed by their number
(Sys2Proof/Machine/Store.lean), with the field defaults as the value of an unlisted one. -/

namespace Sys2Proof.Machine

/-- Why the machine stops with a fault. -/
inductive Fault where
  /-- Raised by a meaning whose command term names no command of the hardware (Sys2Proof/WellFormed.lean). Safe: nothing can
  be proved of the hardware from a command it cannot be given. -/
  | illFormed
  deriving DecidableEq, Repr

/-- Why a command has no meaning in the model. -/
inductive Refusal where
  /-- Raised by a dispatch arm whose command has no meaning yet. Safe: the machine stops. -/
  | notModelled (mnemonic : String)
  deriving DecidableEq, Repr

/-- What the device puts out: the model's own record of it (notes/assumptions/9.md). -/
inductive Out where
  | readData (off : Nat) (vals : List Word)            -- a BAR0 read completion
  | readUR                                             -- a read completed with Unsupported Request (R352)
  | bar2Data (bytes : List Byte)                       -- a BAR2 read completion
  | msix (addrLo addrHi data : Word)                   -- an MSI-X message (R358)
  | dmaWrite (addr : Nat) (words : List Nat) (relaxed : Bool) -- data or completion words written to host memory
  | dmaFetch (addr : Nat)                              -- a descriptor fetch (R355)
  | laneFrame (lane head op : Nat) (args : List Nat)   -- a control frame given to a forward lane (R90 to R93)
  | laneEdge (lane slot a b apply : Nat)               -- an edge message: its symbols in two slots, the slot in which it applies (R91)
  | laneGroups (lane : Nat) (groups : List (Nat × Nat)) -- code groups of control frames with their slots (R90)
  | strobe (code : Nat) (par : Bool)                   -- a steering strobe with the levels of `STEER_PH` and `STEER_PAR` (R206)
  | shot (lines : Nat) (width offset : Nat)            -- fire pulses on a mask of fire lines (R205)
  | chainFrame (ch : Nat) (bytes : List Nat)           -- a single-wire frame (R277)
  | ring (port hdr : Nat) (payload : List Nat) (crc : Nat) -- a ring frame: header block, payload blocks, CRC of its END block (R386)
  | reflexData (v : Nat)                               -- the value driven on D15 to D0 (R371)
  | converge (what arg : Nat)                          -- a request to an external part: 0 short test, 1 flash read
  | mram (addr : Nat) (bytes : List Byte)              -- bytes written to MRAM (R410, R411)
  deriving DecidableEq, Repr

/-- A queue word (R325): 64 data bits, the tag bits P, F and L, and whether its stored parity is wrong (R329). -/
structure QWord where
  data : Nat
  p : Bool := false
  f : Bool := false
  l : Bool := false
  bad : Bool := false
  cover : Nat := 0
  dram : Option Nat := none
  deriving DecidableEq, Repr

/-- A committed packet with its sequence number (R328). -/
structure QPkt where
  seq : Nat
  words : List QWord
  deriving DecidableEq, Repr

/-- One packet queue (R325 to R343): its five positions, the committed packets from REL on, the open packet, the active
producers in the order they became active (R327), the words that wait with their producer while `P10` is quiesced (R46),
and the captured pop item (R335). -/
structure QSt where
  rel : Nat := 0
  mark : Nat := 0
  markV : Bool := false
  markLost : Bool := false
  rd : Nat := 0
  cmt : Nat := 0
  wr : Nat := 0
  pkts : List QPkt := []
  isOpen : Bool := false
  openW : List QWord := []
  dropping : Bool := false
  loss : Bool := false
  prods : List Nat := []
  held : List (Nat × QWord) := []
  pop : List Nat := [0, 0, 0, 0]
  deriving DecidableEq, Repr

/-- A fetched DMA descriptor (R345, R346) with what it has received; `last` is the sequence number of the packet whose L word it
received last. -/
structure Desc where
  idx : Nat
  addr : Nat
  len : Nat
  q : Nat
  irq : Bool
  err : Bool := false
  got : Nat := 0
  seq : Nat := 0
  npk : Nat := 0
  last : Nat := 0
  cont : Bool := false
  poison : Bool := false
  loss : Bool := false
  deriving DecidableEq, Repr

/-- A DMA channel (R354 to R357): ring indices being fetched, and fetched uncompleted descriptors in ring order. -/
structure DmaSt where
  asked : List Nat := []
  descs : List Desc := []
  deriving DecidableEq, Repr

/-- A Log and its line generator (R53 to R67). -/
structure LogSt where
  c : Nat := 0
  heldC : Nat := 0
  genOn : Bool := false
  pos : Nat := 0
  rem : Nat := 0
  k : Nat := 0
  int : Nat := 1
  num : Nat := 0
  den : Nat := 1
  pend : Option (Nat × Nat × Nat) := none
  lastIssue : Option Nat := none
  deriving DecidableEq, Repr

/-- The accepted levels of an encoder's inputs, and for each input the level last sampled with the number of consecutive samples that
had it, up to 8 (R55). -/
structure EncSt where
  a : Bool := false
  b : Bool := false
  z : Bool := false
  rawA : Bool × Nat := (false, 0)
  rawB : Bool × Nat := (false, 0)
  rawZ : Bool × Nat := (false, 0)
  deriving DecidableEq, Repr

/-- The value in force of a tagged parameter whose last written value is pending, its effective line, its channel, the channel's run
that the line number belongs to (`ChSt.epoch`), and whether a stamp gave that line (R151, R366). -/
structure PendVal where
  force : Nat := 0
  e : Nat := 0
  ch : Nat := 0
  epoch : Nat := 0
  stamped : Bool := false
  w : Nat := 32
  live : Bool := false
  deriving DecidableEq, Repr

/-- A packet of an upstream lane as it is read (R94 to R96): its header fields, its data blocks after the first, its samples, and the
header and trailer checks; `regAddr` and `regData` are those of a status packet (kind 1). -/
structure Packet where
  hdrOk : Bool := true
  kind : Nat := 0
  head : Nat := 0
  colour : Nat := 0
  short : Bool := false
  pack : Nat := 0
  stampLog : Nat := 0
  stamp : Nat := 0
  count : Nat := 0
  seq : Nat := 0
  blocks : Nat := 0
  samples : List Nat := []
  crcOk : Bool := true
  regAddr : Nat := 0
  regData : Nat := 0
  deriving DecidableEq, Repr

/-- A line that a channel has started and that is still outstanding (R99). `kind` is 0 numbered, 1 priming, 2 check (R197); a
check line has its place `idx` among the checks, and in `num` the number of the first new line. -/
structure OLine where
  kind : Nat := 0
  idx : Nat := 0
  num : Nat := 0
  epoch : Nat := 0
  logN : Nat := 0
  logV : Nat := 0
  chrono : Nat := 0
  expL : Nat := 0
  expS : Nat := 0
  subs : List (Nat × Packet) := []
  repeated : Nat := 0
  late : Bool := false
  tag : Bool := false
  gap : Bool := false
  lock : Bool := false
  ended : Bool := false
  seam : Bool := false
  deriving DecidableEq, Repr

/-- A delivered line (R100, R101): its sub-lines in order of colour and of long, short, their samples as the sensor gave them with packing
`pack`; a sample of 65,536 or more is a fill sample, at 16-bit scale above 65,536. `expL` and `expS` are the exposures whose charge it
carries (R111), `addr` the DRAM offset of the slot that it has landed in (R147). -/
structure Line where
  kind : Nat := 0
  idx : Nat := 0
  num : Nat := 0
  epoch : Nat := 0
  logN : Nat := 0
  logV : Nat := 0
  chrono : Nat := 0
  status : Nat := 0
  submask : Nat := 0
  missing : Nat := 0
  pack : Nat := 2
  subs : List (List Nat) := []
  expL : Nat := 0
  expS : Nat := 0
  seam : Bool := false
  addr : Nat := 0
  stood : Bool := false
  deriving DecidableEq, Repr

/-- An imaging channel (R80 to R101, R146 to R149). `last` is the number of its last line start, none since enable (R150); `sched` the
line events still to come of the template that runs, each with its effective time in pixel clocks, the slot wanted for it and its word
(R86, R87), and `endClk` the effective time at which the template ends, `endAt` the elapsed count then; `epoch` numbers the channel's runs, one for each enable,
`slot` is the landing slot of the next line (notes/assumptions/96.md), and `blankAt` the elapsed count at which the BLANK window opened
(R285). -/
structure ChSt where
  on : Bool := false
  epoch : Nat := 0
  last : Option Nat := none
  next : Nat := 0
  busy : Bool := false
  settle : List Nat := []
  outst : List OLine := []
  gap : Bool := false
  seam : Bool := false
  lock : Bool := false
  lastDel : Option Nat := none
  exps : List (Nat × Nat × Nat) := []
  forceL : Nat := 0
  forceS : Nat := 0
  holdL : Option Nat := none
  holdS : Option Nat := none
  landed : List Line := []
  slot : Nat := 0
  dropped : Nat := 0
  high : Bool := false
  inl : List Line := []
  winOpen : Nat := 0
  blank : Bool := false
  blankAt : Nat := 0
  sched : List (Nat × Nat × Nat) := []
  endClk : Nat := 0
  endAt : Nat := 0
  deriving DecidableEq, Repr

/-- A lane: the head and address of the READ that waits for its status packet (R98), whether it tries to relock (R105), whether its EYE
lies below EYE_MIN while UP (R103); the slots that edge messages hold (R92), the code groups of the frames that wait, whether the first
of them has begun, and the next slot for them (R90); the bytes of the upstream packet that is open (R94, R100). -/
structure LaneSt where
  reading : Option (Nat × Nat) := none
  relock : Bool := false
  below : Bool := false
  msgs : List Nat := []
  frames : List (List Nat) := []
  mid : Bool := false
  slot : Nat := 0
  rx : Option (List Nat) := none
  deriving DecidableEq, Repr

/-- The running capture (R120 to R124): the exposures and ratio of its first accepted line. -/
structure CapSt where
  force : Bool := false
  white : Bool := false
  ref : Option (Nat × Nat × Nat) := none
  deriving DecidableEq, Repr

/-- A warm-up detector's open window (R126): its start, the sum of strip means as a fraction, the good lines, and the last mean. -/
structure WarmSt where
  t0 : Option Nat := none
  sum : Nat := 0
  den : Nat := 1
  good : Nat := 0
  mPrev : Option (Nat × Nat) := none
  deriving DecidableEq, Repr

/-- A complete height profile in a history (R134, R250, R397): its registration stamp and the DRAM offset of its 256 entries. -/
structure Prof where
  stamp : Nat := 0
  addr : Nat := 0
  deriving DecidableEq, Repr

/-- The high-water counts of the four operation pools (R26): histogram-update tags, DRAM transactions, DMA descriptors, line jobs. -/
structure PoolSt where
  tags : Nat := 0
  dram : Nat := 0
  descs : Nat := 0
  jobs : Nat := 0
  deriving DecidableEq, Repr

/-- Parts of a neighbour's profile received so far (R397). -/
structure NbrPart where
  frame : Nat := 0
  stamp : Nat := 0
  parts : List (Nat × List ProfEntry) := []
  deriving DecidableEq, Repr

/-- A view's open packet (its lines and its format) and its vertical group in progress (R143, R145): the group's number and
format, the sums of its members' values, its first member, and what their line words add up to. -/
structure VSt where
  lines : Nat := 0
  key : List Nat := []
  grp : Option Nat := none
  gkey : List Nat := []
  members : Nat := 0
  acc : List (List Nat) := []
  first : Line := {}
  status : Nat := 0
  submask : Nat := 0
  age : Int := 0
  dropped : Nat := 0
  seam : Nat := 0
  deriving DecidableEq, Repr

/-- A switch input (R162, R163): its accepted level; the level last sampled, since when in the elapsed count it has been sampled, and what
the latch takes of its first sample: load position, encoder count and chronometer. -/
structure SwSt where
  acc : Bool := false
  raw : Bool := false
  since : Nat := 0
  pos : Int := 0
  enc : Nat := 0
  time : Nat := 0
  deriving DecidableEq, Repr

/-- An axis (R154 to R173, R176, R184). Positions are scaled by 125000³, velocities by 125000², accelerations by 125000, so that
every rule of a tick is exact (notes/assumptions/14.md). `p` is the load position; the motor stands at `p + gap`, where `gap` runs
from -`bl` to 0 across the backlash; `tested` is a DMAX and JMAX pair that failed the test of R172, `cap` the velocity held after
one that passed; `steps` the microsteps that wait for their slots (direction, whole load position, take-up); `home` the step of the
home sequence; `limStop` 1 during a limit stop, `limDir` the direction in which its limit stands; `holdStep` the
ticks of the step down to IHOLD, `holdDue` one that waits for ISET to be back at IRUN (R186); `pitch` the line pitch in force, and
`gridNew` a write of LINE_PITCH or LINE_ORIGIN that waits for the next tick (R156, R170). -/
structure AxSt where
  v : Int := 0
  acc : Int := 0
  p : Int := 0
  gap : Int := 0
  bl : Int := 0
  newGoal : Bool := false
  prof1 : Bool := false
  dmax : Nat := 1000000
  jmax : Nat := 65536
  tested : Option Nat := none
  testedJ : Option Nat := none
  ramp : Bool := false
  cap : Option Int := none
  steps : List (Int × Int × Bool) := []
  gridNext : Int := 65536
  home : Nat := 0
  homeFrom : Int := 0
  homeEdge : Int := 0
  limStop : Nat := 0
  limDir : Int := 0
  swA : SwSt := {}
  swB : SwSt := {}
  encIn : EncSt := {}
  align : Int := 0
  devTicks : Nat := 0
  beyond : Bool := false
  noDev : Nat := 0
  holdStep : Nat := 0
  holdDue : Bool := false
  boosted : Bool := false
  pitch : Nat := 65536
  gridNew : Bool := false
  deriving DecidableEq, Repr

/-- A coil's chopper (R177): 0 IDLE, 1 BLANK_ON, 2 ON, 3 BLANK_OFF, 4 OFF; consecutive cycles ended by MAXON (R180); whether the
off phase is in fast decay (R178). Its passage (R181): quadrant, chopper cycles completed, the sum of T over them with the T of the cycle
under way, whether it is to be discarded; and the quadrant, cycles and sum of T of the passage that has ended and waits to be evaluated. -/
structure CoilSt where
  st : Nat := 0
  maxon : Nat := 0
  fast : Bool := false
  quad : Nat := 0
  cycles : Nat := 0
  sumT : Nat := 0
  nowT : Nat := 0
  bad : Bool := false
  ended : Option (Nat × Nat × Nat) := none
  deriving DecidableEq, Repr

/-- The pacing of an axis (R187 to R200): the two line numbers and the one of the last tick, the drain estimate, whether a seam is
pending, the back-up point (scaled), the priming starts of the sequence, the starts sent, whether the first new line has been
stepped, the state after a quiesce, and the correlator's lines and residual: the reference lines with their numbers and whether each
carries GAP, whether a line start before the stop was refused, the check lines; `rested` says that the axis has been at rest since its
seam is pending, `due` that its sequence begins at BACKUP once it has come to rest, `inSeq` that the last first new line was stepped within
a sequence, whose residual it takes. -/
structure PaceSt where
  nStart : Nat := 0
  nRel : Nat := 0
  nPrev : Nat := 0
  r : Int := 0
  seam : Bool := false
  back : Int := 0
  prime : Nat := 0
  sent : Nat := 0
  crossed : Bool := false
  held : Nat := 0
  refs : List (Nat × Bool × List Nat) := []
  lost : Bool := false
  rested : Bool := false
  due : Bool := false
  inSeq : Bool := false
  chks : List (Nat × List Nat) := []
  res : Int := -16384
  deriving DecidableEq, Repr

/-- A result and its fix (R243, R246 to R248, R251): channel, profile entry with the flags, NET, AMB, PASS, NPEAK, NC and NZ, and TIME and
TC in 1/16 LSB. -/
structure FixRes where
  ch : Nat := 0
  ent : ProfEntry := {}
  net : Nat := 0
  amb : Nat := 0
  pass : Nat := 0
  npeak : Nat := 0
  nc : Nat := 0
  nz : Nat := 0
  time : Nat := 0
  tc : Nat := 0
  deriving DecidableEq, Repr

/-- What the coarse analysis of a channel leaves (R235 to R239): ambient in 1/256 count, kept peaks, coarse time, net of the surface in
1/256 count, whether a bin of its centroid had few live shots, and the zoom window's start; `surf` whether there is a surface. -/
structure CoarseRes where
  surf : Bool := false
  amb : Nat := 0
  npeak : Nat := 0
  tc : Nat := 0
  net : Nat := 0
  low : Bool := false
  zstart : Nat := 0
  deriving DecidableEq, Repr

/-- One appearance of a phase in a frame (R204, R220): its code, the elapsed count at its start, shots fired and counted in each pass,
shots whose fourth event fell in a block, whether a pulse was withheld, coarse results, and what has been analysed. -/
structure PhSt where
  code : Nat := 0
  t0 : Nat := 0
  firedC : Nat := 0
  firedZ : Nat := 0
  nC : Nat := 0
  nZ : Nat := 0
  satC : List (Nat × Nat) := []
  satZ : List (Nat × Nat) := []
  withheld : Bool := false
  coarse : List (Nat × CoarseRes) := []
  coarseDone : Bool := false
  done : Bool := false
  deriving DecidableEq, Repr

/-- A range frame (R203, R204, R232, R249): number, profile, buffer, the registers as they stood at its START_FRAME, its registration,
the phases started, whether its schedule has ended and whether its results are delivered, its results so far, and the pulses fired on
each segment (R216). -/
structure FrameSt where
  num : Nat := 0
  prof : Nat := 0
  buf : Nat := 0
  snap : List (Nat × Word) := []
  logN : Nat := 0
  logV : Nat := 0
  chrono : Nat := 0
  line : Nat := 0
  lineV : Bool := false
  phases : List PhSt := []
  ended : Bool := false
  delivered : Bool := false
  res : List FixRes := []
  miss : Bool := false
  ovr : Bool := false
  pulses : List (Nat × Nat) := []
  deriving DecidableEq, Repr

/-- The emitter: its code register (R208), the arming holdoff (R210), whether RGE_LIMITED_EVT was raised in the present bin (R214),
the levels of `STEER_STB`, of the code balls and of `STEER_PAR` (R206), whether a change of family waits for the frame's end (R209), and
the emitter-inhibit lines last seen asserted (R211). -/
structure RgeSt where
  lfsr : Nat := 0
  holdoff : Bool := false
  limitedBin : Bool := false
  stb : Bool := false
  steer : Nat := 0
  par : Bool := false
  newFamily : Bool := false
  inhib : Nat := 0
  deriving DecidableEq, Repr

/-- The frames in progress or with results pending, oldest first (R232, R241), the last frame number, whether a frame has filled a
buffer since the load, the shot under measurement (R221 to R224) with the frame number and the phase's place that it belongs to and
whether it is a zoom shot, the previous results (R237), a request to freeze (R231), and the parts of the store (4 × buffer + phase)
whose contents standby has lost (R430). -/
structure RghSt where
  frames : List FrameSt := []
  lastFrame : Nat := 0
  filled : Bool := false
  expect : Bool := false
  start : Option Nat := none
  isOpen : Bool := false
  ref : Nat × Nat × Bool := (0, 0, false)
  edges : List (Nat × Nat) := []
  deadT : List (Nat × Nat) := []
  prev : List (Nat × Nat) := []
  freezeReq : Bool := false
  lost : List Nat := []
  deriving DecidableEq, Repr

/-- Background calibration (R254 to R257): cell hits of the present converter, when each table was made, accepted tables that wait
for the frame's end, edges counted in the present bin, and whether that bin is one in which the rates restart (R259); the cell masks in
force, nominal where there are none, and those that wait with their tables (R404, R408). -/
structure FixSt where
  hits : List (Nat × Nat) := []
  total : Nat := 0
  tables : List (Nat × List Nat) := []
  made : List (Nat × Nat) := []
  waiting : List (Nat × List Nat) := []
  edges : List (Nat × Nat) := []
  part : Bool := false
  cells : Option (List Byte) := none
  cellsWait : Option (List Byte) := none
  deriving DecidableEq, Repr

/-- A sink: settings in force (R265), whether EN has taken effect, whether it conducted in this period, the elapsed count at the start of
its pulse period, the ticks of the on-phase that is still to be measured; of the on-phase under way its start, up to when its ticks are
counted and when the pattern ends it (R263, R271); of an awl pulse up to when its ticks are counted and its end (R285); its current
setting summed over the ticks of this 1 ms bin (R270); consecutive counts of R283 and R284, the last measurement (mV, elapsed count), and the logbook's parts of a µs (in 10 ns) and of a nC (in 1/16,383). -/
structure SinkSt where
  ctrl : Nat := 0x02000000
  duty : Nat := 0
  run : Bool := false
  lit : Bool := false
  t0 : Nat := 0
  ticks : Nat := 0
  began : Nat := 0
  since : Option Nat := none
  stop : Option Nat := none
  awl : Option (Nat × Nat) := none
  binQ : Nat := 0
  low : Nat := 0
  high : Nat := 0
  meas : Option (Nat × Nat) := none
  onRem : Nat := 0
  chRem : Nat := 0
  deriving DecidableEq, Repr

/-- The headroom converter (R267, R268): target in mV, start of its ramp, measurements of this period (sink, mV), times of the last
excursions, whether switching is stopped, and whether `LED_DISC` is closed. -/
structure ConvSt where
  target : Nat := 0
  ramp : Option Nat := none
  meas : List (Nat × Nat) := []
  excursions : List Nat := []
  stopped : Bool := false
  disc : Bool := false
  deriving DecidableEq, Repr

/-- A pattern engine (R272 to R275): the step word fetched, loop counters, units passed in its step, values at the step's start, the step
that follows, and whether it is held at its step boundary (R287). -/
structure PeSt where
  word : Nat := 0
  armed0 : Bool := false
  armed1 : Bool := false
  n0 : Nat := 0
  n1 : Nat := 0
  unit : Nat := 0
  v0 : List (Nat × Nat) := []
  next : Nat := 0
  held : Bool := false
  deriving DecidableEq, Repr

/-- A single-wire chain (R280, R281): a held request, when the data frame and the strobe leaving end, waiting strobes, strobes
awaiting return, and whether a check failed. -/
structure ChainSt where
  held : Bool := false
  sendEnd : Nat := 0
  strobeEnd : Nat := 0
  waiting : List Nat := []
  flight : List Nat := []
  failed : Bool := false
  deriving DecidableEq, Repr

/-- A setup's counters (R292, R304): narrow results in a row, clean readings while BROKEN, and the elapsed count at its last
result (R300). -/
structure SuSt where
  narrow : Nat := 0
  clean : Nat := 0
  last : Option Nat := none
  deriving DecidableEq, Repr

/-- A converter (R309 to R317, R321). `phase`: 0 idle, 1 waits for a source, 2 settling, 3 integrating, 4 open-wire pulse, 5 waits
for its pair, 6 holds its result for the pair. `code` and `ovr` are the result so far; `redo` is the regular entry that an injected
pass or a pair put off, `redoRun` whether its conversion was aborted (R316); `bad` marks the half of a pair whose setup is invalid
(R289), `cut` a pass that a quiesce ends with the conversion in progress (R323). -/
structure CvSt where
  phase : Nat := 0
  inj : Bool := false
  entry : Nat := 0
  setup : Nat := 0
  range : Nat := 0
  second : Bool := false
  code : Int := 0
  ovr : Bool := false
  compl : Bool := false
  skip : Bool := false
  rerun : Bool := false
  recov : Bool := false
  recovNext : Bool := false
  stamp : Nat := 0
  regRun : Bool := false
  injRun : Bool := false
  regNext : Nat := 0
  injNext : Nat := 0
  redo : Option Nat := none
  redoRun : Bool := false
  bad : Bool := false
  cut : Bool := false
  rpend : Bool := false
  ipend : Bool := false
  delR : Option Nat := none
  delI : Option Nat := none
  pair : Bool := false
  alone : Bool := false
  sources : List (Nat × Nat × Nat) := []
  owOpen : Option Bool := none
  deriving DecidableEq, Repr

/-- The front end: active coefficient sets (R301), mains periods in ns, newest first, with the good ones in a row (R297), each
switch's consecutive results and whether its set condition held on the last one (R305), whether a D2D fault holds the switches
safe, and the lines and pins that the switches held when a PANEL_RESET of `P8` came (R306). -/
structure AfeSt where
  poly : List (Nat × Nat) := []
  periods : List Nat := []
  good : Nat := 0
  tsCnt : List (Nat × Nat) := []
  tsHeld : List (Nat × Bool) := []
  d2d : Bool := false
  heldLines : Nat := 0
  heldPins : Nat := 0
  deriving DecidableEq, Repr

/-- The reflex port (R369 to R372): last value of each command slot, the Log values captured by reads of word 0, the words of the
record in force, the status word of each channel's last line to leave the geometry stage, and the entries as they stood when `P15`
quiesced (R46). -/
structure ReflexSt where
  slots : List (Nat × Nat) := []
  logCap : List (Nat × Nat) := []
  record : List (Nat × Nat) := []
  lineStat : List (Nat × Nat) := []
  snap : List (Nat × Nat) := []
  port : List (Nat × Nat) := []
  deriving DecidableEq, Repr

/-- The bridle ring (R383 to R398): the lead strap; whether an ID has been taken since training began, and the SEQ of the ENUM that gave
it; on the lead, whether training found the ring open, the followers counted by the ENUM that returned on each side, the ID of each
follower and the latency of its downstream link in 1/16 ns by its place on the ring (the lead at 0, followers downstream from 1 on; the
`j`-th upstream of an open ring at 4096 - `j`), whether a break has split the ring since, and whether CODE frames wait for the end of a
quiesce; whether the path to the lead stands, the lead's ID, the port at which its last frame arrived and when, and the family it
assigned; the ticks that wait for their moment and those to be sent, by Log (lead time, reverse); parts of neighbours' profiles and the
port at which each side's arrive; whether training restarts at release; whether the tunnelled operation is a write; the ports that try to
relock, a port folded as training began, and whether the ports run at 1.25 Gbit/s (R436). -/
structure RingSt where
  strapLead : Bool := false
  idTaken : Bool := false
  enumSeq : Option Nat := none
  isOpen : Bool := false
  cntD : Option Nat := none
  cntU : Option Nat := none
  ids : List (Nat × Nat) := []
  lat : List (Nat × Nat) := []
  broken : Bool := false
  codesDue : Bool := false
  path : Bool := false
  leadId : Nat := 0
  toLead : Nat := 0
  heard : Nat := 0
  family : Option Nat := none
  waiting : List (Nat × List (Nat × Bool)) := []
  toSend : List (Nat × List (Nat × Bool)) := []
  parts : List (Nat × NbrPart) := []
  nbrPort : List (Nat × Nat) := []
  restart : Bool := false
  tunWrite : Bool := false
  relock : List Nat := []
  refold : Option Nat := none
  slow : Bool := false
  deriving DecidableEq, Repr

/-- An MRAM record (R410): the fields of its header; the trims of each step with their bytes (sections 1 to 6; 0 the run descriptor, 11 to 16
the steps' per-element figures); its numbered values (a calibration record: figures 0 to 7, QFAIL 16, calibrated rates from 100; a logbook
record: counters 0 to 127, calendar 128, whether it holds an identity index 129, R426); its CRC-32C and its commit word. -/
structure Rec where
  magic : Nat := 0
  version : Nat := 0
  kind : Nat := 0
  length : Nat := 0
  gen : Nat := 0
  secs : Nat := 0
  fw : Nat := 0
  serial : Nat := 0
  sections : List (Nat × List Byte) := []
  nums : List (Nat × Nat) := []
  crc : Nat := 0
  commit : Nat := 0
  deriving DecidableEq, Repr

/-- What START fixes for a run (R400, R410): the declared references in µV, mΩ and ps, the calibration load, STEPS and the calendar. -/
structure CalRun where
  uv : Nat := 0
  mohm : Nat := 0
  ps : Nat := 0
  load : Nat := 0
  steps : Nat := 0
  secs : Nat := 0
  deriving DecidableEq, Repr

/-- The factory run (R400 to R408) and the record slots of MRAM (R410): what START fixed, the steps still to come, the trials and figures
of those done, the record being written (0 none, 1 logbook, 2 calibration) into slot `target` as `draft`, whether it is its second try,
whether a save waits, and a periodic one for the end of a COMMIT (R415), whether the save that runs or waits is one of `PFW#`, the slots;
the trims in force by element, nominal where none is listed, and those of a committed record that wait for their moment (R408); whether
RTC_LOST waits for the boot, and, while the newest calibration entry of the incident log is a CAL_STARTED, the step last started (R409);
the references measured and the elapsed count at which the step in progress began. -/
structure CalSt where
  run : CalRun := {}
  left : List Nat := []
  trial : List (Nat × List Byte) := []
  figs : List (Nat × Nat) := []
  writing : Nat := 0
  target : Nat := 0
  draft : Rec := {}
  retry : Bool := false
  saveHeld : Bool := false
  saveDue : Bool := false
  pfw : Nat := 0
  calA : Rec := {}
  calB : Rec := {}
  lgbA : Rec := {}
  lgbB : Rec := {}
  trims : List (Nat × List Byte) := []
  trimWait : List (Nat × List Byte) := []
  rtcLost : Bool := false
  started : Option Nat := none
  meas : List (Nat × Nat) := []
  since : Nat := 0
  deriving DecidableEq, Repr

/-- The security state (R419 to R429): the customer root in OTP, whether a challenge stands, the quote being built (the index of its
signature and its body), whether its index has been committed, whether SEC_IDX_LOW was raised, the running firmware's version and
security version. -/
structure SecSt where
  otpRoot : List Word := []
  chalLive : Bool := false
  quote : Option (Nat × List Byte) := none
  committed : Bool := false
  lowRaised : Bool := false
  fwVersion : Nat := 0
  fwSvn : Nat := 0
  deriving DecidableEq, Repr

/-- Harness loading (R39 to R50): the image fetched, its source (0 staging, 1 and 2 the flash slots, 3 reserved) and staging range;
the boot load and the slots it has still to try; the loaded panels that the commit replaces or unloads, those of them that it does not
load again; the panels still to be asked
to quiesce, and those asked and not yet released; whether the shading store is still being initialised (R118); whether a short test is
due at the release of `P7` (R282); the panel of a PANEL_RESET in progress; the use mask of the power-domain plan; each loaded panel's
dependencies with their minimum versions; the panels quiesced as targets. -/
structure HrnSt where
  storeBusy : Bool := true
  shortDue : Bool := false
  image : List Byte := []
  src : Nat := 0
  stageLo : Nat := 0
  stageHi : Nat := 0
  boot : Bool := false
  bootSlots : List Nat := []
  targets : List Nat := []
  drops : List Nat := []
  order : List Nat := []
  asked : List Nat := []
  resetting : Option Nat := none
  domains : Nat := 0xFFFFFFFF
  deps : List (Nat × List (Nat × Nat)) := []
  quiTarget : List Nat := []
  deriving DecidableEq, Repr

/-- Power (R16, R435 to R439, R442, R459): the wake source that came during a standby entry; whether a reset of the cores waits for
the end of an entry or a wake; the speed and width that the link had before standby; whether the die-to-die link is down after a
fault; whether Tj has been above 80 °C since it last counted a thermal cycle. -/
structure PwrSt where
  wakeWait : Nat := 0
  restart : Bool := false
  linkSpeed : Nat := 0
  linkWidth : Nat := 0
  d2dDown : Bool := false
  hot80 : Bool := false
  deriving DecidableEq, Repr

/-- What the configuration space holds beside the identity, which `pcieVendor`, `pcieDevice` and `pcieClass` give (R351): the payload and
read request sizes that the host has set, in bytes, and the AER status words. No command of the table writes it (notes/assumptions/108.md). -/
structure PcieSt where
  maxPayload : Nat := 128
  maxRead : Nat := 512
  aerCorr : BitVec 32 := 0
  aerUncorr : BitVec 32 := 0
  deriving DecidableEq, Repr

/-- Vendor ID (R351). -/
def pcieVendor : BitVec 16 := 0x1F7C#16

/-- Device ID (R351). -/
def pcieDevice : BitVec 16 := 0x7484#16

/-- Class code (R351). -/
def pcieClass : BitVec 24 := 0x118000#24

/-- What the board and the device's own fixed contents give the machine (notes/assumptions/10.md): installed DRAM in bytes, its
trained data rate in MT/s (0 before training), the flash contents by byte address (an unlisted byte is erased), the device serial; the
level that the external circuit of each GPIO drives, for one that drives any (R457); and the references that a fixture applies for a
factory run, as the device measures them in µV, mΩ and ps (R401). -/
structure Board where
  refUv : Nat := 5000000
  refMohm : Nat := 10000000
  refPs : Nat := 100000
  gpioIn : List (Nat × Bool) := []
  dramSize : Nat := 0x400000000
  dramRate : Nat := 0
  flash : List (Nat × Byte) := []
  serial : Nat := 0
  deriving DecidableEq, Repr

/-- The machine. -/
structure State where
  /-- The commands that wait, first in, first out (the model's own queue). -/
  pending : List Instr := []
  /-- Registers and windows of BAR0 by byte offset (R4, R29): last written values. -/
  regs : List (Nat × Word) := []
  /-- DRAM by byte offset (R31). -/
  dram : List (Nat × Byte) := []
  /-- Values captured by a read of a lowest word (R8), by offset of the upper word. -/
  captures : List (Nat × Word) := []
  /-- What the device has put out, newest first (notes/assumptions/9.md). -/
  outs : List Out := []
  /-- Free values taken so far (notes/assumptions/7.md). -/
  fresh : Nat := 0
  /-- Vectors for which the present command has raised a message (R380). -/
  vecReq : List Nat := []
  /-- Event sources that the present command has raised (R382). -/
  raised : List Nat := []
  /-- Strobes of pattern engines in the present cycle, chain and data: they go out behind the waypoints' (R281). -/
  peDue : List (Nat × Nat) := []
  /-- The elapsed count in ns (R76). -/
  elapsed : Nat := 0
  /-- The time in ns since the last step of 40 of the 25 MHz clock, while the timing reference is off (R434). -/
  tickRest : Nat := 0
  /-- The chronometer in ns (R73). -/
  chrono : Nat := 0
  /-- The elapsed count at the last run of each timer that runs at whole multiples of a period: 0 the planner (R156), 1 TIME frames (R390),
  2 LOG frames (R392), 3 logbook saves (R415), 8 to 11 the ticks of the Logs with SRC 8 (R469), 12 dissipation bins (R270). -/
  timers : List (Nat × Nat) := []
  /-- The chronometer before and after each of its steps, newest first (R74, R76). -/
  steps : List (Nat × Nat) := []
  /-- Correction still to slew, and time still to hold, of a follower's chronometer in ns (R74). -/
  slew : Int := 0
  hold : Nat := 0
  /-- The calendar in ns (R417, notes/assumptions/28.md). -/
  rtc : Nat := 0
  /-- The Function Mask of the MSI-X capability (R358). -/
  funcMask : Bool := false
  /-- The rest of the PCI Express configuration space (R351). -/
  pcie : PcieSt := {}
  qs : List (Nat × QSt) := []
  dma : List (Nat × DmaSt) := []
  logs : List (Nat × LogSt) := []
  wpLo : List (Nat × Nat) := []
  enc : List (Nat × EncSt) := []
  pend : List (Nat × PendVal) := []
  ch : List (Nat × ChSt) := []
  lane : List (Nat × LaneSt) := []
  cap : CapSt := {}
  warm : List (Nat × WarmSt) := []
  /-- Where the shading store has lost its contents with its domain (R430): the first of the free values that its words hold, and the
  words written since, by window offset. -/
  shadeLost : Option (Nat × List Nat) := none
  /-- Store words whose parity is wrong (R119), by window offset. -/
  badPar : List Nat := []
  /-- The histories of height profiles, newest first: the device's own by frame profile (R134), and the neighbours' by 16 times their side
  plus the frame profile (R397). -/
  hist : List (Nat × List Prof) := []
  nbr : List (Nat × List Prof) := []
  view : List (Nat × VSt) := []
  axis : List (Nat × AxSt) := []
  coil : List (Nat × CoilSt) := []
  pace : List (Nat × PaceSt) := []
  rge : RgeSt := {}
  /-- Each segment's pulse weights in the present 100 ms bin and the 50 bins before it (R214), newest first. -/
  acct : List (Nat × List Nat) := []
  rgh : RghSt := {}
  fix : FixSt := {}
  sink : List (Nat × SinkSt) := []
  conv : ConvSt := {}
  /-- Sink energy of the last 1 ms bins, newest first, in fJ / 16,383 (R270). -/
  diss : List Nat := []
  pe : List (Nat × PeSt) := []
  chain : List (Nat × ChainSt) := []
  afe : AfeSt := {}
  su : List (Nat × SuSt) := []
  cv : List (Nat × CvSt) := []
  reflex : ReflexSt := {}
  ring : RingSt := {}
  ringSeq : List (Nat × Nat) := []
  cal : CalSt := {}
  sec : SecSt := {}
  hrn : HrnSt := {}
  pwr : PwrSt := {}
  board : Board := {}
  pool : PoolSt := {}
  deriving DecidableEq, Repr

/-- The machine right after `PORST#` (R7, R73): every register at its reset value, every list empty, nothing pending. -/
def State.reset : State := {}

end Sys2Proof.Machine
end

