-- ==== Sys2Proof/Machine/Store.lean ====
section
/-! DEFINITION. Sparse storage: a list of key and value pairs with keys strictly rising and no entry equal to what an unlisted
key reads as, which is the default function `d`. Registers, windows, DRAM and the numbered resources' state are held so. -/

namespace Sys2Proof.Machine

/-- What key `k` reads as: its entry, or the default where none is listed. -/
def kvGet {α : Type} (d : Nat → α) : List (Nat × α) → Nat → α
  | [], k => d k
  | (a, v) :: t, k => if a = k then v else kvGet d t k

/-- The list without any entry for key `k`. -/
def kvDel {α : Type} : List (Nat × α) → Nat → List (Nat × α)
  | [], _ => []
  | (a, v) :: t, k => if a = k then kvDel t k else (a, v) :: kvDel t k

/-- The list with the entry `(k, v)` in its sorted place. -/
def kvPut {α : Type} : List (Nat × α) → Nat → α → List (Nat × α)
  | [], k, v => [(k, v)]
  | (a, w) :: t, k, v =>
    if k < a then (k, v) :: (a, w) :: t
    else if a = k then (k, v) :: t
    else (a, w) :: kvPut t k v

/-- Writing `v` at key `k`: an entry equal to the default is removed. -/
def kvSet {α : Type} [DecidableEq α] (d : Nat → α) (l : List (Nat × α)) (k : Nat) (v : α) : List (Nat × α) :=
  if v = d k then kvDel l k else kvPut l k v

/-- The canonical form: keys strictly rising from `lo`, and no entry equal to the default. -/
def kvCanonFrom {α : Type} [DecidableEq α] (d : Nat → α) : Nat → List (Nat × α) → Bool
  | _, [] => true
  | lo, (a, v) :: t => decide (lo ≤ a) && decide (v ≠ d a) && kvCanonFrom d (a + 1) t

/-- The canonical form of a whole list. -/
def kvCanon {α : Type} [DecidableEq α] (d : Nat → α) (l : List (Nat × α)) : Bool := kvCanonFrom d 0 l

/-- The bits `[lo + w - 1 : lo]` of a number. -/
def bitsOf (n lo w : Nat) : Nat := n / 2 ^ lo % 2 ^ w

/-- `n` with its bits `[lo + w - 1 : lo]` set to `v`. -/
def setBits (n lo w v : Nat) : Nat :=
  n % 2 ^ lo + v % 2 ^ w * 2 ^ lo + n / 2 ^ (lo + w) * 2 ^ (lo + w)

/-- Whether bit `i` of `n` is set. -/
def bit (n i : Nat) : Bool := n / 2 ^ i % 2 == 1

/-- The value of `n` as a two's complement number of `w` bits. -/
def sext (w n : Nat) : Int :=
  let m := n % 2 ^ w
  if m ≥ 2 ^ (w - 1) then (m : Int) - 2 ^ w else m

/-- The `w`-bit two's complement code of an integer. -/
def toBits (w : Nat) (i : Int) : Nat := (i % 2 ^ w).toNat

/-- Division rounded to nearest, halves away from zero (spec/00_scope.md, Numbers and units). -/
def divNearest (a b : Int) : Int :=
  if a ≥ 0 then (2 * a + b) / (2 * b) else -((2 * (-a) + b) / (2 * b))

/-- The integer square root, rounded down (fuel is the number of result bits). -/
def isqrtBits : Nat → Nat → Nat → Nat
  | 0, _, r => r
  | k + 1, n, r => let c := r + 2 ^ k; isqrtBits k n (if c * c ≤ n then c else r)

/-- `floor (sqrt n)` for `n < 2^96`. -/
def isqrt (n : Nat) : Nat := isqrtBits 48 n 0

/-- The numbers of the set bits of `m` below `w`, rising. -/
def bitsList (m w : Nat) : List Nat := (List.range w).filter (bit m)

/-- A state change made for each element of a list, in order. -/
def forEach {σ α : Type} (l : List α) (s : σ) (f : σ → α → σ) : σ := l.foldl f s

/-- A state change made only where a condition holds. -/
def onlyIf {σ : Type} (b : Bool) (f : σ → σ) (s : σ) : σ := if b then f s else s

end Sys2Proof.Machine
end

