-- ==== Sys2Proof/Machine/Shake.lean ====
section
/-! DEFINITION. SHAKE256 of FIPS 202 (R419): the Keccak-f[1600] permutation over 25 lanes of 64 bits, lane `x + 5 y` at place (x, y), and
the sponge of 136 bytes a block. -/

namespace Sys2Proof.Machine

/-- A lane rotated left by `n` places. -/
def rotl64 (x n : Nat) : Nat := x * 2 ^ n % 2 ^ 64 + x / 2 ^ (64 - n)

/-- The rotation of each lane (FIPS 202, 3.2.2). -/
def rhoOffsets : List Nat :=
  [0, 1, 62, 28, 27, 36, 44, 6, 55, 20, 3, 10, 43, 25, 39, 41, 45, 15, 21, 8, 18, 2, 61, 56, 14]

/-- The constant of each of the 24 rounds (FIPS 202, 3.2.5). -/
def roundConstants : List Nat :=
  [0x1, 0x8082, 0x800000000000808A, 0x8000000080008000, 0x808B, 0x80000001, 0x8000000080008081, 0x8000000000008009,
   0x8A, 0x88, 0x80008009, 0x8000000A, 0x8000808B, 0x800000000000008B, 0x8000000000008089, 0x8000000000008003,
   0x8000000000008002, 0x8000000000000080, 0x800A, 0x800000008000000A, 0x8000000080008081, 0x8000000000008080, 0x80000001,
   0x8000000080008008]

/-- A list of lanes made from each place's number. -/
def lanesOf (f : Nat → Nat) : List Nat := (List.range 25).map f

/-- The steps theta and rho of a round. -/
def thetaRho (a : List Nat) : List Nat :=
  let c := (List.range 5).map fun x => (List.range 5).foldl (fun n y => Nat.xor n (a.getD (x + 5 * y) 0)) 0
  let d (x : Nat) : Nat := Nat.xor (c.getD ((x + 4) % 5) 0) (rotl64 (c.getD ((x + 1) % 5) 0) 1)
  lanesOf fun i => rotl64 (Nat.xor (a.getD i 0) (d (i % 5))) (rhoOffsets.getD i 0)

/-- The steps pi, chi and iota of a round. -/
def piChiIota (a : List Nat) (rc : Nat) : List Nat :=
  let b (x y : Nat) : Nat := a.getD ((x + 3 * y) % 5 + 5 * x) 0
  lanesOf fun i =>
    let x := i % 5
    let y := i / 5
    let n := Nat.xor (b x y) (Nat.land (2 ^ 64 - 1 - b ((x + 1) % 5) y) (b ((x + 2) % 5) y))
    if i = 0 then Nat.xor n rc else n

/-- Keccak-f[1600] (FIPS 202, 3.3). -/
def keccakF (a : List Nat) : List Nat := roundConstants.foldl (fun a rc => piChiIota (thetaRho a) rc) a

/-- The number that bytes spell, the least significant first. -/
def leNat (l : List Byte) : Nat := l.foldr (fun b n => b.toNat + 256 * n) 0

/-- A message padded to whole blocks for SHAKE256 (FIPS 202, 5.1 and 6.2). -/
def shakePad (l : List Byte) : List Byte :=
  let k := 136 - l.length % 136
  if k = 1 then l ++ [0x9F] else l ++ 0x1F :: List.replicate (k - 2) 0 ++ [0x80]

/-- `n` blocks of a padded message absorbed. -/
def shakeAbsorb : Nat → List Byte → List Nat → List Nat
  | 0, _, a => a
  | n + 1, l, a => shakeAbsorb n (l.drop 136) (keccakF (lanesOf fun i => Nat.xor (a.getD i 0) (if i < 17 then leNat ((l.drop (8 * i)).take 8) else 0)))

/-- SHAKE256 with an output of 256 bits (FIPS 202). -/
def shake256 (l : List Byte) : List Byte :=
  let p := shakePad l
  let a := shakeAbsorb (p.length / 136) p (List.replicate 25 0)
  (List.range 32).map fun i => BitVec.ofNat 8 (a.getD (i / 8) 0 / 2 ^ (8 * (i % 8)))

end Sys2Proof.Machine
end

