-- ==== Sys2Proof/Machine/Xmss.lean ====
section
/-! DEFINITION. XMSS of RFC 8391 with the SHAKE256 parameter sets of NIST SP 800-208, n = 32 and w = 16 (R419): verification, and the
identity key's signatures, whose secrets are opaque (notes/assumptions/8.md). -/

namespace Sys2Proof.Machine

/-! ### Bytes -/

/-- `n` bytes of a number, the most significant first. -/
def beBytes (n v : Nat) : List Byte := (List.range n).map fun i => BitVec.ofNat 8 (v / 256 ^ (n - 1 - i))

/-- The number that bytes spell, the most significant first. -/
def beNat (l : List Byte) : Nat := l.foldl (fun n b => 256 * n + b.toNat) 0

/-- Two byte strings, exclusive-ORed. -/
def xorBytes (a b : List Byte) : List Byte := (a.zip b).map fun x => x.1 ^^^ x.2

/-- Chunk `i` of 32 bytes. -/
def chunk32 (l : List Byte) (i : Nat) : List Byte := (l.drop (32 * i)).take 32

/-! ### Keyed hashes and addresses (RFC 8391, 2.5 and 5.1) -/

/-- The keyed hash of kind `k`: 0 F, 1 H, 2 H_msg, 3 PRF. -/
def xmssHash (k : Nat) (key msg : List Byte) : List Byte := shake256 (beBytes 32 k ++ key ++ msg)

/-- A hash address: its type (0 OTS, 1 L-tree, 2 tree) and its last four words; layer and tree are 0. -/
def xmssAdrs (ty a b c m : Nat) : List Byte := beBytes 12 0 ++ beBytes 4 ty ++ beBytes 4 a ++ beBytes 4 b ++ beBytes 4 c ++ beBytes 4 m

/-- The pseudorandom bytes of an address under the public seed. -/
def xmssPrf (seed adrs : List Byte) : List Byte := xmssHash 3 seed adrs

/-- RAND_HASH of two nodes at an address of type `ty` (RFC 8391, 4.1.4). -/
def randHash (seed : List Byte) (ty a b c : Nat) (l r : List Byte) : List Byte :=
  let p (m : Nat) : List Byte := xmssPrf seed (xmssAdrs ty a b c m)
  xmssHash 1 (p 0) (xorBytes l (p 1) ++ xorBytes r (p 2))

/-! ### WOTS+ (RFC 8391, 3.1) -/

/-- `n` steps of chain `c` of the one-time key `ots`, from step `i` on. -/
def wotsChain (seed : List Byte) (ots c : Nat) : Nat → Nat → List Byte → List Byte
  | 0, _, x => x
  | n + 1, i, x =>
    let p (m : Nat) : List Byte := xmssPrf seed (xmssAdrs 0 ots c i m)
    wotsChain seed ots c n (i + 1) (xmssHash 0 (p 0) (xorBytes x (p 1)))

/-- The 67 base-16 digits of a message hash: 64 of its own and 3 of the checksum. -/
def wotsDigits (m : List Byte) : List Nat :=
  let d := m.flatMap fun b => [b.toNat / 16, b.toNat % 16]
  let sum := (d.map (15 - ·)).sum
  d ++ [sum / 256 % 16, sum / 16 % 16, sum % 16]

/-- The public key of a one-time key from the signature of a message hash: 67 chain ends. -/
def wotsPkFromSig (seed : List Byte) (ots : Nat) (m sig : List Byte) : List (List Byte) :=
  (wotsDigits m).zipIdx.map fun d => wotsChain seed ots d.2 (15 - d.1) d.1 (chunk32 sig d.2)

/-- The nodes of one level of an L-tree taken in pairs; a last one without a partner moves up. -/
def pairNodes (f : Nat → List Byte → List Byte → List Byte) : Nat → List (List Byte) → List (List Byte)
  | i, a :: b :: t => f i a b :: pairNodes f (i + 1) t
  | _, l => l

/-- The root of the L-tree over a one-time public key; 67 nodes take seven levels (RFC 8391, 4.1.5). -/
def lTree (seed : List Byte) (ots : Nat) (pk : List (List Byte)) : List Byte :=
  ((List.range 7).foldl (fun l h => pairNodes (randHash seed 1 ots h) 0 l) pk).headD []

/-! ### Verification (RFC 8391, 4.1.10) -/

/-- The root that an authentication path leads to from leaf `idx`, through `h` levels from level `k` on. -/
def pathRoot (seed : List Byte) (idx : Nat) (auth : List Byte) : Nat → Nat → List Byte → List Byte
  | 0, _, x => x
  | h + 1, k, x =>
    let i := idx / 2 ^ (k + 1)
    pathRoot seed idx auth h (k + 1)
      (if idx / 2 ^ k % 2 = 0 then randHash seed 2 0 k i x (chunk32 auth k) else randHash seed 2 0 k i (chunk32 auth k) x)

/-- Whether a signature of tree height `h` over a message verifies under a 68-byte public key: OID, root, public seed. -/
def xmssVerify (h : Nat) (key msg sig : List Byte) : Bool :=
  let root := (key.drop 4).take 32
  let seed := (key.drop 36).take 32
  let idx := beNat (sig.take 4)
  let m := xmssHash 2 ((sig.drop 4).take 32 ++ root ++ beBytes 32 idx) msg
  sig.length == 2180 + 32 * h && decide (idx < 2 ^ h)
    && pathRoot seed idx (sig.drop 2180) h 0 (lTree seed idx (wotsPkFromSig seed idx m (sig.drop 36))) == root

/-! ### The identity key (R425, R427) -/

/-- 32 bytes of a secret. -/
def secretBytes (v : BitVec 256) : List Byte := beBytes 32 v.toNat

/-- The identity key's public seed. -/
def identitySeed : List Byte := secretBytes Config.identitySeed

/-- Start of chain `c` of the identity's one-time key `i`. -/
def identityStart (i c : Nat) : List Byte := secretBytes (Config.identitySecret i c)

/-- The leaf of the identity's one-time key `i`. -/
def identityLeaf (i : Nat) : List Byte :=
  lTree identitySeed i ((List.range 67).map fun c => wotsChain identitySeed i c 15 0 (identityStart i c))

/-- Node `i` of level `k` of the identity's tree (RFC 8391, 4.1.6). -/
def identityNode : Nat → Nat → List Byte
  | 0, i => identityLeaf i
  | k + 1, i => randHash identitySeed 2 0 k i (identityNode k (2 * i)) (identityNode k (2 * i + 1))

/-- The identity public key: OID 0x11, the root of its 65,536 leaves, the public seed (R419). -/
def identityKey : List Byte := [0x11, 0, 0, 0] ++ identityNode 16 0 ++ identitySeed

/-- The identity signature of index `i` over a message: index, randomness, WOTS+ signature, authentication path (R425, R427). -/
def identitySign (i : Nat) (msg : List Byte) : List Byte :=
  let r := xmssHash 3 (secretBytes Config.identityPrf) (beBytes 32 i)
  let m := xmssHash 2 (r ++ identityNode 16 0 ++ beBytes 32 i) msg
  beBytes 4 i ++ r ++ ((wotsDigits m).zipIdx.flatMap fun d => wotsChain identitySeed i d.2 d.1 0 (identityStart i d.2))
    ++ (List.range 16).flatMap fun k => identityNode k (Nat.xor (i / 2 ^ k) 1)

end Sys2Proof.Machine
end

