-- ==== Sys2Proof/Machine/Ops.lean ====
section
/-! DEFINITION. The named operations over the state: registers and their reset values, DRAM bytes, numbered resources, free
values, outputs, raising an event source (R375), and what follows from the hard action lines (R210, R211, R269, R378). -/

namespace Sys2Proof.Machine

/-! ### Reset values of the registers and windows (R7) -/

/-- The two indices of `off` in a register row, where `off` is one of its registers (R5). -/
def rowIndex (r : RegDesc) (off : Nat) : Option (Nat × Nat) :=
  if off < r.base then none
  else
    let d := off - r.base
    let i := if r.s1 = 0 then 0 else min (d / r.s1) (r.n1 - 1)
    let e := d - i * r.s1
    let j := if r.s2 = 0 then 0 else e / r.s2
    if j < r.n2 && e == j * r.s2 then some (i, j) else none

/-- The first row that holds a register at `off`. -/
def findRow : List RegDesc → Nat → Option RegDesc
  | [], _ => none
  | r :: t, off => if (rowIndex r off).isSome then some r else findRow t off

/-- The rows of the block that `off` lies in (R29). -/
def blockRows (off : Nat) : List RegDesc :=
  match off / 0x100000 with
  | 0 => regs_hrn ++ regs_host ++ regs_pwr ++ regs_misc
  | 1 => regs_hrn
  | 2 => regs_log
  | 3 => regs_sns
  | 4 => regs_ipc
  | 5 => regs_ipg
  | 6 => regs_axs ++ regs_axsSup ++ regs_axsPace
  | 7 => regs_rge
  | 8 => regs_rgh ++ regs_fix
  | 9 => regs_ilu
  | 10 => regs_afe
  | 11 => regs_cnv
  | 12 => regs_que
  | 13 => regs_evt
  | 14 => regs_brd
  | 15 => regs_calLgb
  | 16 => regs_sec
  | 17 => regs_host ++ regs_pwr ++ regs_misc
  | _ => []

/-- The register at `off`, if there is one. -/
def regRow (off : Nat) : Option RegDesc := findRow (blockRows off) off

/-- What the windows of BAR0 hold after reset: shading words, linearisation entries (R118), the MSI-X mask bits (R358). -/
def windowReset (off : Nat) : Nat :=
  if 0x1400000 ≤ off && off < 0x1700000 then 0x40000000
  else if 0x1700000 ≤ off && off < 0x17C0000 then 256 * (off % 0x4000 / 4)
  else if 0x1108000 ≤ off && off < 0x1108400 && off % 16 == 12 then 1
  else 0

/-- Word `n` of the Koryr root public key (R460): the OID, then root and public seed. -/
def koryrWord (n : Nat) : Word := if n = 0 then 0x12#32 else Config.koryrRoot n

/-- The value of the register or window word at `off` after `PORST#` (R7). -/
def regReset (off : Nat) : Word :=
  if 0x501000 ≤ off && off < 0x501400 then BitVec.ofNat 32 (firReset ((off - 0x501000) / 4))
  else if 0x508000 ≤ off && off < 0x508800 && off % 0x20 == 0 then BitVec.ofNat 32 ((off - 0x508000) / 0x20 * 0x1000000)
  else if 0x1000100 ≤ off && off < 0x1000144 then koryrWord ((off - 0x1000100) / 4)
  else match regRow off with
    | some r => BitVec.ofNat 32 r.reset
    | none => BitVec.ofNat 32 (windowReset off)

/-! ### Registers -/

/-- The word last written at a BAR0 offset. -/
def State.get (s : State) (off : Nat) : Word := kvGet regReset s.regs off

/-- The state with a BAR0 word set. -/
def State.set (s : State) (off : Nat) (v : Word) : State := { s with regs := kvSet regReset s.regs off v }

/-- The offset of a field's register (R5). -/
def Fld.off (f : Fld) (i j : Nat) : Nat := f.base + i * f.s1 + j * f.s2

/-- A field's value. -/
def State.rd (s : State) (f : Fld) (i : Nat := 0) (j : Nat := 0) : Nat := bitsOf (s.get (f.off i j)).toNat f.lo f.w

/-- The state with a field set. -/
def State.wr (s : State) (f : Fld) (v : Nat) (i : Nat := 0) (j : Nat := 0) : State :=
  s.set (f.off i j) (BitVec.ofNat 32 (setBits (s.get (f.off i j)).toNat f.lo f.w v))

/-- Whether a one-bit field is 1. -/
def State.flag (s : State) (f : Fld) (i : Nat := 0) (j : Nat := 0) : Bool := s.rd f i j != 0

/-- A signed field's value. -/
def State.rdS (s : State) (f : Fld) (i : Nat := 0) (j : Nat := 0) : Int := sext f.w (s.rd f i j)

/-- A counter that saturates, `n` added. -/
def State.sat (s : State) (f : Fld) (n : Nat := 1) (i : Nat := 0) (j : Nat := 0) : State :=
  s.wr f (min (s.rd f i j + n) (2 ^ f.w - 1)) i j

/-- A counter that wraps, one added. -/
def State.bump (s : State) (f : Fld) (i : Nat := 0) (j : Nat := 0) : State := s.wr f (s.rd f i j + 1) i j

/-- A field with one of its bits set. -/
def State.setBit (s : State) (f : Fld) (b : Nat) (i : Nat := 0) : State := s.wr f (s.rd f i ||| 2 ^ b) i

/-- A field with one of its bits cleared. -/
def State.clrBit (s : State) (f : Fld) (b : Nat) (i : Nat := 0) : State :=
  if bit (s.rd f i) b then s.wr f (s.rd f i - 2 ^ b) i else s

/-- The value of two consecutive words (R8). -/
def State.rd2 (s : State) (lo hi : Fld) (i : Nat := 0) : Nat := s.rd lo i + 2 ^ 32 * s.rd hi i

/-- Two consecutive words set. -/
def State.wr2 (s : State) (lo hi : Fld) (v : Nat) (i : Nat := 0) : State := (s.wr lo v i).wr hi (v / 2 ^ 32) i

/-! ### Numbered resources -/

/-- The state of a queue. -/
def State.q (s : State) (n : Nat) : QSt := kvGet (fun _ => {}) s.qs n

/-- The state with that of a queue replaced. -/
def State.setQ (s : State) (n : Nat) (v : QSt) : State := { s with qs := kvSet (fun _ => {}) s.qs n v }

/-- The state with that of a queue changed by `g`. -/
def State.updQ (s : State) (n : Nat) (g : QSt → QSt) : State := s.setQ n (g (s.q n))

/-- The state of a DMA channel. -/
def State.dmaCh (s : State) (n : Nat) : DmaSt := kvGet (fun _ => {}) s.dma n

/-- The state with that of a DMA channel replaced. -/
def State.setDmaCh (s : State) (n : Nat) (v : DmaSt) : State := { s with dma := kvSet (fun _ => {}) s.dma n v }

/-- The state with that of a DMA channel changed by `g`. -/
def State.updDmaCh (s : State) (n : Nat) (g : DmaSt → DmaSt) : State := s.setDmaCh n (g (s.dmaCh n))

/-- The state of a Log. -/
def State.log (s : State) (n : Nat) : LogSt := kvGet (fun _ => {}) s.logs n

/-- The state with that of a Log replaced. -/
def State.setLog (s : State) (n : Nat) (v : LogSt) : State := { s with logs := kvSet (fun _ => {}) s.logs n v }

/-- The state with that of a Log changed by `g`. -/
def State.updLog (s : State) (n : Nat) (g : LogSt → LogSt) : State := s.setLog n (g (s.log n))

/-- The state of a web encoder. -/
def State.encoder (s : State) (n : Nat) : EncSt := kvGet (fun _ => {}) s.enc n

/-- The state with that of a web encoder replaced. -/
def State.setEncoder (s : State) (n : Nat) (v : EncSt) : State := { s with enc := kvSet (fun _ => {}) s.enc n v }

/-- The state with that of a web encoder changed by `g`. -/
def State.updEncoder (s : State) (n : Nat) (g : EncSt → EncSt) : State := s.setEncoder n (g (s.encoder n))

/-- The state of a imaging channel. -/
def State.chan (s : State) (n : Nat) : ChSt := kvGet (fun _ => {}) s.ch n

/-- The state with that of a imaging channel replaced. -/
def State.setChan (s : State) (n : Nat) (v : ChSt) : State := { s with ch := kvSet (fun _ => {}) s.ch n v }

/-- The state with that of a imaging channel changed by `g`. -/
def State.updChan (s : State) (n : Nat) (g : ChSt → ChSt) : State := s.setChan n (g (s.chan n))

/-- The state of a lane. -/
def State.laneSt (s : State) (n : Nat) : LaneSt := kvGet (fun _ => {}) s.lane n

/-- The state with that of a lane replaced. -/
def State.setLaneSt (s : State) (n : Nat) (v : LaneSt) : State := { s with lane := kvSet (fun _ => {}) s.lane n v }

/-- The state with that of a lane changed by `g`. -/
def State.updLaneSt (s : State) (n : Nat) (g : LaneSt → LaneSt) : State := s.setLaneSt n (g (s.laneSt n))

/-- The state of a warm-up detector. -/
def State.warmSt (s : State) (n : Nat) : WarmSt := kvGet (fun _ => {}) s.warm n

/-- The state with that of a warm-up detector replaced. -/
def State.setWarmSt (s : State) (n : Nat) (v : WarmSt) : State := { s with warm := kvSet (fun _ => {}) s.warm n v }

/-- The state with that of a warm-up detector changed by `g`. -/
def State.updWarmSt (s : State) (n : Nat) (g : WarmSt → WarmSt) : State := s.setWarmSt n (g (s.warmSt n))

/-- The state of a view. -/
def State.viewSt (s : State) (n : Nat) : VSt := kvGet (fun _ => {}) s.view n

/-- The state with that of a view replaced. -/
def State.setViewSt (s : State) (n : Nat) (v : VSt) : State := { s with view := kvSet (fun _ => {}) s.view n v }

/-- The state with that of a view changed by `g`. -/
def State.updViewSt (s : State) (n : Nat) (g : VSt → VSt) : State := s.setViewSt n (g (s.viewSt n))

/-- The state of a axis. -/
def State.ax (s : State) (n : Nat) : AxSt := kvGet (fun _ => {}) s.axis n

/-- The state with that of a axis replaced. -/
def State.setAx (s : State) (n : Nat) (v : AxSt) : State := { s with axis := kvSet (fun _ => {}) s.axis n v }

/-- The state with that of a axis changed by `g`. -/
def State.updAx (s : State) (n : Nat) (g : AxSt → AxSt) : State := s.setAx n (g (s.ax n))

/-- The state of a coil. -/
def State.coilSt (s : State) (n : Nat) : CoilSt := kvGet (fun _ => {}) s.coil n

/-- The state with that of a coil replaced. -/
def State.setCoilSt (s : State) (n : Nat) (v : CoilSt) : State := { s with coil := kvSet (fun _ => {}) s.coil n v }

/-- The state with that of a coil changed by `g`. -/
def State.updCoilSt (s : State) (n : Nat) (g : CoilSt → CoilSt) : State := s.setCoilSt n (g (s.coilSt n))

/-- The state of a paced axis. -/
def State.paceSt (s : State) (n : Nat) : PaceSt := kvGet (fun _ => {}) s.pace n

/-- The state with that of a paced axis replaced. -/
def State.setPaceSt (s : State) (n : Nat) (v : PaceSt) : State := { s with pace := kvSet (fun _ => {}) s.pace n v }

/-- The state with that of a paced axis changed by `g`. -/
def State.updPaceSt (s : State) (n : Nat) (g : PaceSt → PaceSt) : State := s.setPaceSt n (g (s.paceSt n))

/-- The state of a sink. -/
def State.sinkSt (s : State) (n : Nat) : SinkSt := kvGet (fun _ => {}) s.sink n

/-- The state with that of a sink replaced. -/
def State.setSinkSt (s : State) (n : Nat) (v : SinkSt) : State := { s with sink := kvSet (fun _ => {}) s.sink n v }

/-- The state with that of a sink changed by `g`. -/
def State.updSinkSt (s : State) (n : Nat) (g : SinkSt → SinkSt) : State := s.setSinkSt n (g (s.sinkSt n))

/-- The state of a pattern engine. -/
def State.peSt (s : State) (n : Nat) : PeSt := kvGet (fun _ => {}) s.pe n

/-- The state with that of a pattern engine replaced. -/
def State.setPeSt (s : State) (n : Nat) (v : PeSt) : State := { s with pe := kvSet (fun _ => {}) s.pe n v }

/-- The state with that of a pattern engine changed by `g`. -/
def State.updPeSt (s : State) (n : Nat) (g : PeSt → PeSt) : State := s.setPeSt n (g (s.peSt n))

/-- The state of a chain. -/
def State.chainSt (s : State) (n : Nat) : ChainSt := kvGet (fun _ => {}) s.chain n

/-- The state with that of a chain replaced. -/
def State.setChainSt (s : State) (n : Nat) (v : ChainSt) : State := { s with chain := kvSet (fun _ => {}) s.chain n v }

/-- The state with that of a chain changed by `g`. -/
def State.updChainSt (s : State) (n : Nat) (g : ChainSt → ChainSt) : State := s.setChainSt n (g (s.chainSt n))

/-- The state of a setup. -/
def State.suSt (s : State) (n : Nat) : SuSt := kvGet (fun _ => {}) s.su n

/-- The state with that of a setup replaced. -/
def State.setSuSt (s : State) (n : Nat) (v : SuSt) : State := { s with su := kvSet (fun _ => {}) s.su n v }

/-- The state with that of a setup changed by `g`. -/
def State.updSuSt (s : State) (n : Nat) (g : SuSt → SuSt) : State := s.setSuSt n (g (s.suSt n))

/-- The state of a converter. -/
def State.cvSt (s : State) (n : Nat) : CvSt := kvGet (fun _ => {}) s.cv n

/-- The state with that of a converter replaced. -/
def State.setCvSt (s : State) (n : Nat) (v : CvSt) : State := { s with cv := kvSet (fun _ => {}) s.cv n v }

/-- The state with that of a converter changed by `g`. -/
def State.updCvSt (s : State) (n : Nat) (g : CvSt → CvSt) : State := s.setCvSt n (g (s.cvSt n))

/-! ### DRAM, outputs, free values -/

/-- A DRAM byte; a byte that nothing has written reads 0 (notes/assumptions/2.md). -/
def State.byte (s : State) (a : Nat) : Byte := kvGet (fun _ => 0) s.dram a

/-- The state with a DRAM byte set. -/
def State.setByte (s : State) (a : Nat) (b : Byte) : State := { s with dram := kvSet (fun _ => 0) s.dram a b }

/-- The canonical form of DRAM: addresses strictly rising, no entry equal to what an unlisted address reads as. -/
def Memory.wf (l : List (Nat × Byte)) : Bool := kvCanon (fun _ => 0) l

/-- `n` DRAM bytes from `a`. -/
def State.bytes (s : State) (a : Nat) : Nat → List Byte
  | 0 => []
  | n + 1 => s.byte a :: s.bytes (a + 1) n

/-- Consecutive DRAM bytes written from an offset, those beyond the installed DRAM excepted (R31). -/
def State.setBytes (s : State) (a : Nat) : List Byte → State
  | [] => s
  | b :: t => let s := s.setBytes (a + 1) t; if a < s.board.dramSize then s.setByte a b else s

/-- The `n` bytes of a number, the least significant first. -/
def leBytes : Nat → Nat → List Byte
  | 0, _ => []
  | n + 1, v => BitVec.ofNat 8 v :: leBytes n (v / 256)

/-- The bytes of an ASCII string. -/
def asciiBytes (t : String) : List Byte := t.toList.map fun c => BitVec.ofNat 8 c.toNat

/-- The number that `n` DRAM bytes from an offset spell, the least significant first. -/
def State.leRead (s : State) (a : Nat) : Nat → Nat
  | 0 => 0
  | n + 1 => (s.byte a).toNat + 256 * s.leRead (a + 1) n

/-- An output of the device. -/
def State.out (s : State) (o : Out) : State := { s with outs := o :: s.outs }

/-- A free value below `2^w`, taken fresh (notes/assumptions/7.md). -/
def State.free (s : State) (w : Nat) : Nat := Config.freeValue s.fresh % 2 ^ w

/-- The state after a free value has been taken. -/
def State.used (s : State) : State := { s with fresh := s.fresh + 1 }

/-- `n` free bytes. -/
def freeBytes : Nat → State → State × List Byte
  | 0, s => (s, [])
  | n + 1, s => let x := freeBytes n s.used; (x.1, BitVec.ofNat 8 (s.free 8) :: x.2)

/-- Requests of an engine enter the pool of DRAM transactions, which keeps its high-water count (R26). How many are in flight follows from
timing: a free number from 1 to 8,192 (notes/assumptions/97.md). -/
def dramUse (s : State) : State := { s.used with pool := { s.pool with dram := max s.pool.dram (s.free 13 + 1) } }

/-- A timing event takes a histogram-update tag (R26); how many are in flight follows from timing, a free number from 1 to 32,768
(notes/assumptions/97.md). -/
def tagUse (s : State) : State := { s.used with pool := { s.pool with tags := max s.pool.tags (s.free 15 + 1) } }

/-! ### Height profiles in DRAM (R134, R397) -/

/-- Entry `n` of a stored profile as a word, laid out as fix word 0 of R251 (notes/assumptions/96.md). -/
def entryWord (n : Nat) (e : ProfEntry) : Nat := e.flags % 2 ^ 16 + n * 2 ^ 16 + e.conf * 2 ^ 24 + toBits 32 e.height * 2 ^ 32

/-- The eight bytes of that entry. -/
def entryBytes (n : Nat) (e : ProfEntry) : List Byte := leBytes 8 (entryWord n e)

/-- Entry `n` of a stored profile. -/
def profEntry (s : State) (p : Prof) (n : Nat) : ProfEntry :=
  let w := s.leRead (p.addr + 8 * n) 8
  { height := sext 32 (w / 2 ^ 32), conf := bitsOf w 24 8, flags := bitsOf w 0 16 }

/-- A complete profile stored in the next of the 64 places of 2 KiB from `base`, and entered into a history, newest first, of which
64 are kept (R134, R397, notes/assumptions/96.md). -/
def histEnter (s : State) (base : Nat) (l : List Prof) (stamp : Nat) (ents : List ProfEntry) : State × List Prof :=
  let a := match l with
    | [] => base
    | p :: _ => base + (p.addr - base + 2048) % 0x20000
  (dramUse (s.setBytes a (ents.zipIdx.flatMap fun e => entryBytes e.2 e.1)), (⟨stamp, a⟩ :: l).take 64)

/-! ### Sampled inputs (R55) -/

/-- An input sampled at `level`: the level sampled, the number of consecutive samples that have it, and the accepted level. -/
def sampleInput (filter : Nat) (raw : Bool × Nat) (acc level : Bool) : (Bool × Nat) × Bool :=
  let n := if raw.1 == level then min (raw.2 + 1) 8 else 1
  ((level, n), if decide (filter < n) then level else acc)

/-! ### Panels (R30, R32, R46) -/

/-- Whether panel `p` is loaded. -/
def State.loaded (s : State) (p : Nat) : Bool := bit (s.rd GLB_PANEL_STAT_LOADED) p

/-- Whether panel `p` is at its quiesce point or held there. -/
def State.quiesced (s : State) (p : Nat) : Bool := bit (s.rd GLB_PANEL_STAT_QUIESCED) p

/-- Whether panel `p` is in service. -/
def State.active (s : State) (p : Nat) : Bool := s.loaded p && !s.quiesced p

/-- Whether panel `p` has begun to quiesce or is quiesced. -/
def State.quiescing (s : State) (p : Nat) : Bool := s.quiesced p || s.hrn.asked.contains p

/-- Whether panel `p` is in its own swap: unloaded by a commit that replaces it and is not yet done (R39, R45). A panel that a FULL commit
drops is unloaded and in no swap of its own. -/
def State.swapping (s : State) (p : Nat) : Bool :=
  s.rd HRN_STAT_STATE == 5 && s.hrn.targets.contains p && !s.hrn.drops.contains p

/-- Whether panel `p` is quiesced as a target of a commit (R46). -/
def State.quiescedAsTarget (s : State) (p : Nat) : Bool := s.quiesced p && s.hrn.quiTarget.contains p

/-- Whether the power-domain plan uses domain `d` (R431). -/
def State.domain (s : State) (d : Nat) : Bool := bit s.hrn.domains d

/-- Whether the device is in standby or on its way out of it. -/
def inStandby (s : State) : Bool := s.rd PCR_PWR_STAT_STATE == 2 || s.rd PCR_PWR_STAT_STATE == 3

/-- The domains that are on in standby (R430). -/
def standbyOn : List Nat := [0, 1, 2, 3, 18, 19]

/-- Whether domain `d` is on (R430, R431). -/
def State.powered (s : State) (d : Nat) : Bool := s.domain d && (!inStandby s || standbyOn.contains d)

/-- What stands in the list of the store words written since a loss for every word of the accumulator: the offset behind its last. -/
def accWritten : Nat := 0x400000

/-- The word of the shading store at window offset `o`; contents lost with their domain are free values (R430). -/
def storeWord (s : State) (o : Nat) : Word :=
  match s.shadeLost with
  | some (base, new) =>
    if new.contains o || (decide (0x3C0000 ≤ o) && new.contains accWritten) then s.get (0x1400000 + o)
    else BitVec.ofNat 32 (Config.freeValue (base + o / 4))
  | none => s.get (0x1400000 + o)

/-! ### Raising event sources (R375, R376, R380, R396) -/

/-- Whether source `n` is enabled (R376). -/
def State.enabled (s : State) (n : Nat) : Bool := bit (s.rd EVT_EN (n / 32)) (n % 32)

/-- Whether source `n` is pending. -/
def State.isPend (s : State) (n : Nat) : Bool := bit (s.rd EVT_PEND (n / 32)) (n % 32)

/-- A message asked of the vector that source `n` maps to, where the matrix acts and the source is enabled (R376, R380). -/
def askVector (s : State) (n : Nat) : State :=
  if s.active 11 && s.enabled n && s.flag EVT_MAP_VEN n then { s with vecReq := s.rd EVT_MAP_VEC n :: s.vecReq } else s

/-! ### CRC-32C (R96) -/

/-- One bit of CRC-32C (R96). -/
def crc32cBit (c : Nat) : Nat := if c % 2 = 1 then Nat.xor (c / 2) 0x82F63B78 else c / 2

/-- CRC-32C of bytes (R96). -/
def crc32c (l : List Nat) : Nat :=
  Nat.xor (l.foldl (fun c b => (List.range 8).foldl (fun c _ => crc32cBit c) (Nat.xor c b)) 0xFFFFFFFF) 0xFFFFFFFF

/-! ### Ring frames (R386) -/

/-- The header block of a ring frame (R386). -/
def ringHeader (ty : Nat) (bcast up : Bool) (dest src hops len seq : Nat) : Nat :=
  ty % 16 * 2 ^ 60 + (if bcast then 2 ^ 59 else 0) + (if up then 2 ^ 58 else 0) + dest % 2048 * 2 ^ 47 + src % 2048 * 2 ^ 36 +
    hops % 2048 * 2 ^ 25 + len % 512 * 2 ^ 16 + seq % 256 * 2 ^ 8

/-- The `n` bytes of a block, the lowest first (notes/assumptions/93.md, 105.md). -/
def blockBytes (n v : Nat) : List Nat := (List.range n).map fun i => bitsOf v (8 * i) 8

/-- A ring frame that leaves by port `p`: upstream by port 0, downstream by port 1 (R386). -/
def ringFrame (p ty : Nat) (bcast : Bool) (dest src hops seq : Nat) (payload : List Nat) : Out :=
  let h := ringHeader ty bcast (p == 0) dest src hops payload.length seq
  .ring p h payload (crc32c ((h :: payload).flatMap (blockBytes 8)))

/-- The SEQ of the device's next frame of a type (R386): it counts from 0 at reset (notes/assumptions/105.md). -/
def ringNext (s : State) (ty : Nat) : Nat := kvGet (fun _ => 0) s.ringSeq ty

/-- A frame of the device's own out of port `p` (R386). -/
def ringOwn (s : State) (p ty : Nat) (bcast : Bool) (dest : Nat) (payload : List Nat) : State :=
  let n := ringNext s ty
  { s.out (ringFrame p ty bcast dest (s.rd BRD_STAT_ID) 0 n payload) with ringSeq := kvSet (fun _ => 0) s.ringSeq ty ((n + 1) % 256) }

/-- The port that the device's own ring frames leave by: downstream, or the other one where that one is folded (R398,
notes/assumptions/26.md). -/
def ringPort (s : State) : Nat := if s.flag BRD_STAT_FOLDED && s.flag BRD_STAT_FOLD_PORT then 0 else 1

/-- The port by which a follower's frames for the lead leave: the one at which the lead's last frame arrived, or the other one where that
one is folded (notes/assumptions/26.md). -/
def portToLead (s : State) : Nat :=
  if s.flag BRD_STAT_FOLDED && s.rd BRD_STAT_FOLD_PORT == s.ring.toLead then 1 - s.ring.toLead else s.ring.toLead

/-- Whether the device would be lead with the ROLE that stands in a register state (R385). -/
def leadRole (s : State) : Bool := s.rd BRD_CFG_ROLE == 1 || (s.rd BRD_CFG_ROLE != 2 && s.ring.strapLead)

/-- Whether the device may send EVENT, EDGE and TUN frames of its own (R384, R399). -/
def ringSends (s : State) : Bool := s.active 12 && s.flag BRD_CTRL_EN && s.rd BRD_STAT_STATE == 4

/-- The two words of a forwarded event (R396): the payload of its frame and the packet that the lead commits. -/
def eventWords (src n count chrono : Nat) : List Nat := [src % 2048 * 2 ^ 53 + n % 512 * 2 ^ 32 + count, chrono]

/-- The EVENT frame of a follower for a forwarded source (R396, R399). -/
def forwardEvent (s : State) (n : Nat) : State :=
  if ringSends s && !s.flag BRD_STAT_LEAD && bit (s.rd BRD_FWD_EN (n / 32)) (n % 32) then
    ringOwn s (portToLead s) 8 false s.ring.leadId (eventWords (s.rd BRD_STAT_ID) n (s.rd EVT_CNT n) s.chrono)
  else s

/-- A raise of source `n`: one added to its counter, its pending bit set, its outputs driven (R375). -/
def raise (s : State) (n : Nat) : State :=
  let s := s.bump EVT_CNT n
  let s := s.setBit EVT_PEND (n % 32) (n / 32)
  forwardEvent (askVector { s with raised := n :: s.raised } n) n

/-- A raise made only where a condition holds. -/
def raiseIf (s : State) (b : Bool) (n : Nat) : State := if b then raise s n else s

/-- Whether vector `v` is masked (R358). -/
def State.masked (s : State) (v : Nat) : Bool := s.funcMask || bit (s.get (0x1108000 + 16 * v + 12)).toNat 0

/-- Vector `v`'s pending bit in the pending-bit array set or cleared (R358). -/
def setPba (s : State) (v : Nat) (b : Bool) : State :=
  let off := 0x1109000 + 4 * (v / 32)
  s.set off (BitVec.ofNat 32 (setBits (s.get off).toNat (v % 32) 1 (if b then 1 else 0)))

/-- The MSI-X message of vector `v` sent, which starts its holdoff (R380). -/
def emitMsix (s : State) (v : Nat) : State :=
  let b := 0x1108000 + 16 * v
  let s := s.out (.msix (s.get b) (s.get (b + 4)) (s.get (b + 8)))
  let s := s.bump EVT_VSTAT_SENT v
  if s.rd EVT_VMOD_HOLD v == 0 then s else s.wr EVT_VSTAT_HOLDOFF 1 v

/-- A message of vector `v`: due while in holdoff, pending while masked, else sent (R380, R381). -/
def sendVector (s : State) (v : Nat) : State :=
  if s.flag EVT_VSTAT_HOLDOFF v then s.wr EVT_VSTAT_DUE 1 v
  else if s.masked v then setPba s v true
  else emitMsix s v

/-- One message for each vector asked by this command (R380: the raises of one cycle make one message); vectors are 0 to 63. -/
def flushVectors (s : State) : State :=
  forEach s.vecReq.eraseDups.reverse { s with vecReq := [] } fun s v => sendVector s (v % 64)

/-! ### The emitter's stop, its code family, and the lines (R208 to R213, R378) -/

/-- The seed of the code register for family `F` (R208). -/
def codeSeed (family : Nat) : Nat := 0x400000 + family * 2048 + 0x2A5

/-- The family in force brought to the one selected, between frames (R209). -/
def updFamily (s : State) : State :=
  let ring := s.flag RGE_CODE_SRC
  let fam := if ring then s.ring.family.getD (s.rd RGE_CODE_LOCAL) else s.rd RGE_CODE_LOCAL
  let fb := ring && s.ring.family.isNone
  if s.flag RGE_STAT_BUSY then { s with rge := { s.rge with newFamily := true } }
  else
    let s := { s with rge := { s.rge with newFamily := false } }
    let chF := fam != s.rd RGE_CODE_FAMILY
    let chB := fb != s.flag RGE_CODE_FALLBACK
    let s := s.wr RGE_CODE_FAMILY fam
    let s := s.wr RGE_CODE_FALLBACK (if fb then 1 else 0)
    let s := if chF then { s with rge := { s.rge with lfsr := codeSeed fam } } else s
    raiseIf s (chF || chB) 117

/-- The nominal trims of an element (R413): of converter `cv` (0, 1) the middle of its 64 taps, no correction, and of each source group 3
idle and the fine trim at mid-scale; of sink `k` (2 + `k`) code 128; of a coil (26 to 33) selection 32 of its two comparators. -/
def nominalTrim (e : Nat) : List Byte :=
  if e < 2 then leBytes 4 32 ++ leBytes 60 0 ++ (List.range 4).flatMap fun _ => leBytes 4 3 ++ leBytes 4 Config.fineMid.toNat ++ leBytes 8 0
  else if e < 26 then leBytes 4 128
  else leBytes 2 32 ++ leBytes 2 32

/-- The trims in force of an element. -/
def State.trim (s : State) (e : Nat) : List Byte := kvGet nominalTrim s.cal.trims e

/-- The trims of element `e` that wait take force (R408). -/
def trimTake (s : State) (e : Nat) : State :=
  match kvGet (fun _ => none) (s.cal.trimWait.map fun p => (p.1, some p.2)) e with
  | some b => { s with cal := { s.cal with trims := kvSet nominalTrim s.cal.trims e b, trimWait := kvDel s.cal.trimWait e } }
  | none => s

/-- The nominal table of a delay line: 256 cells of ideal width (R413). -/
def nominalTable : List Nat := List.range 256

/-- The cells in force of the 65 delay lines, a mask of 288 bits each: nominal ones are the cells 0 to 255 (R404, R413). -/
def State.cells (s : State) : List Byte := s.fix.cells.getD ((List.range 65).flatMap fun _ => leBytes 36 (2 ^ 256 - 1))

/-- The delay-line table in force of converter `i` (R255). -/
def State.table (s : State) (i : Nat) : List Nat := kvGet (fun _ => nominalTable) s.fix.tables i

/-- An accepted delay-line table takes force (R255). -/
def takeTable (s : State) (t : Nat × List Nat) : State :=
  { s with fix := { s.fix with tables := kvSet (fun _ => nominalTable) s.fix.tables t.1 t.2,
                               made := kvSet (fun _ => 0) s.fix.made t.1 s.elapsed } }

/-- The accepted delay-line tables take force, and the cells chosen with them (R255, R408). -/
def takeTables (s : State) : State :=
  let s := forEach s.fix.waiting s takeTable
  { s with fix := { s.fix with waiting := [], cells := s.fix.cellsWait <|> s.fix.cells, cellsWait := none } }

/-- What happens between frames: accepted delay-line tables take force (R255), unless `P13` is quiesced or swapped (R46), then a waiting
family change (R209). -/
def betweenFrames (s : State) : State :=
  let s := if s.quiesced 13 || s.swapping 13 then s else takeTables s
  if s.rge.newFamily then updFamily s else s

/-- The histograms of phase `k` in buffer `b` cleared (R229). -/
def clearPhase (s : State) (b k : Nat) : State :=
  let lo := 0x1800000 + b * 0x100000 + k * 0x40000
  { s with regs := s.regs.filter fun a => !(decide (lo ≤ a.1) && decide (a.1 < lo + 0x40000)),
           rgh := { s.rgh with lost := s.rgh.lost.filter (· != 4 * b + k) } }

/-- The frame whose schedule runs, if there is one. -/
def State.frameNow (s : State) : Option FrameSt := (s.rgh.frames.getLast?).filter fun f => !f.ended

/-- A frame in progress aborted (R212, R244): no fixes, histograms discarded, ABORTED set; one whose results are already delivered keeps
them (notes/assumptions/100.md). -/
def abortFrame (s : State) : State :=
  match s.frameNow with
  | none => s
  | some f =>
    let s := if f.delivered then s else forEach f.phases s fun s p => clearPhase s f.buf p.code
    let rest := s.rgh.frames.dropLast
    let s := ((s.wr RGE_STAT_BUSY 0).wr RGE_STAT_ABORTED 1).wr RGH_STAT_PASS 0
    let s := s.wr RGH_STAT_BUSY (if rest == [] then 0 else 1)
    betweenFrames
      { s with rge := { s.rge with stb := false },
               rgh := { s.rgh with frames := rest, isOpen := false, start := none, expect := false } }

/-- The emitter disarmed without a trip (R210, R213): the frame aborted, ARMED cleared (`EMIT_EN` low). -/
def disarmEmitter (s : State) : State :=
  if s.flag RGE_STAT_ARMED then
    let s := abortFrame s
    raise ({ s.wr RGE_STAT_ARMED 0 with rge := { s.rge with holdoff := false } }) 118
  else s

/-- The emitter stopped (R211): disarmed, the trip bit set, the event raised, whether or not it was armed. -/
def stopEmitter (s : State) (trip : Fld) (evt : Nat) : State := raise ((disarmEmitter s).wr trip 1) evt

/-- The hard action lines that pending enabled sources map to, and the reflex status bits (R377, R378). -/
def matrixOut (s : State) : Nat × Nat :=
  forEach (List.range 9) (0, 0) fun acc w =>
    forEach (bitsList (s.rd EVT_PEND w &&& s.rd EVT_EN w) 32) acc fun acc j =>
      let n := 32 * w + j
      (acc.1 ||| s.rd EVT_MAP_HAL n,
       if s.flag EVT_MAP_SEN n then acc.2 ||| 2 ^ s.rd EVT_MAP_SBIT n else acc.2)

/-- Whether step LADDER or EXCITATION of a factory run stops the converters (R402). -/
def State.calHoldsConv (s : State) : Bool := s.rd CAL_STAT_STATE == 1 && (s.rd CAL_STAT_STEP == 3 || s.rd CAL_STAT_STEP == 4)

/-- The safe conditions of threshold switch `t` that hold as states of blocks (R306, R402); BROKEN, CFG, a value that is not a
number and staleness stand in SAFE_ACT as the last result left them. -/
def tsSafeNow (s : State) (t : Nat) : Bool :=
  !s.flag AFE_TS_CFG_EN t || !s.loaded 9 || s.quiescedAsTarget 8 || s.quiescedAsTarget 9 || s.afe.d2d || s.calHoldsConv

/-- OUT of threshold switch `t` (R306). -/
def tsOut (s : State) (t : Nat) : Bool :=
  if !s.loaded 8 || tsSafeNow s t || bit (s.rd AFE_TS_STAT_SAFE_ACT) t then s.flag AFE_TS_CFG_SAFE t
  else bit (s.rd AFE_TS_STAT_STATE) t

/-- The lines that threshold switches assert (R306); while `P8` is unloaded, also those that they held before a PANEL_RESET. -/
def tsLines (s : State) : Nat :=
  forEach (List.range 16) (if s.loaded 8 then 0 else s.afe.heldLines) fun acc t => if tsOut s t then acc ||| s.rd AFE_TS_HAL_LINES t else acc

/-- The GPIO pins that threshold switches drive high (R306, R457). -/
def tsPins (s : State) : Nat :=
  forEach (List.range 16) (if s.loaded 8 then 0 else s.afe.heldPins) fun acc t => if tsOut s t then acc ||| 2 ^ s.rd AFE_TS_CFG_GPIO t else acc

/-- The lines that HAL command slots assert (R370): slots of FUNC 7 whose last value is not zero. -/
def reflexLines (s : State) : Nat :=
  forEach (List.range 16) 0 fun acc k =>
    let w := kvGet (fun _ => 0) s.reflex.record (256 + k)
    if s.loaded 15 && bitsOf w 28 4 == 7 && kvGet (fun _ => 0) s.reflex.slots k != 0 then acc ||| 2 ^ bitsOf w 24 4 else acc

/-- The matrix outputs brought up to date (R378, R379): unchanged while `P11` is quiesced or swapped (R46,
notes/assumptions/90.md), none while it is unloaded otherwise. -/
def updMatrix (s : State) : State :=
  if s.swapping 11 then s
  else if !s.loaded 11 then
    forEach (List.range 4) (s.wr EVT_HAL_STAT_MATRIX 0) fun s g => s.wr EVT_RSTAT_BITS 0 g
  else if s.quiesced 11 then s
  else
    let m := matrixOut s
    forEach (List.range 4) (s.wr EVT_HAL_STAT_MATRIX m.1) fun s g => s.wr EVT_RSTAT_BITS (m.2 / 2 ^ (16 * g)) g

/-- SAFE_ACT shows every safe condition that holds while `P8` is loaded; it falls only with a result (R306). -/
def updSafe (s : State) : State :=
  if s.loaded 8 then
    forEach (List.range 16) s fun s t => if tsSafeNow s t then s.setBit AFE_TS_STAT_SAFE_ACT t else s
  else s

/-- The level of every line (R378): matrix, threshold switches and HAL command slots. -/
def updLevels (s : State) : State :=
  s.wr EVT_HAL_STAT_LEVEL (s.rd EVT_HAL_STAT_MATRIX ||| tsLines s ||| reflexLines s)

/-- Whether an emitter-inhibit line is asserted (R378, R379). -/
def State.inhibited (s : State) : Bool := s.rd EVT_HAL_STAT_LEVEL &&& s.rd EVT_HAL_INH_LINES != 0

/-- Whether a line named in `ILU_HAL` is asserted (R269). -/
def State.lampLine (s : State) : Bool := s.rd EVT_HAL_STAT_LEVEL &&& s.rd ILU_HAL_LINES != 0

/-- What asserted lines do: emitter inhibit when a line of its own is newly asserted (R211), and lamp off (R269). -/
def actOnLines (s : State) : State :=
  let on := s.rd EVT_HAL_STAT_LEVEL &&& s.rd EVT_HAL_INH_LINES
  let new := (bitsList on 16).any (fun l => !bit s.rge.inhib l) || (on != 0 && s.flag RGE_STAT_ARMED)
  let s := { s.wr RGE_STAT_INHIBIT_IN (if on != 0 then 1 else 0) with rge := { s.rge with inhib := on } }
  let s := if new then stopEmitter s RGE_STAT_INHIBIT_TRIP 114 else s
  if s.lampLine && !s.flag ILU_STAT_LAMP_TRIP then raise (s.wr ILU_STAT_LAMP_TRIP 1) 166 else s

/-- One round of the lines. -/
def linesRound (s : State) : State := actOnLines (updLevels (updMatrix (updSafe s)))

/-- The lines at rest: an emitter stop and a lamp trip may each make sources pending once, so three rounds reach the end. -/
def settle (s : State) : State := linesRound (linesRound (linesRound s))

/-- The end of every command: the lines follow, the messages asked go out. -/
def finish (s : State) : State := { flushVectors (settle s) with raised := [] }

/-- The outcome of a command that leaves state `s`. -/
def done (s : State) : Host.Outcome State Fault Refusal := .next (finish s)

/-- The chronometer stepped to `v` (R74), which warm-up windows look back on (R76). -/
def chronoStep (s : State) (v : Nat) : State :=
  raise { s with chrono := v, steps := (s.chrono, v) :: s.steps } 30

/-! ### Tagged parameters (R150, R151) -/

/-- The key of a tagged parameter: its register's offset and lowest bit. -/
def tagKey (f : Fld) (i j : Nat) : Nat := f.off i j * 32 + f.lo

/-- The value in force of a tagged field (R151). -/
def State.inForce (s : State) (f : Fld) (i : Nat := 0) (j : Nat := 0) : Nat :=
  let p := kvGet (fun _ => {}) s.pend (tagKey f i j)
  if p.live then p.force else s.rd f i j

/-- A tagged write whose last-written value already stands in its register: `old` stays in force until line `e` of channel
`c`, a line that a stamp gave or not. Answers whether an earlier pending value was replaced (R130, R151). -/
def tagField (s : State) (f : Fld) (i j old e c : Nat) (stamped : Bool) : State × Bool :=
  let k := tagKey f i j
  let p := kvGet (fun _ => {}) s.pend k
  let v : PendVal := { force := if p.live then p.force else old, e := e % 2 ^ 32, ch := c, epoch := (s.chan c).epoch,
                       stamped := stamped, w := f.w, live := true }
  ({ s with pend := kvSet (fun _ => {}) s.pend k v }, p.live)

/-- Whether line `n` of run `ep` lies at or above the effective line of a pending value (R151). -/
def PendVal.due (p : PendVal) (ep n : Nat) : Bool :=
  decide (p.epoch < ep) || (p.epoch == ep && decide ((n + 2 ^ 32 - p.e) % 2 ^ 32 < 2 ^ 31))

/-- The pending values of channel `c` with an effective line at or below line `n` of run `ep` taken into force (R151). -/
def applyPend (s : State) (c ep n : Nat) : State :=
  { s with pend := s.pend.filter fun kp => !(kp.2.ch == c && kp.2.due ep n) }

/-- The pending values of channel `c` that no line of the run behind it has reached count their lines from the next run's first: a value
`k` lines behind the last line start stands `k` lines behind the number -1 (R130, R150). A line that a stamp gave keeps its number. -/
def renumberPend (s : State) (c : Nat) : State :=
  let x := s.chan c
  { s with pend := s.pend.map fun kp =>
      if kp.2.ch == c && kp.2.epoch == x.epoch && !x.last.any (fun n => kp.2.due x.epoch n) then
        (kp.1, { kp.2 with epoch := x.epoch + 1,
                           e := if kp.2.stamped then kp.2.e else (kp.2.e + 2 ^ 32 - (x.last.elim 0 (· + 1))) % 2 ^ 32 })
      else kp }

/-- The pending values of registers at offsets in `[lo, hi)` discarded: the registers read the value in force again, and each
counts in SWAP_DISCARD (R51). -/
def discardPend (s : State) (lo hi : Nat) : State :=
  let gone := s.pend.filter fun kp => decide (lo ≤ kp.1 / 32) && decide (kp.1 / 32 < hi)
  let s := { s with pend := s.pend.filter fun kp => !(decide (lo ≤ kp.1 / 32) && decide (kp.1 / 32 < hi)) }
  forEach gone (s.sat HRN_REJ_SWAP_DISCARD gone.length) fun s kp =>
    let off := kp.1 / 32
    s.set off (BitVec.ofNat 32 (setBits (s.get off).toNat (kp.1 % 32) kp.2.w kp.2.force))

end Sys2Proof.Machine
end

