-- ==== Sys2Proof/Machine/Engines.lean ====
section
/-! DEFINITION. The sinks' settings in force, the single-wire chains and the pattern engines (spec/13_illumination.md). -/

namespace Sys2Proof.Machine

/-! ### Settings in force (R264, R265) -/

/-- The gate mode in force of sink `k`. -/
def sinkGate (s : State) (k : Nat) : Nat := bitsOf (s.sinkSt k).ctrl 28 2

/-- Whether sink `k` is gated by windows. -/
def sinkGated (s : State) (k : Nat) : Bool := sinkGate s k == 1 || sinkGate s k == 2

/-- The current setting in force of sink `k`. -/
def sinkCur (s : State) (k : Nat) : Nat := bitsOf (s.sinkSt k).ctrl 0 14

/-- SPREAD in force of sink `k`. -/
def sinkSpread (s : State) (k : Nat) : Nat := min 8 (bitsOf (s.sinkSt k).ctrl 22 4)

/-- A pulse period of sink `k` ends and one starts: ON shows whether it conducted. -/
def sinkPeriod (s : State) (k : Nat) : State :=
  let lit := (s.sinkSt k).lit
  (s.updSinkSt k fun x => { x with lit := false }).wr ILU_SINK_STAT_ON (if lit then 1 else 0) k

/-- The settings of sink `k` and its trims taken into force (R265, R408), which ends an on-phase; while `P7` is quiesced, current and duty hold (R287). -/
def sinkTake (s : State) (k : Nat) : State :=
  let s := trimTake s (2 + k)
  let ctrl := s.rd ILU_SINK_CTRL k
  let duty := s.rd ILU_SINK_DUTY_DUTY k
  let hold := s.quiesced 7
  s.updSinkSt k fun x => { x with
    ctrl := if hold then setBits ctrl 0 14 (bitsOf x.ctrl 0 14) else ctrl, duty := if hold then x.duty else duty, run := bit ctrl 31,
    since := none, ticks := 0 }

/-- Sink `k` turned off at once: EN no longer in force, its on-phase and awl pulse over (R265). -/
def sinkDark (s : State) (k : Nat) : State := s.updSinkSt k fun x => { x with run := false, ticks := 0, since := none, awl := none }

/-- Whether SUB selects the window of a sub-exposure (R264). -/
def subSelects (sub w : Nat) : Bool := decide (2 ≤ sub) || sub == w

/-- The start of the pulse period of sink `k` that the common period count has under way, which runs from elapsed count 0 (R263,
notes/assumptions/101.md). -/
def commonStart (s : State) (k : Nat) : Nat := 80 * k + (s.elapsed - 80 * k) / 655360 * 655360

/-- An EXPWIN window of channel `c` opens (R264, R265): `w` 0 long, 1 short. The settings written take force; where they make the sink's
gate mode WINDOW, its pulse period starts here, and where they make it FREE, it stands on the common count. -/
def sinkWindow (s : State) (c w : Nat) : State :=
  forEach (List.range 24) s fun s k =>
    if sinkGated s k && s.rd ILU_SINK_CFG_GCH k == c && subSelects (bitsOf (s.sinkSt k).ctrl 26 2) w then
      let was := sinkGate s k
      let s := sinkTake s k
      let now := sinkGate s k
      let s := if was == 1 || now == 1 then sinkPeriod s k else s
      if now == 2 then s else s.updSinkSt k fun x => { x with t0 := if now == 1 then s.elapsed else commonStart s k }
    else s

/-! ### The pulse pattern (R263) -/

/-- The `k` lowest bits of `n` reversed. -/
def bitrev : Nat → Nat → Nat
  | 0, _ => 0
  | k + 1, n => n % 2 * 2 ^ k + bitrev k (n / 2)

/-- The on-ticks of slot `j` at duty `d` and SPREAD `k` (R263). -/
def onTicks (d k j : Nat) : Nat := d / 2 ^ k + (if bitrev k j < d % 2 ^ k then 1 else 0)

/-- The ticks of a slot. -/
def slotTicks (k : Nat) : Nat := 2 ^ (16 - k)

/-- The first tick at or after tick `t` of the period that starts an on-phase, or `t` itself where it is on (R263). -/
def nextOn (d k t : Nat) : Option Nat :=
  if 65536 ≤ t then none
  else if d = 0xFFFF || t % slotTicks k < onTicks d k (t / slotTicks k) then some t
  else (((List.range (2 ^ k)).map fun j => j * slotTicks k).find? fun u => decide (t < u) && onTicks d k (u / slotTicks k) != 0)

/-- The tick at which the on-phase that holds slot `j` ends, through `n` slots that are on throughout. -/
def runOver (d k : Nat) : Nat → Nat → Nat
  | 0, j => j * slotTicks k
  | n + 1, j =>
    if onTicks d k j = slotTicks k && decide (j + 1 < 2 ^ k) then runOver d k n (j + 1) else j * slotTicks k + onTicks d k j

/-- The tick at which the on-phase at tick `t` ends (R263). -/
def runEnd (d k t : Nat) : Nat := if d = 0xFFFF then 65536 else runOver d k (2 ^ k) (t / slotTicks k)

/-! ### Conduction (R262, R264, R271) -/

/-- Whether lamp off is in force (R269). -/
def lampOff (s : State) : Bool := s.flag ILU_CTRL_LAMP_OFF || s.flag ILU_STAT_LAMP_TRIP

/-- Whether the factory run holds the sinks off (R402). -/
def calHoldsSinks (s : State) : Bool := s.rd CAL_STAT_STATE == 1 && s.rd CAL_STAT_STEP == 5

/-- The conditions of R262 but the last: sink `k` may conduct. -/
def sinkMay (s : State) (k : Nat) : Bool :=
  s.flag ILU_SINK_CFG_USED k && s.flag ILU_SINK_CTRL_EN k && (s.sinkSt k).run
    && !s.flag ILU_SINK_STAT_OPEN k && !s.flag ILU_SINK_STAT_SHORT_ADJ k && !s.flag ILU_SINK_STAT_SHORT_GND k
    && s.loaded 7 && !s.quiescedAsTarget 7 && !s.flag ILU_STAT_SHORT_BUSY && !s.hrn.shortDue
    && (!s.flag ILU_SINK_CFG_CONV k || (s.rd ILU_CONV_STAT_STATE == 2 && s.flag ILU_CONV_STAT_PGOOD))
    && (!s.flag ILU_SINK_CFG_LAMP k || !lampOff s)
    && !s.flag ILU_STAT_DISS_TRIP && !calHoldsSinks s

/-- Whether the gate channel of sink `k` is enabled and `P1` in service (R264, R287). -/
def sinkChannel (s : State) (k : Nat) : Bool :=
  let c := s.rd ILU_SINK_CFG_GCH k
  decide (c < 12) && (s.chan c).on && s.active 1

/-- Whether the selected window of sink `k` is open (R264). -/
def sinkOpen (s : State) (k : Nat) : Bool :=
  let w := (s.chan (s.rd ILU_SINK_CFG_GCH k)).winOpen
  sinkChannel s k && (List.range 2).any fun i => bit w i && subSelects (bitsOf (s.sinkSt k).ctrl 26 2) i

/-- Whether sink `k` conducts in a tick that its pulse pattern has on, or throughout its window under GATE 2 (R262 to R264). -/
def sinkLights (s : State) (k : Nat) : Bool := sinkMay s k && (!sinkGated s k || sinkOpen s k)

/-- A logbook counter advanced (R414). -/
def logbook (s : State) (i n : Nat) : State := s.wr2 LGB_CTR_LO_COUNT LGB_CTR_HI_COUNT (s.rd2 LGB_CTR_LO_COUNT LGB_CTR_HI_COUNT i + n) i

/-- `ticks` of 10 ns on sink `k` counted in on-time and charge (R261, R271) and in the bin's dissipation (R270). -/
def sinkCount (s : State) (k ticks : Nat) : State :=
  let x := s.sinkSt k
  let on := x.onRem + ticks
  let q := sinkCur s k * ticks
  let ch := x.chRem + 2 * q
  let s := s.updSinkSt k fun x => { x with lit := true, onRem := on % 100, chRem := ch % 16383, binQ := x.binQ + q }
  logbook (logbook s k (on / 100)) (24 + k) (ch / 16383)

/-- Sink `k` while `d` ns pass: the ticks of its on-phase and of an awl pulse are counted up to their ends, each tick once (R271, R285); an
on-phase that no longer conducts is over, as short as it was, and an awl pulse that R262 ends is over. -/
def sinkRun (s : State) (d k : Nat) : State :=
  let x := s.sinkSt k
  let now := s.elapsed + d
  let on := if sinkLights s k then x.since.map fun a => (a, x.stop.getD now) else none
  let awl := if sinkMay s k then x.awl else none
  let x := { x with awl := awl, since := on.map (·.1),
                    ticks := if x.since.isSome && on.isNone then min x.ticks ((s.elapsed - x.began) / 10) else x.ticks }
  match on.toList ++ awl.toList with
  | [] => s.setSinkSt k x
  | p :: rest =>
    let p := rest.foldl (fun p q => (min p.1 q.1, max p.2 q.2)) p
    let n := (min now p.2 - p.1) / 10
    let upTo (q : Nat × Nat) : Option (Nat × Nat) := if q.2 ≤ now then none else some (p.1 + 10 * n, q.2)
    sinkCount (s.setSinkSt k { x with since := (on.bind upTo).map (·.1), awl := awl.bind upTo }) k n

/-- The on-phases of every sink while `d` ns pass. -/
def sinksRun (s : State) (d : Nat) : State := forEach (s.sink.map (·.1)) s fun s k => sinkRun s d k

/-! ### The line coding of the chains (R277) -/

/-- One bit of the CRC-8 of R277. -/
def crc8Bit (c : Nat) : Nat := if 128 ≤ c then Nat.xor (c * 2 % 256) 7 else c * 2

/-- The CRC-8 of a field's bytes, MSB first. -/
def crc8 (l : List Nat) : Nat := l.foldl (fun c b => (List.range 8).foldl (fun c _ => crc8Bit c) (Nat.xor c (b % 256))) 255

/-- A field with its check. -/
def withCrc (l : List Nat) : List Nat := l ++ [crc8 l]

/-- The share bytes of driver `d` of chain `ch`. -/
def dBytes (s : State) (ch d : Nat) : Nat := min (s.rd ILU_SW_SHARE_DBYTES ch d) 32

/-- The status bytes of driver `d` of chain `ch`. -/
def sBytes (s : State) (ch d : Nat) : Nat := min (s.rd ILU_SW_SHARE_SBYTES ch d) 8

/-- The drivers of chain `ch`. -/
def drivers (s : State) (ch : Nat) : List Nat := List.range (s.rd ILU_SW_CTRL_DRIVERS ch)

/-- Byte `b` of the share store of chain `ch`. -/
def shareByte (s : State) (ch b : Nat) : Nat := bitsOf (s.rd ILU_SW_DATA_BYTES ch (b / 4)) (8 * (b % 4)) 8

/-- Byte `b` of the status store of chain `ch` set. -/
def setStsByte (s : State) (ch b v : Nat) : State :=
  s.wr ILU_SW_STS_BYTES (setBits (s.rd ILU_SW_STS_BYTES ch (b / 4)) (8 * (b % 4)) 8 v) ch (b / 4)

/-- The data frame of chain `ch` with sequence `q` (R277). -/
def dataFrame (s : State) (ch q : Nat) : List Nat :=
  (forEach (drivers s ch) (withCrc [128, q], 0) fun a d =>
    let n := dBytes s ch d
    if n = 0 then a else (a.1 ++ withCrc ((List.range n).map fun i => shareByte s ch (a.2 + i)), a.2 + n)).1

/-- The length of the data frame as returned, in bytes (R277, R280). -/
def returnLen (s : State) (ch : Nat) : Nat :=
  forEach (drivers s ch) 3 fun n d => let b := sBytes s ch d; if b = 0 then n else n + b + 1

/-! ### Data frames (R280) -/

/-- Whether the chain's shares or statuses overflow their stores. -/
def chainBad (s : State) (ch : Nat) : Bool :=
  decide (2048 < forEach (drivers s ch) 0 fun n d => n + dBytes s ch d) ||
    decide (1024 < forEach (drivers s ch) 0 fun n d => n + sBytes s ch d)

/-- The state of chain `ch`: SEND becomes RETURN when the frame has left. -/
def chainState (s : State) (ch : Nat) : Nat :=
  let st := s.rd ILU_SW_STAT_STATE ch
  if st == 1 && decide ((s.chainSt ch).sendEnd ≤ s.elapsed) then 2 else st

/-- A data frame starts (R280). -/
def chainStart (s : State) (ch : Nat) : State :=
  if chainBad s ch then s.wr ILU_SW_STAT_ERR 5 ch
  else
    let s := s.bump ILU_SW_STAT_SEQ ch
    let f := dataFrame s ch (s.rd ILU_SW_STAT_SEQ ch)
    let s := s.updChainSt ch fun x => { x with failed := false, sendEnd := s.elapsed + 2000 * f.length }
    (s.wr ILU_SW_STAT_STATE 1 ch).out (.chainFrame ch f)

/-- Whether chain `ch` is idle: no data frame nor its gap, and no strobe leaves (R287). -/
def chainIdle (s : State) (ch : Nat) : Bool :=
  let x := s.chainSt ch
  s.rd ILU_SW_STAT_STATE ch == 0 && (x.flight == [] || decide (x.strobeEnd ≤ s.elapsed))

/-- Whether chain `ch` is enabled: its EN acts only while the plan uses the chains' domain (R461). -/
def chainEn (s : State) (ch : Nat) : Bool := s.flag ILU_SW_CTRL_EN ch && s.domain 27

/-- A request for a data frame (R280): held, one deep, while one is in flight. Nothing is sent while `P7` quiesces (R287). -/
def chainRequest (s : State) (ch : Nat) : State :=
  if !chainEn s ch || !s.loaded 7 || s.quiescing 7 then s
  else if chainState s ch == 0 then chainStart s ch
  else s.updChainSt ch fun x => { x with held := true }

/-- A data frame ends with error `e`, 0 none (R280). -/
def chainEnds (s : State) (ch e drv : Nat) : State :=
  let s := if e = 0 then s else s.sat ILU_SW_CNT_FRAME_ERR 1 ch
  let s := s.updChainSt ch fun x => { x with failed := e != 0 }
  ((s.wr ILU_SW_STAT_ERR e ch).wr ILU_SW_STAT_ERR_DRV drv ch).wr ILU_SW_STAT_STATE 3 ch

/-- The statuses of a returned frame stored, each whose check passes (R280). Answers the first driver whose check fails. -/
def takeStatuses (s : State) (ch : Nat) (ret : List Nat) : State × Option Nat :=
  let r := forEach (drivers s ch) (s, ret, 0, (none : Option Nat)) fun a d =>
    let n := sBytes a.1 ch d
    if n = 0 then a
    else
      let b := a.2.1.take n
      let rest := a.2.1.drop n
      if rest.head? == some (crc8 b) then
        let s := forEach ((List.range n).zip b) a.1 fun s x => setStsByte s ch (a.2.2.1 + x.1) x.2
        let s := if bit (b.headD 0) 7 then s.sat ILU_SW_CNT_SHARE_ERR 1 ch else s
        (s, rest.drop 1, a.2.2.1 + n, a.2.2.2)
      else (a.1, rest.drop 1, a.2.2.1 + n, if a.2.2.2.isSome then a.2.2.2 else some d)
  (r.1, r.2.2.2)

/-- A frame returns (R280). -/
def chainReturn (s : State) (ch : Nat) (ret : List Nat) : State :=
  let st := chainState s ch
  if !(st == 1 || st == 2) then s
  else
    let h := ret.take 2
    let hdrOk := ret[2]? == some (crc8 h) && bitsOf (h.headD 0) 6 2 == 2 && h[1]? == some (s.rd ILU_SW_STAT_SEQ ch)
    if !hdrOk then chainEnds s ch 2 0
    else if ret.length != returnLen s ch then chainEnds s ch 3 0
    else
      let (s, bad) := takeStatuses s ch (ret.drop 3)
      match bad with
      | some d => chainEnds s ch 4 d
      | none => chainEnds s ch 0 0

/-- No frame end within the wait (R280). -/
def chainTimeout (s : State) (ch : Nat) : State :=
  let st := chainState s ch
  if st == 1 || st == 2 then chainEnds s ch 1 0 else s

/-- The gap after a frame ends: the event, and a held request (R280). -/
def chainGapEnd (s : State) (ch : Nat) : State :=
  if s.rd ILU_SW_STAT_STATE ch == 3 then
    let x := s.chainSt ch
    let s := raise (s.wr ILU_SW_STAT_STATE 0 ch) (if x.failed then 174 + ch else 172 + ch)
    if x.held && !s.quiescing 7 then chainRequest (s.updChainSt ch fun x => { x with held := false }) ch else s
  else s

/-! ### Strobes (R281) -/

/-- A strobe leaves on chain `ch`. -/
def strobeGo (s : State) (ch d : Nat) : State :=
  let s := s.updChainSt ch fun x => { x with flight := x.flight ++ [d], strobeEnd := s.elapsed + 6000 }
  s.out (.chainFrame ch (withCrc [192, d]))

/-- A strobe requested: none where it cannot be taken. -/
def strobeReq (s : State) (ch d : Nat) : Option State :=
  let x := s.chainSt ch
  if !chainEn s ch || !s.loaded 7 then none
  else if x.waiting == [] && chainState s ch != 1 && decide (x.strobeEnd ≤ s.elapsed) then some (strobeGo s ch d)
  else if 4 ≤ x.waiting.length then none
  else some (s.updChainSt ch fun x => { x with waiting := x.waiting ++ [d] })

/-- A STROBE action of a waypoint or of a reflex command: none where it is refused (R281, R287). -/
def strobeAction (s : State) (ch : Nat) : Option State := if s.quiesced 7 then none else strobeReq s ch 0

/-- The strobes that pattern engines have requested go out, or are lost (R281). -/
def peFlush (s : State) : State :=
  forEach s.peDue { s with peDue := [] } fun s x => (strobeReq s x.1 x.2).getD (s.sat ILU_SW_CNT_STROBE_LOST 1 x.1)

/-- The oldest waiting strobe goes out (R281), but not while `P7` is quiesced (R287). -/
def strobeSend (s : State) (ch : Nat) : State :=
  match (s.chainSt ch).waiting with
  | [] => s
  | d :: t =>
    if s.quiesced 7 then s
    else
    let s := s.updChainSt ch fun x => { x with waiting := t }
    let s := if s.rd ILU_SW_STAT_STATE ch == 1 then s.wr ILU_SW_STAT_STATE 2 ch else s
    strobeGo s ch d

/-- A strobe returns and is compared with the one sent (R281). -/
def strobeReturn (s : State) (ch d : Nat) (ok : Bool) : State :=
  match (s.chainSt ch).flight with
  | [] => s
  | e :: t =>
    let s := s.updChainSt ch fun x => { x with flight := t }
    if ok && d == e then s else s.sat ILU_SW_CNT_FRAME_ERR 1 ch

/-- A write of `ILU_SW_CTRL[ch]` (R280). -/
def chainCtrl (s : State) (ch v : Nat) : State :=
  let s := (s.wr ILU_SW_CTRL_EN (bitsOf v 31 1) ch).wr ILU_SW_CTRL_REFRESH (v % 2 ^ 16) ch
  let s := if bit v 31 then s else s.updChainSt ch fun x => { x with held := false, waiting := [] }
  if bit v 30 then chainRequest s ch else s

/-! ### Pattern engines (R272 to R275) -/

/-- Step word `i` of engine `e`. -/
def peWord (s : State) (e i : Nat) : Nat := s.rd ILU_PE_PROG_LO_WORD e i + 2 ^ 32 * s.rd ILU_PE_PROG_HI_WORD e i

/-- The present step word of engine `e`, as it was fetched (R273). -/
def peStepWord (s : State) (e : Nat) : Nat := (s.peSt e).word

/-- Whether engine `e` runs. -/
def peActive (s : State) (e : Nat) : Bool := s.flag ILU_PE_STAT_ACTIVE e

/-- Whether a step word waits TIME units. -/
def peWaits (w : Nat) : Bool := decide (1 ≤ bitsOf w 60 4) && decide (bitsOf w 60 4 ≤ 3) && bitsOf w 40 16 != 0

/-- The sinks bound to engine `e` (R272). -/
def peSinks (s : State) (e : Nat) : List Nat := (List.range 24).filter fun k => s.rd ILU_SINK_CFG_PE k == e

/-- The sinks that a step word of engine `e` drives (R272). -/
def peMask (s : State) (e w : Nat) : List Nat := (peSinks s e).filter fun k => bit w k

/-- CUR or DUTY of sink `k` as last written. -/
def peGet (s : State) (cur : Bool) (k : Nat) : Nat := if cur then s.rd ILU_SINK_CTRL_CUR k else s.rd ILU_SINK_DUTY_DUTY k

/-- CUR or DUTY of sink `k` set (R272, R273). -/
def pePut (s : State) (cur : Bool) (k v : Nat) : State :=
  if cur then s.wr ILU_SINK_CTRL_CUR (min v 16383) k else s.wr ILU_SINK_DUTY_DUTY v k

/-- VALUE of a step word as its field takes it (R273). -/
def peValue (w : Nat) : Nat := if bit w 57 then min (bitsOf w 24 16) 16383 else bitsOf w 24 16

/-- OWNED of every sink (R272): the engine that its PE field names runs. -/
def ownedSync (s : State) : State :=
  forEach (List.range 24) s fun s k =>
    let e := s.rd ILU_SINK_CFG_PE k
    s.wr ILU_SINK_STAT_OWNED (if decide (e < 16) && peActive s e then 1 else 0) k

/-- Engine `e` stops: RUN clears, its sinks are no longer owned (R272). -/
def peEnd (s : State) (e : Nat) : State :=
  let s := ((s.wr ILU_PE_CFG_RUN 0 e).wr ILU_PE_STAT_ACTIVE 0 e).wr ILU_PE_STAT_WAIT3 0 e
  ownedSync (s.updPeSt e fun x => { x with held := false })

/-- Loop counter rule (R275): the step that follows the LOOP word `w` at `here`. -/
def peLoop (x : PeSt) (w here : Nat) : PeSt :=
  let time := bitsOf w 40 16
  let target := bitsOf w 24 6
  let c := bit w 56
  let armed := if c then x.armed1 else x.armed0
  let n := if armed then (if c then x.n1 else x.n0) else time
  let put (a : Bool) (n next : Nat) : PeSt :=
    if c then { x with armed1 := a, n1 := n, next := next } else { x with armed0 := a, n0 := n, next := next }
  if time = 0 then put true n target
  else if 1 < n then put true (n - 1) target
  else put false n ((here + 1) % 64)

/-- The present step of engine `e` is fetched and begins (R273, R275). An illegal operation acts as STOP, and more. -/
def peEnter (s : State) (e : Nat) : State :=
  let here := s.rd ILU_PE_STAT_STEP e
  let w := peWord s e here
  let cur := bit w 57
  let sinks := peMask s e w
  let v0 := sinks.map fun k => (k, peGet s cur k)
  let s := s.updPeSt e fun x => { x with word := w, unit := 0, v0 := v0, next := (here + 1) % 64, held := false }
  let s := s.wr ILU_PE_STAT_WAIT3 (if peWaits w && bitsOf w 58 2 == 3 then 1 else 0) e
  match bitsOf w 60 4 with
  | 0 => raise (peEnd s e) 170
  | 1 => forEach sinks s fun s k => pePut s cur k (peValue w)
  | 2 => if bitsOf w 40 16 = 0 then forEach sinks s fun s k => pePut s cur k (peValue w) else s
  | 3 => s
  | 4 => s.updPeSt e fun x => peLoop x w here
  | 5 => { s with peDue := s.peDue ++ [(w % 2, bitsOf w 24 8)] }
  | 6 => raise (s.wr ILU_PE_STAT_EVDATA (bitsOf w 24 16) e) 169
  | _ => raise ((raise (peEnd s e) 170).wr ILU_PE_STAT_ILLEGAL 1 e) 171

/-- The present step of engine `e` ends: the next one begins, or the engine is held at the boundary (R273, R287). -/
def peNext (s : State) (e : Nat) : State :=
  if s.quiescing 7 then (s.wr ILU_PE_STAT_WAIT3 0 e).updPeSt e fun x => { x with held := true }
  else peEnter (s.wr ILU_PE_STAT_STEP (s.peSt e).next e) e

/-- `n` units pass in the present step of engine `e` (R274). -/
def peUnits (s : State) (e n : Nat) : State :=
  let w := peStepWord s e
  let time := bitsOf w 40 16
  let k := min ((s.peSt e).unit + n) time
  let s := s.updPeSt e fun x => { x with unit := k }
  let s := if bitsOf w 60 4 == 2 then
      forEach (s.peSt e).v0 s fun s a =>
        pePut s (bit w 57) a.1 ((a.2 : Int) + divNearest (((peValue w : Int) - a.2) * k) time).toNat
    else s
  if k == time then peNext s e else s

/-- Whether the present step of engine `e` waits on time unit `tb`. -/
def peOn (s : State) (e tb : Nat) : Bool :=
  let w := peStepWord s e
  peActive s e && !(s.peSt e).held && peWaits w && bitsOf w 58 2 == tb

/-- One unit passes in the present step of engine `e`, where it waits on time unit `tb`. -/
def peUnit (s : State) (e tb : Nat) : State := if peOn s e tb then peUnits s e 1 else s

/-- One forward advance of C of Log `n`, for the engines that wait on it (R274, TB 1). -/
def peLog (s : State) (n : Nat) : State :=
  forEach ((List.range 16).filter fun e => s.rd ILU_PE_CFG_LOG e == n) s fun s e => peUnit s e 1

/-- One line of line source `src`, for the engines that wait on it (R274, TB 2). -/
def peLine (s : State) (src : Nat) : State :=
  forEach ((List.range 16).filter fun e => s.rd ILU_PE_CFG_LINES e == src) s fun s e => peUnit s e 2

/-- A PE_STEP action on engine `e`: none where it is refused (R274, R287). A second one in a cycle meets the step that the first leaves
(R70). -/
def peStepAction (s : State) (e : Nat) : Option State :=
  if s.loaded 7 && !s.quiesced 7 && peOn s e 3 then some (peUnits s e 1) else none

/-- Time passes in the present step (R273, R274): a step that takes no time ends, a wait on µs takes its units. -/
def peTime (s : State) (e units : Nat) : State :=
  if !peActive s e || (s.peSt e).held then s
  else if !peWaits (peStepWord s e) then peNext s e
  else if peOn s e 0 then peUnits s e units
  else s

/-- Engine `e` starts (R272, R273), at the release of `P7` where a payload sets RUN. -/
def peStart (s : State) (e : Nat) : State :=
  if peActive s e then s
  else
    let start := s.rd ILU_PE_CFG_START e
    let s := (s.wr ILU_PE_STAT_ACTIVE 1 e).wr ILU_PE_STAT_STEP start e
    let s := ownedSync (s.setPeSt e { next := start })
    if s.quiescing 7 || !s.loaded 7 then s.updPeSt e fun x => { x with held := true } else peEnter s e

/-- A write of `ILU_PE_CFG[e]` (R272, R273). -/
def peCfg (s : State) (e : Nat) (v : Word) : State :=
  let s := s.set (ILU_PE_CFG.off e 0) (v &&& 0x8CF0003F#32)
  if s.flag ILU_PE_CFG_RUN e then peFlush (peStart s e)
  else if peActive s e then peEnd s e else s

/-- The engines and chains of a released `P7` go on (R287). -/
def iluRelease (s : State) : State :=
  let s := forEach (List.range 16) s fun s e =>
    if peActive s e && (s.peSt e).held then peEnter (s.wr ILU_PE_STAT_STEP (s.peSt e).next e) e else s
  forEach [0, 1] (peFlush s) fun s ch =>
    if (s.chainSt ch).held && s.rd ILU_SW_STAT_STATE ch == 0 then chainRequest (s.updChainSt ch fun x => { x with held := false }) ch else s

end Sys2Proof.Machine
end

