-- ==== Sys2Proof/Machine/Queues.lean ====
section
/-! DEFINITION. Packet queues (spec/16_queues.md): words and packets, the five positions, producers, overwriting, flushing, the
pop window, and the queue commands. -/

namespace Sys2Proof.Machine

/-! ### Capacity and producers -/

/-- The blocks of queue `q` that count in the overlap test, as a half-open span (R330). -/
def qSpan (s : State) (q : Nat) : Nat × Nat :=
  let b := s.rd QUE_PART_BASE q
  (b, min (b + s.rd QUE_PART_SIZE q) 1024)

/-- Whether the partition of queue `q` is invalid (R330, R461). -/
def qCfgErr (s : State) (q : Nat) : Bool :=
  let b := s.rd QUE_PART_BASE q
  let n := s.rd QUE_PART_SIZE q
  let sp := s.rd QUE_SPILL_SIZE_SPILL q
  decide (b + n > 1024)
    || ((List.range q).any fun r => n != 0 && s.rd QUE_PART_SIZE r != 0 &&
          decide (b < (qSpan s r).2) && decide ((qSpan s r).1 < b + n))
    || (sp != 0 && decide (n < 2))
    || (sp != 0 && !s.domain 4)

/-- Whether queue `q` is disabled (R330). -/
def qDisabled (s : State) (q : Nat) : Bool := s.rd QUE_PART_SIZE q == 0 || s.flag QUE_STAT_CFG_ERR q

/-- The capacity of queue `q` in words (R331). -/
def qCap (s : State) (q : Nat) : Nat := 512 * s.rd QUE_PART_SIZE q + 7168 * s.rd QUE_SPILL_SIZE_SPILL q

/-- Whether view `v` is valid with the crop and scale words given (R141). -/
def viewOk (s : State) (v crop sc : Nat) : Bool :=
  let c := s.rd IPG_VIEW_CFG_CHANNEL v
  let first := bitsOf crop 0 14
  let last := bitsOf crop 16 14
  let scale := bitsOf sc 0 9
  let mask := s.rd IPG_VIEW_CFG_COLOURS v
  decide (c < 12) && decide (first ≤ last) && decide (last ≤ s.rd SNS_TPL_PIXELS_PIXELS c)
    && s.rd IPG_VIEW_CFG_DEPTH v != 3 && decide (16 ≤ scale) && decide (scale ≤ 256) && bitsOf sc 30 2 != 3
    && mask != 0 && decide (mask < 2 ^ (s.rd SNS_TPL_CFG_COLOURS c + 1))

/-- Whether view `v` produces with the values in force: EN at 1 and a valid configuration (R141, R151). -/
def viewLive (s : State) (v : Nat) : Bool :=
  s.inForce IPG_VIEW_CFG_EN v != 0 && viewOk s v (s.inForce IPG_VIEW_CROP v) (s.inForce IPG_VIEW_SCALE v)

/-- Whether view `v` as last written is enabled and valid. -/
def viewWritten (s : State) (v : Nat) : Bool :=
  s.flag IPG_VIEW_CFG_EN v && viewOk s v (s.rd IPG_VIEW_CROP v) (s.rd IPG_VIEW_SCALE v)

/-- Whether producer `p` is active on queue `q` (R327): views 0 to 63, 64 the fix stage, 65 and 66 the converters, 67 ring
forwarding. A view with an open packet stays active until the packet is committed. The producer of an unloaded panel is not; one whose
panel is being swapped keeps its place (notes/assumptions/103.md). -/
def prodActive (s : State) (q p : Nat) : Bool :=
  let panel := if p < 64 then 3 else if p == 64 then 6 else if p == 67 then 12 else 9
  if !s.loaded panel && !s.swapping panel then false
  else if p < 64 then s.rd IPG_VIEW_CFG_QUEUE p == q && (viewWritten s p || viewLive s p || (s.viewSt p).lines != 0)
  else if p == 64 then s.flag RGH_FIX_CFG_QEN && s.rd RGH_FIX_CFG_QUEUE == q
  else if p == 65 then s.flag CNV_QCFG_QEN 0 && s.rd CNV_QCFG_QUEUE 0 == q
  else if p == 66 then s.flag CNV_QCFG_QEN 1 && s.rd CNV_QCFG_QUEUE 1 == q
  else s.flag BRD_FWD_CFG_QEN && s.flag BRD_STAT_LEAD && s.rd BRD_FWD_CFG_QUEUE == q

/-- The producers of queue `q` brought up to date: those still active keep their order, new ones follow; a second one sets
PRODUCER_CONFLICT (R327). -/
def refreshProds (s : State) (q : Nat) : State :=
  let st := s.q q
  let kept := st.prods.filter (prodActive s q)
  let new := (List.range 68).filter fun p => prodActive s q p && !kept.contains p
  let s := s.setQ q { st with prods := kept ++ new }
  if new != [] && decide ((kept ++ new).length ≥ 2) then s.wr QUE_STAT_PRODUCER_CONFLICT 1 q else s

/-- The producers of every queue brought up to date. -/
def refreshAllProds (s : State) : State := forEach (List.range 64) s refreshProds

/-! ### Register views -/

/-- The queue's registers follow its positions (R333). -/
def qSync (s : State) (q : Nat) : State :=
  let st := s.q q
  let b (x : Bool) : Nat := if x then 1 else 0
  let s := (s.wr QUE_STAT_MARK_VALID (b st.markV) q).wr QUE_STAT_MARK_LOST (b st.markLost) q
  let s := (s.wr QUE_STAT_DROPPING (b st.dropping) q).wr QUE_STAT_OPEN (b st.isOpen) q
  (s.wr QUE_STAT_EMPTY (b (st.rd == st.cmt)) q).wr QUE_FILL_WORDS (st.cmt + 2 ^ 32 - st.rel) q

/-- The queue's state replaced, its registers following. -/
def qPut (s : State) (q : Nat) (st : QSt) : State := qSync (s.setQ q st) q

/-- Position `a` moved on by `n`, modulo 2^32 (R333). -/
def adv (a n : Nat) : Nat := (a + n) % 2 ^ 32

/-- The distance from `a` to `b`, modulo 2^32. -/
def dist (a b : Nat) : Nat := (b + 2 ^ 32 - a % 2 ^ 32) % 2 ^ 32

/-! ### Producer side (R326, R334, R340, R341) -/

/-- The words of a queue from REL to WR. -/
def qWords (st : QSt) : List QWord := (st.pkts.flatMap fun p => p.words) ++ st.openW

/-- Words of the queue that stand on chip (R331). -/
def qOnChip (st : QSt) : Nat := (qWords st).countP fun w => w.dram.isNone

/-- The places of the spill region that hold a word (R331). -/
def qPlaces (st : QSt) : List Nat := (qWords st).filterMap fun w => w.dram

/-- Whether word `i` of a queue, counted from REL, stays on chip (R331): the 512 words from the read pointer on, the 512 words before the
write pointer and the header of an open packet, which its commit completes (DESIGN CHOICE, notes/assumptions/18.md). -/
def qStays (st : QSt) (i : Nat) : Bool :=
  let r := dist st.rel st.rd
  let n := dist st.rel st.wr
  (decide (r ≤ i) && decide (i < r + 512)) || decide (n ≤ i + 512) || (st.isOpen && i == dist st.rel st.cmt)

/-- The words of a queue whose spill write waits, counted from REL, the oldest first: those on chip that need not stay there, as many as
the spill region has places for (R331, R332). -/
def qSpillWaits (s : State) (q : Nat) : List Nat :=
  let st := s.q q
  let room := 7168 * s.rd QUE_SPILL_SIZE_SPILL q - (qPlaces st).length
  (((qWords st).zipIdx.filter fun w => w.1.dram.isNone && !qStays st w.2).map fun w => w.2).take room

/-- Word `i` of a queue, counted from REL, changed by `g`. -/
def qUpdWord (st : QSt) (i : Nat) (g : QWord → QWord) : QSt :=
  let rec go : List QPkt → Nat → List QPkt × Option Nat
    | [], i => ([], some i)
    | p :: t, i =>
      if i < p.words.length then ({ p with words := p.words.modify i g } :: t, none)
      else let r := go t (i - p.words.length); (p :: r.1, r.2)
  match go st.pkts i with
  | (pkts, none) => { st with pkts := pkts }
  | (_, some j) => { st with openW := st.openW.modify j g }

/-- The oldest committed packet freed: REL moves to its end; RD and MARK follow as the pointer table says (R334). -/
def qDropOldest (st : QSt) (ovr : Bool) : QSt :=
  match st.pkts with
  | [] => st
  | p :: rest =>
    let rel := adv st.rel p.words.length
    let behind (x : Nat) : Bool := decide (dist st.rel x < p.words.length)
    let st' := { st with rel := rel, pkts := rest }
    let st' := if behind st.rd then { st' with rd := rel, loss := st'.loss || ovr } else st'
    if st.markV && behind st.mark then { st' with markV := false, markLost := st'.markLost || ovr } else st'

/-- A pending LOSS of a queue under DMA goes to the descriptor being filled, if there is one (R334, R348). -/
def qLossToDma (s : State) (q : Nat) : State :=
  let ch := s.rd QUE_CFG_DCH q
  if !(s.q q).loss || !s.flag QUE_CFG_DMA_EN q then s
  else match (s.dmaCh ch).descs.find? fun d => d.q == q && decide (0 < d.got) && decide (d.got < d.len) with
    | some d =>
      (s.updQ q fun st => { st with loss := false }).updDmaCh ch fun c =>
        { c with descs := c.descs.map fun x => if x.idx == d.idx then { x with loss := true } else x }
    | none => s

/-- The oldest packet overwritten: LOST counts it (R340). -/
def qOverwrite (s : State) (q : Nat) : State :=
  qLossToDma ((qPut s q (qDropOldest (s.q q) true)).sat QUE_CNT_LOSS_LOST 1 q) q

/-- Whether the on-chip partition of queue `q` is full while a spill write waits (R332): it then treats itself as full. -/
def qStalled (s : State) (q : Nat) : Bool :=
  s.rd QUE_SPILL_SIZE_SPILL q != 0 && decide (512 * s.rd QUE_PART_SIZE q < qOnChip (s.q q) + 1) && qSpillWaits s q != []

/-- Overwrites until one more word fits, at most `fuel` packets; a full on-chip partition whose spill writes wait forces one and sets
SPILL_STALL (R332, R340). -/
def qMakeRoom (q : Nat) : Nat → State → State
  | 0, s => s
  | fuel + 1, s =>
    let st := s.q q
    if st.pkts == [] then s
    else if dist st.rel st.wr + 1 > qCap s q then qMakeRoom q fuel (qOverwrite s q)
    else if qStalled s q then qMakeRoom q fuel ((qOverwrite s q).wr QUE_STAT_SPILL_STALL 1 q)
    else s

/-- The open packet aborted by its producer (R326): rewound and counted. -/
def qAbort (s : State) (q : Nat) : State :=
  let st := s.q q
  if st.isOpen then (qPut s q { st with wr := st.cmt, isOpen := false, openW := [] }).sat QUE_CNT_MISC_ABORTS 1 q else s

/-- The open packet committed: it takes the next sequence number and its notice is raised (R328). -/
def qCommit (s : State) (q : Nat) : State :=
  let st := s.q q
  let n := s.rd QUE_SEQ_NEXT q
  let s := qPut s q { st with cmt := st.wr, pkts := st.pkts ++ [⟨n, st.openW⟩], isOpen := false, openW := [] }
  raise (s.bump QUE_SEQ_NEXT q) (216 + q)

/-- The open packet aborted as oversize (R334, R341). -/
def qOversize (s : State) (q : Nat) : State :=
  let st := s.q q
  (qPut s q { st with wr := st.cmt, isOpen := false, openW := [], dropping := true }).sat QUE_CNT_LOSS_OVERSIZE 1 q

/-- One word placed behind the open packet, or the packet dropped as oversize (R334, R341): alone it exceeds CAP, or a queue full under R332
has nothing left to overwrite. -/
def qPlace (s : State) (q : Nat) (w : QWord) : State :=
  let s := if dist (s.q q).cmt (s.q q).wr + 1 > qCap s q then s else qMakeRoom q (s.q q).pkts.length s
  if dist (s.q q).cmt (s.q q).wr + 1 > qCap s q then qOversize s q
  else if qStalled s q then (qOversize s q).wr QUE_STAT_SPILL_STALL 1 q
  else
    let st := s.q q
    let s := qPut s q { st with wr := adv st.wr 1, isOpen := true, openW := st.openW ++ [w] }
    if w.l then qCommit s q else s

/-- A word of producer `p` handled by the queue (R326, R327, R330). -/
def qAccept (s : State) (q p : Nat) (w : QWord) : State :=
  let st := s.q q
  if qDisabled s q || st.prods.head? != some p then s.sat QUE_CNT_ERR_ORPHAN 1 q
  else if w.f then
    let s := qAbort s q
    qPlace (qPut s q { s.q q with dropping := false }) q w
  else if st.isOpen then qPlace s q w
  else if st.dropping then s
  else s.sat QUE_CNT_ERR_ORPHAN 1 q

/-- A word offered by producer `p`. While `P10` is unloaded nothing is written; while it is quiesced an open packet completes and
the words of a new one wait (R46; notes/assumptions/17.md). -/
def qWrite (s : State) (q p : Nat) (w : QWord) : State :=
  let st := s.q q
  if !s.loaded 10 && !s.swapping 10 then s
  else if (s.quiescing 10 || s.swapping 10) && (w.f || st.held != []) then s.setQ q { st with held := st.held ++ [(p, w)] }
  else qAccept s q p w

/-- The words that waited while `P10` was quiesced written (R46). -/
def qReleaseHeld (s : State) : State :=
  forEach (List.range 64) s fun s q =>
    let held := (s.q q).held
    if held == [] then s
    else forEach held (s.updQ q fun st => { st with held := [] }) fun s a => qAccept s q a.1 a.2

/-- A whole packet of data words offered by producer `p` (R326). -/
def qPacket (s : State) (q p : Nat) (ws : List Nat) : State :=
  let n := ws.length
  (ws.foldl (fun (a : State × Nat) d =>
    (qWrite a.1 q p { data := d, f := a.2 == 0, l := a.2 + 1 == n }, a.2 + 1)) (s, 0)).1

/-- A packet's words with `g` made of its first word and L set on its last. -/
def closeWords (g : Nat → Nat) (ws : List QWord) : List QWord :=
  let ws := match ws with
    | [] => []
    | w :: t => { w with data := g w.data } :: t
  ws.dropLast ++ (ws.getLast?.map fun w => { w with l := true }).toList

/-- The number of words at the end of a waiting list that belong to a packet begun and not ended there. -/
def heldOpen (l : List (Nat × QWord)) : Nat :=
  l.foldl (fun n a => if a.2.l then 0 else n + 1) 0

/-- The open packet of producer `p` committed as it stands, its first word changed by `g` (R145, R326). -/
def qCloseOpen (s : State) (q p : Nat) (g : Nat → Nat) : State :=
  let st := s.q q
  if st.held != [] then
    let k := st.held.length - heldOpen st.held
    s.setQ q { st with held := st.held.take k ++ (closeWords g ((st.held.drop k).map fun a => a.2)).map fun w => (p, w) }
  else if st.isOpen && st.prods.head? == some p then
    qCommit (s.setQ q { st with openW := closeWords g st.openW }) q
  else s

/-- The open packet of producer `p` aborted, also where its words wait (R326, R349). -/
def qAbortBy (s : State) (q p : Nat) : State :=
  let st := s.q q
  if st.held != [] then s.setQ q { st with held := st.held.take (st.held.length - heldOpen st.held) }
  else if st.prods.head? == some p then qAbort s q else s

/-! ### Consumer side -/

/-- The word at RD with its packet's sequence number and its index there. -/
def qAt (st : QSt) : Option (QWord × Nat × Nat) :=
  let rec go : List QPkt → Nat → Option (QWord × Nat × Nat)
    | [], _ => none
    | p :: t, k => if k < p.words.length then (p.words[k]?).map fun w => (w, p.seq, k) else go t (k - p.words.length)
  if st.rd == st.cmt then none else go st.pkts (dist st.rel st.rd)

/-- Whether position RD lies on a packet boundary. -/
def qOnBoundary (st : QSt) : Bool :=
  match qAt st with
  | none => true
  | some (_, _, k) => k == 0

/-- Whether the word at RD is still in DRAM (R336). -/
def qInSpill (st : QSt) : Bool := (qAt st).any fun w => w.1.dram.isSome

/-- The word at RD taken: parity checked (R329), RD moved on. Answers the delivered word. -/
def qTake (s : State) (q : Nat) (w : QWord) : State × QWord :=
  let st := s.q q
  let s := if w.bad then s.sat QUE_CNT_ERR_PARITY 1 q else s
  (qPut s q { st with rd := adv st.rd 1, loss := false }, { w with p := w.p || w.bad })

/-- The four 32-bit words of a pop item (R335). -/
def popItem (data seq idx : Nat) (loss wait v p f l : Bool) : List Nat :=
  let b (x : Bool) (k : Nat) : Nat := if x then 2 ^ k else 0
  [data % 2 ^ 32, data / 2 ^ 32, b loss 7 + b wait 6 + b v 3 + b p 2 + b f 1 + b l 0 + min idx 0xFFFFFF * 256, seq]

/-- A read that covers byte 0 of the pop window: one item popped and captured (R335, R336, R344). -/
def qPop (s : State) (q : Nat) : State :=
  let st := s.q q
  let idle := s.rd2 QUE_IDLE_LO QUE_IDLE_HI q
  let keep (item : List Nat) := s.setQ q { st with pop := item }
  if s.flag QUE_CFG_DMA_EN q then keep (popItem idle 0 0 false false false false false false)
  else match qAt st with
    | none => keep (popItem idle 0 0 false false false false false false)
    | some (w, seq, k) =>
      if qInSpill st then keep (popItem idle 0 0 false true false false false false)
      else
        let (s', w') := qTake s q w
        s'.setQ q { s'.q q with pop := popItem w'.data seq k st.loss false true w'.p w'.f w'.l }

/-! ### Release and pacing (R188, R339) -/

/-- The number of the last source line that each record of a view packet covers (R145, R188). -/
def pktLines (p : QPkt) : List Nat :=
  match p.words with
  | [] => []
  | h :: rest =>
    let n := bitsOf h.data 51 7
    let d := bitsOf h.data 32 19
    (List.range n).filterMap fun i => (rest[i * (4 + d)]?).map fun w => (w.data / 2 ^ 32 + w.cover) % 2 ^ 32

/-- INFLIGHT of axis `a` follows its two line numbers (R188). -/
def paceSync (s : State) (a : Nat) : State :=
  let p := s.paceSt a
  s.wr AXS_PACE_STAT_INFLIGHT (min (dist p.nRel p.nStart) 65535) a

/-- The lines of packets freed from queue `q` handed to the pacing of each axis that watches it (R188, R339). -/
def paceFreed (s : State) (q : Nat) (ps : List QPkt) : State :=
  match ps.getLast? with
  | none => s
  | some p =>
    match (pktLines p).getLast? with
    | none => s
    | some n =>
      forEach (List.range 4) s fun s a =>
        if s.rd AXS_PACE_STAT_STATE a != 0 && s.rd AXS_PACE_CFG_QUEUE a == q then
          paceSync (s.updPaceSt a fun p => { p with nRel := n }) a else s

/-- The packets that lie wholly before position `x`, at most `n`. -/
def qReadPkts (st : QSt) (x n : Nat) : Nat :=
  let rec go : List QPkt → Nat → Nat → Nat
    | [], _, _ => 0
    | p :: t, room, k => if k = 0 then 0 else if p.words.length ≤ room then 1 + go t (room - p.words.length) (k - 1) else 0
  go st.pkts (dist st.rel x) n

/-- The `k` oldest packets freed by a release (R334, R339). -/
def qFree (s : State) (q k : Nat) : State :=
  let st := s.q q
  let freed := st.pkts.take k
  let st' := (List.range k).foldl (fun a _ => qDropOldest a false) st
  paceFreed (qPut s q st') q freed

/-! ### Commands on a queue (R337 to R342, R344, R349) -/

/-- The result code of the last `QUE_CMD` write. -/
def cmdErr (s : State) (q e : Nat) : State := s.wr QUE_STAT_CMD_ERR e q

/-- MARK (R337). -/
def qMark (s : State) (q : Nat) : State :=
  let st := s.q q
  if qDisabled s q then cmdErr s q 5
  else if s.flag QUE_CFG_DMA_EN q then cmdErr s q 4
  else if !qOnBoundary st then cmdErr s q 1
  else cmdErr (qPut s q { st with mark := st.rd, markV := true, markLost := false }) q 0

/-- REWIND (R338). -/
def qRewind (s : State) (q : Nat) : State :=
  let st := s.q q
  if qDisabled s q then cmdErr s q 5
  else if s.flag QUE_CFG_DMA_EN q then cmdErr s q 4
  else if st.markV then cmdErr (qPut s q { st with rd := st.mark }) q 0
  else if st.markLost then cmdErr (qPut s q { st with rd := st.rel, loss := true, markLost := false }) q 3
  else cmdErr s q 2

/-- RELEASE with count `n` (R339). -/
def qRelease (s : State) (q n : Nat) : State :=
  let st := s.q q
  if qDisabled s q then cmdErr s q 5
  else if s.flag QUE_CFG_DMA_EN q then cmdErr s q 4
  else cmdErr (qFree s q (qReadPkts st st.rd (if n = 0 then st.pkts.length else n))) q 0

/-- The effect of a flush on the queue itself (R334, R342). -/
def qFlushCore (s : State) (q : Nat) : State :=
  let st := s.q q
  let st' := { st with wr := st.cmt, rel := st.cmt, rd := st.cmt, mark := st.cmt, markV := false, markLost := false, pkts := [],
                       openW := [], isOpen := false, dropping := st.dropping || st.isOpen }
  (qPut s q st').sat QUE_CNT_MISC_FLUSHES 1 q

/-- A queue emptied with every position at 0, its counters cleared (R328, R349). -/
def qClear (s : State) (q : Nat) : State := qPut (s.wr QUE_SEQ_NEXT 0 q) q { (({} : QSt)) with prods := (s.q q).prods }

/-! ### DMA streaming (R345 to R348, R356, R357) -/

/-- The completion write of a descriptor (R345): `flags` are FLUSHED and DEADLINE, `pad` the idle bytes. It takes the descriptor
from the channel, and an IRQ asks the channel's vector (R358, R380). -/
def dmaComplete (s : State) (ch : Nat) (d : Desc) (flags pad : Nat) : State :=
  let b (x : Bool) (k : Nat) : Nat := if x then 2 ^ k else 0
  let w2 := d.seq * 2 ^ 32 + d.got % 2 ^ 25
  let w3 := pad * 2 ^ 32 + min d.npk 65535 * 2 ^ 16 + b d.err 6 + b d.cont 5 + b d.poison 4 + b d.loss 3 + flags + 1
  let ring := s.rd PCR_DMA_BASE_LO_BASE ch * 64 + 2 ^ 32 * s.rd PCR_DMA_BASE_HI ch
  let s := s.out (.dmaWrite (ring + 32 * d.idx + 16) [w2, w3] (s.flag QUE_CFG_RELAXED d.q))
  let s := s.updDmaCh ch fun c => { c with descs := c.descs.filter fun x => x.idx != d.idx }
  let s := s.wr PCR_DMA_STAT_FETCHED (s.dmaCh ch).descs.length ch
  if d.irq then { s with vecReq := s.rd PCR_DMA_CTRL_VEC ch :: s.vecReq } else s

/-- The packets whose L word has reached a completed buffer released (R346): up to the last of them, if the queue still holds it. -/
def dmaRelease (s : State) (d : Desc) : State :=
  if d.err || d.npk == 0 then s
  else match (s.q d.q).pkts.findIdx? fun p => p.seq == d.last with
    | some i => qFree s d.q (i + 1)
    | none => s

/-- The state of a DMA channel: 0 IDLE, 1 RUN, 2 HALT. -/
def dmaState (s : State) (ch : Nat) : Nat := s.rd PCR_DMA_STAT_STATE ch

/-- A flush of queue `q`: the descriptor being filled completes with FLUSHED (R348, R342), unless its channel is halted (R356). -/
def qFlush (s : State) (q : Nat) : State :=
  let s := qFlushCore s q
  let ch := s.rd QUE_CFG_DCH q
  if s.flag QUE_CFG_DMA_EN q && dmaState s ch == 1 then
    match (s.dmaCh ch).descs.find? fun d => d.q == q && decide (0 < d.got) && decide (d.got < d.len) with
    | some d => dmaComplete s ch d 4 0
    | none => s
  else s

/-- The FLUSH command (R342, R349): refused while the queue is disabled or `P10` is quiesced. -/
def qFlushCmd (s : State) (q : Nat) : State :=
  if qDisabled s q || s.quiesced 10 then cmdErr s q 5 else cmdErr (qFlush s q) q 0

/-- The parity of the 68 bits of a word: data and tag nibble V, P, F, L (R325, R329). -/
def wordParity (data tag : Nat) : Bool := ((bitsList data 64).length + (bitsList tag 4).length) % 2 == 1

/-- The tag nibble and the parity bit of a word as they are stored (R329, R331). -/
def wordTag (w : QWord) : Nat :=
  let b (x : Bool) (k : Nat) : Nat := if x then 2 ^ k else 0
  let tag := 8 + b w.p 2 + b w.f 1 + b w.l 0
  tag + b (wordParity w.data tag != w.bad) 4

/-- The DRAM offset of the 64-byte transaction of place `i` of the spill region of queue `q`, and the word's number in it (R331). -/
def spillSlot (s : State) (q i : Nat) : Nat × Nat :=
  let i := i % (7168 * s.rd QUE_SPILL_SIZE_SPILL q)
  (65536 * s.rd QUE_SPILL_BASE_BASE q + 64 * (i / 7), i % 7)

/-- A word stored at place `i` of the spill region: its data, and tag and parity among the seven of its transaction (R331;
notes/assumptions/103.md). -/
def spillPut (s : State) (q i : Nat) (w : QWord) : State :=
  let a := spillSlot s q i
  let s := s.setBytes (a.1 + 8 * a.2) (leBytes 8 w.data)
  s.setBytes (a.1 + 56) (leBytes 8 (setBits (s.leRead (a.1 + 56) 8) (5 * a.2) 5 (wordTag w)))

/-- The word that place `i` of the spill region holds (R331). -/
def spillGet (s : State) (q i : Nat) : QWord :=
  let a := spillSlot s q i
  let data := s.leRead (a.1 + 8 * a.2) 8
  let t := bitsOf (s.leRead (a.1 + 56) 8) (5 * a.2) 5
  { data, p := bit t 2, f := bit t 1, l := bit t 0, bad := wordParity data (t % 16) != bit t 4 }

/-- Places of the spill region of queue `q` that hold no word: the `n` lowest (DESIGN CHOICE, notes/assumptions/103.md). -/
def freePlaces (st : QSt) (n : Nat) : List Nat :=
  let used := qPlaces st
  ((List.range (used.length + n)).filter fun i => !used.contains i).take n

/-- `n` more words of queue `q` reach its spill region (R331): the oldest whose spill write waits. -/
def qSpilled (s : State) (q n : Nat) : State :=
  let st := s.q q
  let idx := (qSpillWaits s q).take n
  if idx == [] then s
  else
    forEach (idx.zip (freePlaces st idx.length)) (dramUse s) fun s a =>
      match (qWords st)[a.1]? with
      | some w => (spillPut s q a.2 w).updQ q fun st => qUpdWord st a.1 fun w => { w with dram := some a.2 }
      | none => s

/-- The words of a queue that its spill reads bring back, counted from REL: those in DRAM among the 512 from the read pointer on, as far as
the on-chip partition has room (R331). -/
def qReturns (s : State) (q : Nat) : List Nat :=
  let st := s.q q
  let r := dist st.rel st.rd
  let l := (qWords st).zipIdx.filter fun w => w.1.dram.isSome && decide (r ≤ w.2) && decide (w.2 < r + 512)
  (l.map fun w => w.2).take (512 * s.rd QUE_PART_SIZE q - qOnChip st)

/-- `n` words of queue `q` return from its spill region as it holds them (R331), nearest the read pointer first. -/
def qReturned (s : State) (q n : Nat) : State :=
  let idx := (qReturns s q).take n
  if idx == [] then s
  else
    forEach idx (dramUse s) fun s i =>
      s.updQ q fun st => qUpdWord st i fun w =>
        match w.dram with
        | some k => { spillGet s q k with cover := w.cover }
        | none => w

/-- One data word of queue `q` moved into the descriptor being filled (R346, R364). -/
def dmaWord (s : State) (ch q : Nat) : State :=
  let st := s.q q
  match (s.dmaCh ch).descs.find? fun d => d.q == q && decide (d.got < d.len), qAt st with
  | some d, some (w, seq, k) =>
    if !s.flag QUE_CFG_DMA_EN q || s.rd QUE_CFG_DCH q != ch || qInSpill st then s
    else
      let (s, w) := qTake s q w
      let d' := { d with got := d.got + 8, seq := if d.got = 0 then seq else d.seq, npk := if w.l then d.npk + 1 else d.npk,
                         last := if w.l then seq else d.last,
                         cont := if d.got = 0 then k != 0 else d.cont, poison := d.poison || w.p, loss := d.loss || st.loss }
      let s := s.out (.dmaWrite (d.addr + d.got) [w.data] (s.flag QUE_CFG_RELAXED q))
      s.updDmaCh ch fun c => { c with descs := c.descs.map fun x => if x.idx == d.idx then d' else x }
  | _, _ => s

/-- The command that a word of `QUE_CMD` names (R337 to R342). -/
def qCommand (s : State) (q v : Nat) : State :=
  match v % 8 with
  | 1 => qMark s q
  | 2 => qRewind s q
  | 3 => qRelease s q (bitsOf v 8 16)
  | 4 => qFlushCmd s q
  | _ => if qDisabled s q then cmdErr s q 5 else s

/-! ### The rows of the table -/

/-- `SPILL_WRITE_DONE` (R331): words of a queue reach its spill region. -/
def execSpillWriteDone (q : Fin 64) (n : Nat) (s : State) : Host.Outcome State Fault Refusal := done (qSpilled s q n)

/-- `SPILL_READ_DONE` (R331): words of a queue return from its spill region. -/
def execSpillReadDone (q : Fin 64) (n : Nat) (s : State) : Host.Outcome State Fault Refusal := done (qReturned s q n)

end Sys2Proof.Machine
end

