-- ==== Sys2Proof/Machine/Correct.lean ====
section
/-! DEFINITION. The correction stage (spec/05_line_correction.md): linearisation, merging, shading, reference captures, the warm-up
detector, and the writes into its store and its parameters. -/

namespace Sys2Proof.Machine

/-- The top of the 20-bit scale (R107). -/
def fullScale : Nat := 1048575

/-- A value held between 0 and `hi`. -/
def clampTo (hi : Nat) (x : Int) : Nat := if x < 0 then 0 else min x.toNat hi

/-- A sample at 16-bit scale (R108); a fill sample is there already. -/
def toX16 (pack x : Nat) : Nat :=
  if 65536 ≤ x then x else if pack = 0 then x % 2 ^ 12 * 16 else if pack = 1 then x % 2 ^ 14 * 4 else x

/-- Whether a sample is saturated: at or above LEVEL, and not a fill sample (R109). -/
def sampleSat (level x : Nat) : Bool := decide (x < 65536) && decide (level ≤ x)

/-- A linearised sample (R110, R119), with the window offsets of the entries that failed parity. -/
def linearise (s : State) (c k x : Nat) : Nat × List Nat :=
  let x := x % 65536
  if s.inForce IPC_CH_CTRL_LIN_EN c == 0 then (16 * x, [])
  else
    let i := x / 16
    let f := x % 16
    let o := 0x300000 + c * 0x10000 + k * 0x4000 + i * 4
    let used := if i < 4095 then [o, o + 4] else [o]
    let bad := used.filter s.badPar.contains
    if bad != [] then (16 * x, bad)
    else
      let y0 : Int := ((storeWord s o).toNat % 2 ^ 20 : Nat)
      let y1 : Int := if i < 4095 then ((storeWord s (o + 4)).toNat % 2 ^ 20 : Nat) else (s.rd IPC_LIN_END_END c k : Nat)
      (clampTo fullScale (y0 + ((y1 - y0) * f + 8) / 16), [])

/-- The merge ratio in force for a line of exposures `expL`, `expS` before the clamp (R111); no ratio is stated where the
short exposure is 0, and a free value stands there. -/
def rawRatio (s : State) (c expL expS : Nat) : Nat :=
  if s.inForce IPC_CH_CTRL_RATIO_SRC c == 0 then s.inForce IPC_MERGE_RATIO c
  else if expS = 0 then s.free 32
  else (1024 * expL + expS) / (2 * expS)

/-- The clamp of R111. -/
def clampRatio (r : Nat) : Nat := max 1024 (min r 32768)

/-- The merged value of one pixel and whether it is marked saturated (R112). -/
def mergePixel (k r : Nat) (l s : Nat) (lSat sSat : Bool) : Nat × Bool :=
  let w := 65536
  let lr := (l * 512 + r / 2) / r
  if sSat then (fullScale, true)
  else if lSat || decide (l ≥ k + w) then (s, false)
  else if l ≤ k then (lr, false)
  else
    let d := l - k
    (((w - d) * lr + d * s + 32768) / 65536, false)

/-- What the correction stage makes of a line: each colour's values with the saturation of each pixel, the status bits, and the
store words that failed parity (window offset, whether a linearisation entry). -/
structure Corrected where
  y2 : List (List (Nat × Bool)) := []
  z : List (List Nat) := []
  status : Nat := 0
  bad : List (Nat × Bool) := []
  ratio : Nat := 1024

/-- One colour linearised and merged (R110 to R114): pixels, whether it fell back to one sub-line, parity failures. With MERGE_EN 0, or
the short sub-line missing, the long one is the single sub-line of R128 (notes/assumptions/107.md). -/
def mergeColour (s : State) (c k r : Nat) (line : Line) : List (Nat × Bool) × Bool × List Nat :=
  let hdr := s.flag SNS_TPL_CFG_HDR c
  let level := s.inForce IPC_SAT_LEVEL c
  let knee := min (s.inForce IPC_KNEE_KNEE c) 983040
  let raw (i : Nat) := (line.subs.getD i []).map (toX16 line.pack)
  let lraw := raw (if hdr then 2 * k else k)
  let sraw := if hdr then raw (2 * k + 1) else []
  let ll := lraw.map fun x => (linearise s c k x, sampleSat level x)
  if !hdr then (ll.map fun a => (a.1.1, a.2), false, (ll.map fun a => a.1.2).flatten)
  else if s.inForce IPC_CH_CTRL_MERGE_EN c == 0 then (ll.map fun a => (a.1.1, a.2), false, (ll.map fun a => a.1.2).flatten)
  else
    let sl := sraw.map fun x => (linearise s c k x, sampleSat level x)
    let bad := (ll.map fun a => a.1.2).flatten ++ (sl.map fun a => a.1.2).flatten
    let lMiss := bit line.missing (2 * k)
    let sMiss := bit line.missing (2 * k + 1)
    if lMiss && !sMiss then (sl.map fun a => (a.1.1, a.2), true, bad)
    else if sMiss && !lMiss then
      (ll.map fun a => if a.2 then (fullScale, true) else ((a.1.1 * 512 + r / 2) / r, false), true, bad)
    else ((ll.zip sl).map fun a => mergePixel knee r a.1.1.1 a.2.1.1 a.1.2 a.2.2, false, bad)

/-- One pixel shaded (R115, R119): its value, whether it was clipped, and its word's offset where parity failed. -/
def shadePixel (s : State) (c k p y2 : Nat) : Nat × Bool × List Nat :=
  if s.inForce IPC_CH_CTRL_SHD_EN c == 0 then (y2, false, [])
  else
    let o := c * 0x40000 + k * 0x10000 + p * 4
    let bad := s.badPar.contains o
    let w := (storeWord s o).toNat
    let off := if bad then 0 else w % 65536
    let gain := if bad then 16384 else w / 65536
    let z : Int := (((y2 : Int) - off) * gain + 8192) / 16384
    (clampTo fullScale z, decide (z > fullScale), if bad then [o] else [])

/-- A line through linearisation, merging and shading (R107 to R119, R125, R128). -/
def correct (s : State) (c : Nat) (line : Line) : Corrected :=
  let n := s.rd SNS_TPL_CFG_COLOURS c + 1
  let raw := rawRatio s c line.expL line.expS
  let r := clampRatio raw
  let cols : List (List (Nat × Bool) × Bool × List Nat) := (List.range n).map fun k => mergeColour s c k r line
  let shaded : List (List (Nat × Bool × List Nat)) :=
    cols.zipIdx.map fun a => a.1.1.zipIdx.map fun y => shadePixel s c a.2 y.2 y.1.1
  let sat := cols.any fun col => col.1.any fun y => y.2
  let clip := shaded.any fun col => col.any fun z => z.2.1
  let fall := cols.any fun col => col.2.1
  let badL := (cols.map fun col => col.2.2).flatten.map fun o => (o, true)
  let badS := (shaded.map fun col => (col.map fun z => z.2.2).flatten).flatten.map fun o => (o, false)
  let b (x : Bool) (k : Nat) : Nat := if x then 2 ^ k else 0
  { y2 := cols.map fun col => col.1, z := shaded.map fun col => col.map fun z => z.1,
    status := b sat 16 + b clip 17 + b fall 18 + b (s.inForce IPC_CH_CTRL_SHD_EN c != 0 && s.flag IPC_CH_STAT_FORCED c) 20
              + b (badL ++ badS != []) 21,
    bad := badL ++ badS, ratio := r }

/-! ### Captures (R120 to R125) -/

/-- The running capture fails with code `e` (R122, R124). -/
def capFail (s : State) (e : Nat) : State :=
  if s.flag IPC_CAP_STAT_BUSY then raise ((s.wr IPC_CAP_STAT_BUSY 0).wr IPC_CAP_STAT_ERR e) 81 else s

/-- A capture on channel `c` fails with code `e`. -/
def capFailOn (s : State) (c e : Nat) : State :=
  if s.flag IPC_CAP_STAT_BUSY && s.rd IPC_CAP_STAT_CHANNEL == c then capFail s e else s

/-- A word of the store written at window offset `o`, its parity with it (R116). -/
def storeSet (s : State) (o : Nat) (v : Word) : State := { s.set (0x1400000 + o) v with
    badPar := s.badPar.filter (· != o), shadeLost := s.shadeLost.map fun l => (l.1, o :: l.2) }

/-- The accumulator cleared: every word of it written. -/
def clearAccumulator (s : State) : State :=
  { s with regs := s.regs.filter fun kv => !(decide (0x17C0000 ≤ kv.1) && decide (kv.1 < 0x1800000)),
           badPar := s.badPar.filter (decide <| · < 0x3C0000), shadeLost := s.shadeLost.map fun l => (l.1, accWritten :: l.2) }

/-- A shading or accumulator word of bad parity read by the device: counted, its offset recorded (R116, R119). -/
def parityCount (s : State) (o : Nat) : State := (s.sat IPC_PAR_SHD).wr IPC_PAR_ADDR_OFFSET o

/-- A capture requested (R120): refused with BUSY, DISABLED or LAMP, or started. SHD_EN is the value that the register reads, pending or
not (notes/assumptions/95.md). -/
def capStart (s : State) (c : Nat) (white force : Bool) : State :=
  if s.flag IPC_CAP_STAT_BUSY then s.wr IPC_CAP_STAT_ERR 1
  else if c ≥ 12 || !s.flag IPC_CH_CTRL_SHD_EN c then s.wr IPC_CAP_STAT_ERR 2
  else if white && !force && !s.flag IPC_CH_STAT_LAMP_STABLE c then s.wr IPC_CAP_STAT_ERR 3
  else
    let s := ((clearAccumulator s).wr IPC_CAP_STAT_BUSY 1).wr IPC_CAP_STAT_ERR 0
    let s := ((s.wr IPC_CAP_STAT_CHANNEL c).wr IPC_CAP_STAT_SEEN 0).wr IPC_CAP_STAT_ACCEPTED 0
    { s with cap := { force := force, white := white } }

/-- The window offset of accumulator word `p` of colour `k`. -/
def accOff (k p : Nat) : Nat := 0x3C0000 + k * 0x10000 + p * 4

/-- The window offset of shading word `p` of colour `k` of channel `c`. -/
def shdOff (c k p : Nat) : Nat := c * 0x40000 + k * 0x10000 + p * 4

/-- The coefficient word of one pixel at completion and whether it is defective (R123). A word of bad parity counts as gain 1.0 and
offset 0 there (R119, notes/assumptions/95.md). A span of 0, which the division excludes, is unity and a defect also with MINSPAN 0
(notes/assumptions/107.md). -/
def newCoef (s : State) (c k p : Nat) (white : Bool) : Nat × Bool :=
  let mean := ((storeWord s (accOff k p)).toNat % 2 ^ 26 + 32) / 64
  let w := if s.badPar.contains (shdOff c k p) then 0x40000000 else (storeWord s (shdOff c k p)).toNat
  let off := w % 65536
  if !white then (w / 65536 * 65536 + min mean 65535, decide (mean > 65535))
  else
    let d : Int := (mean : Int) - off
    if d < (s.rd IPC_CAP_MINSPAN_MINSPAN : Nat) || d ≤ 0 then (16384 * 65536 + off, true)
    else
      let g := (s.inForce IPC_SHD_TARGET_TARGET c k * 16384 + d.toNat / 2) / d.toNat
      (min g 65535 * 65536 + off, decide (g > 65535))

/-- The capture completed on its 64th accepted line (R123 to R125). -/
def capComplete (s : State) : State :=
  let c := s.rd IPC_CAP_STAT_CHANNEL
  let white := s.cap.white
  let pix := (List.range (s.rd SNS_TPL_CFG_COLOURS c + 1)).flatMap fun k =>
    (List.range (s.rd SNS_TPL_PIXELS_PIXELS c + 1)).map fun p => (k, p)
  let new := pix.map fun kp => (kp, newCoef s c kp.1 kp.2 white)
  let defects := new.filter fun n => n.2.2
  let s := forEach new s fun s n =>
    let o := shdOff c n.1.1 n.1.2
    storeSet (if s.badPar.contains o then parityCount s o else s) o (BitVec.ofNat 32 n.2.1)
  let s := s.wr IPC_CAP_DEFECT_COUNT (min defects.length 65535)
  let s := match defects.head? with
    | some d => (s.wr IPC_CAP_DEFECT_COLOUR d.1.1).wr IPC_CAP_DEFECT_PIXEL d.1.2
    | none => (s.wr IPC_CAP_DEFECT_COLOUR 0).wr IPC_CAP_DEFECT_PIXEL 0
  let s := if white then s.wr IPC_CH_STAT_FORCED (if s.cap.force then 1 else 0) c else s
  raise ((s.wr IPC_CAP_STAT_BUSY 0).wr IPC_CAP_STAT_DONE 1) 80

/-- Y2 of every pixel of an accepted line added to the accumulator (R121); a word of bad parity is counted and keeps its value, and the
answer says whether there was one (R119, R122). -/
def accumulate (s : State) (y2 : List (List (Nat × Bool))) : State × Bool :=
  forEach y2.zipIdx (s, false) fun a (col, k) => forEach col.zipIdx a fun a (y, p) =>
    let o := accOff k p
    if a.1.badPar.contains o then (parityCount a.1 o, true)
    else (storeSet a.1 o (BitVec.ofNat 32 (((storeWord a.1 o).toNat + y.1) % 2 ^ 26)), a.2)

/-- A line of the capture's channel seen by the capture (R121, R122). Answers whether it was accepted. A line that fails the capture with
PARAM is seen and not accepted; one that fails it with SAT or PARITY is accepted (notes/assumptions/95.md). -/
def capSee (s : State) (c : Nat) (line : Line) (r : Corrected) : State × Bool :=
  if !(s.flag IPC_CAP_STAT_BUSY && s.rd IPC_CAP_STAT_CHANNEL == c) then (s, false)
  else
    let status := line.status ||| r.status
    let now := (line.expL, line.expS, r.ratio)
    let s := s.wr IPC_CAP_STAT_SEEN (s.rd IPC_CAP_STAT_SEEN + 1)
    let last (s : State) : State := if s.rd IPC_CAP_STAT_SEEN ≥ 256 then capFail s 5 else s
    if s.cap.ref.any (fun x => x != now) then (capFail s 6, false)
    else if status &&& 0x24004F != 0 then (last s, false)
    else
      let (s, bad) := accumulate s r.y2
      let s := { s with cap := { s.cap with ref := some now } }
      let s := s.wr IPC_CAP_STAT_ACCEPTED (s.rd IPC_CAP_STAT_ACCEPTED + 1)
      (if s.cap.white && bit status 16 then capFail s 4
       else if bad then capFail s 8
       else if s.rd IPC_CAP_STAT_ACCEPTED == 64 then capComplete s
       else last s, true)

/-! ### Lamp warm-up (R126, R127) -/

/-- LAMP_STABLE cleared; a white capture that needs it fails with LAMP (R122). -/
def lampUnstable (s : State) (c : Nat) : State :=
  let s := s.wr IPC_CH_STAT_LAMP_STABLE 0 c
  if s.cap.white && !s.cap.force then capFailOn s c 3 else s

/-- The detector restarted (R127). -/
def warmRestartCh (s : State) (c : Nat) : State :=
  (lampUnstable (s.setWarmSt c {}) c).wr IPC_CH_STAT_WARM_COUNT 0 c

/-- Whether a window of `len` ns from `t0` contains a step of the chronometer (R76): a stamp that the step leaves, passes over or
reaches (notes/assumptions/95.md). -/
def windowStepped (s : State) (t0 len : Nat) : Bool := s.steps.any fun p => decide (t0 ≤ p.2) && decide (p.1 < t0 + len)

/-- A warm-up window ended (R126, R127). The drift of an invalid window, and of one with no valid one before it, is a free value; MEAN and
DRIFT are rounded down (notes/assumptions/107.md). -/
def warmEnd (s : State) (c : Nat) : State :=
  let w := s.warmSt c
  let win := max 1 (s.rd IPC_WARM_WIN_S c)
  if w.good < 16 || windowStepped s (w.t0.getD 0) (win * 1000000000) then
    let s := s.setWarmSt c { w with sum := 0, den := 1, good := 0, mPrev := none }
    let s := (s.wr IPC_CH_STAT_WARM_COUNT 0 c).wr IPC_WARM_MEAN_VALID 0 c
    (s.wr IPC_WARM_DRIFT_DRIFT (s.free 16) c).used
  else
    let num := w.sum
    let den := w.den * w.good
    let s := s.setWarmSt c { w with sum := 0, den := 1, good := 0, mPrev := some (num, den) }
    let s := (s.wr IPC_WARM_MEAN_VALID 1 c).wr IPC_WARM_MEAN_MEAN (num / den) c
    match w.mPrev with
    | none => ((s.wr IPC_CH_STAT_WARM_COUNT 0 c).wr IPC_WARM_DRIFT_DRIFT (s.free 16) c).used
    | some (pn, pd) =>
      if pn = 0 then ((s.wr IPC_CH_STAT_WARM_COUNT 0 c).wr IPC_WARM_DRIFT_DRIFT (s.free 16) c).used
      else
        let diff := ((num : Int) * pd - (pn : Int) * den).natAbs
        let s := s.wr IPC_WARM_DRIFT_DRIFT (min 65535 (diff * 6000000 / (pn * den * win))) c
        if diff * 6000000 < s.rd IPC_WARM_LIMIT c * pn * win * den then
          let s := s.wr IPC_CH_STAT_WARM_COUNT (min (s.rd IPC_CH_STAT_WARM_COUNT c + 1) 3) c
          if s.rd IPC_CH_STAT_WARM_COUNT c == 3 && !s.flag IPC_CH_STAT_LAMP_STABLE c then
            raise ((s.wr IPC_CH_STAT_LAMP_STABLE 1 c).setBit IPC_LAMP_EVT_STABLE c) 82
          else s
        else
          let s := s.wr IPC_CH_STAT_WARM_COUNT 0 c
          if s.flag IPC_CH_STAT_LAMP_STABLE c then raise ((lampUnstable s c).setBit IPC_LAMP_EVT_DRIFT c) 83 else s

/-- A processed line watched by the detector (R126). Of the strip only the pixels that the line has are used; a line with none of them is
neither good nor saturated (notes/assumptions/107.md). -/
def warmLine (s : State) (c : Nat) (line : Line) (r : Corrected) : State :=
  let first := s.rd IPC_WARM_STRIP_FIRST c
  let last := s.rd IPC_WARM_STRIP_LAST c
  if !s.flag IPC_WARM_EN c || decide (last < first) then s
  else
    let win := max 1 (s.rd IPC_WARM_WIN_S c) * 1000000000
    let s := if (s.warmSt c).t0.isNone then s.updWarmSt c fun w => { w with t0 := some line.chrono } else s
    let t0 := (s.warmSt c).t0.getD 0
    let n := (line.chrono - t0) / win
    let s := if n ≥ 1 then warmEnd s c else s
    let s := if n ≥ 2 then warmEnd s c else s
    let s := s.updWarmSt c fun w => { w with t0 := some (t0 + n * win) }
    if (line.status ||| r.status) &&& 0x4004F != 0 then s
    else
      let strip := ((r.y2.getD (s.rd IPC_WARM_COLOUR c) []).drop first).take (last - first + 1)
      if strip == [] then s
      else if strip.any fun y => y.2 then
        let s := (s.wr IPC_CH_STAT_STRIP_SAT 1 c).wr IPC_CH_STAT_WARM_COUNT 0 c
        lampUnstable (s.updWarmSt c fun w => { w with mPrev := none }) c
      else
        let sum := (strip.map fun y => y.1).sum
        let len := strip.length
        s.updWarmSt c fun w =>
          if w.good = 0 then { w with sum := sum, den := len, good := 1 }
          else if w.den = len then { w with sum := w.sum + sum, good := w.good + 1 }
          else { w with sum := w.sum * len + sum * w.den, den := w.den * len, good := w.good + 1 }

/-- A line through the correction stage (R107 to R129): its corrected samples and status, with the captures and the detector, which a
check line does not reach (R197). -/
def correctLine (s : State) (c : Nat) (line : Line) : State × Corrected :=
  let r := correct s c line
  let raw := rawRatio s c line.expL line.expS
  let s := if s.flag SNS_TPL_CFG_HDR c && s.inForce IPC_CH_CTRL_MERGE_EN c != 0 then
      s.wr IPC_CH_STAT_RATIO_CLAMP (if clampRatio raw != raw then 1 else 0) c else s
  let s := if line.expS == 0 then s.used else s
  let s := forEach r.bad s fun s o =>
    (if o.2 then s.sat IPC_PAR_LIN else s.sat IPC_PAR_SHD).wr IPC_PAR_ADDR_OFFSET o.1
  let s := raiseIf s (r.bad != []) 84
  let (s, r) :=
    if line.kind != 0 then (s, r)
    else
      let (s, acc) := capSee s c line r
      let r := if acc then { r with status := r.status + 2 ^ 19 } else r
      (warmLine s c line r, r)
  let sat := bit r.status 16
  let clip := bit r.status 17
  let s := if sat then (s.sat IPC_CH_CNT_SAT 1 c).setBit IPC_SAT_EVT_SAT c else s
  let s := if clip then (s.sat IPC_CH_CNT_CLIP 1 c).setBit IPC_SAT_EVT_CLIP c else s
  (raiseIf s (sat || clip) 85, r)

/-! ### The store window (R116 to R119) -/

/-- A write into the shading store window at BAR0 offset `off`, by the host or by a payload (R117). LIN_EN and SHD_EN are the values that
the register reads, pending or not (notes/assumptions/95.md). -/
def storeWrite (s : State) (off : Nat) (v : Word) : State :=
  let o := off - 0x1400000
  let put (m : Word) := storeSet s o (v &&& m)
  if o < 0x300000 then
    let c := o / 0x40000
    if s.flag IPC_CH_CTRL_SHD_EN c || (s.flag IPC_CAP_STAT_BUSY && s.rd IPC_CAP_STAT_CHANNEL == c)
    then s.sat IPC_WIN_REJ_COUNT else put 0xFFFFFFFF#32
  else if o < 0x3C0000 then
    let c := (o - 0x300000) / 0x10000
    if s.flag IPC_CH_CTRL_LIN_EN c then s.sat IPC_WIN_REJ_COUNT else put 0xFFFFF#32
  else s

/-- Every store word, table and end value to its reset value (R118). -/
def storeInit (s : State) : State :=
  { s with regs := s.regs.filter fun kv =>
      !(decide (0x1400000 ≤ kv.1) && decide (kv.1 < 0x1800000)) &&
      !(decide (0x400000 ≤ kv.1) && decide (kv.1 < 0x400C00) && (kv.1 % 0x100) / 16 == 1), badPar := [], shadeLost := none }

end Sys2Proof.Machine
end

