-- ==== Sys2Proof/Machine/Geometry.lean ====
section
/-! DEFINITION. The geometry stage (spec/06_geometry_views.md, R134 to R140): the choice of a height profile, the knots of the
column map, and the resampling of a line. -/

namespace Sys2Proof.Machine

/-- The newest profile of a history registered at or before a stamp (R135). -/
def profAt (l : List Prof) (stamp : Nat) : Option Prof := l.find? fun p => decide (p.stamp ≤ stamp)

/-- The profile a line takes, and whether it is registered after the line (R135). -/
def chooseProf (l : List Prof) (stamp : Nat) : Option (Prof × Bool) :=
  match profAt l stamp with
  | some p => some (p, false)
  | none => l.getLast?.map fun p => (p, true)

/-- The profile age in µs (R136), the ns difference rounded toward minus infinity, saturated. -/
def profAge (line stamp : Nat) : Int :=
  max (-32768) (min 32767 (((line : Int) - stamp) / 1000))

/-- A knot of the column map: its source (1 local, 2 left, 3 right), return channel and column in 1/64 pixel (R137). -/
structure Knot where
  src : Nat
  rch : Nat
  col : Int
  deriving DecidableEq, Repr

/-- The knots of channel `c`, in entry order up to the first with SRC 0 (R137). -/
def knots (s : State) (c : Nat) : List Knot :=
  ((List.range 256).map fun e =>
    let w := (s.get (IPG_RMAP.off c e)).toNat
    ⟨bitsOf w 30 2, bitsOf w 22 8, sext 22 (bitsOf w 0 22)⟩).takeWhile fun k => k.src != 0

/-- Whether columns rise strictly. -/
def colsRise : List Knot → Bool
  | a :: b :: t => decide (a.col < b.col) && colsRise (b :: t)
  | _ => true

/-- The profile that a knot takes its height from: the line's own, or a neighbour's of the same frame profile `f` registered at or
before the line start (neighbours' histories are keyed by 16 × side + frame profile, side 0 left). -/
def knotProf (s : State) (f : Nat) (own : Prof) (stamp : Nat) (k : Knot) : Option Prof :=
  if k.src = 1 then some own else profAt (kvGet (fun _ => []) s.nbr (16 * (k.src - 2) + f)) stamp

/-- The lift of a knot, none where the knot is invalid (R137, R138). -/
def knotLift (s : State) (c : Nat) (own : Prof) (stamp : Nat) (k : Knot) : Option (Int × Int) :=
  match knotProf s (s.rd IPG_GEO_CFG_FPROF c) own stamp k with
  | none => none
  | some p =>
    let e := profEntry s p k.rch
    if bit e.flags 0 || decide (e.conf < s.inForce IPG_GEO_CFG_MINCONF c) then none
    else some (k.col, (s.inForce IPG_GEO_REF_REF c : Int) - e.height)

/-- The lift at column position `x` from the valid knots (R138). -/
def liftAt : List (Int × Int) → Int → Int
  | [], _ => 0
  | [a], _ => a.2
  | a :: b :: t, x =>
    if x < a.1 then a.2
    else if x < b.1 then a.2 + divNearest ((b.2 - a.2) * (x - a.1)) (b.1 - a.1)
    else liftAt (b :: t) x

/-- A lift held to 1/16 of the distance, and whether it was clamped (R138). -/
def clampLift (dist lift : Int) : Int × Bool :=
  if lift.natAbs * 16 > dist then ((if lift < 0 then -(dist / 16) else dist / 16), true) else (lift, false)

/-- The input position of column `j` (R138). -/
def inputPos (u0 dist tilt lift j : Int) : Int :=
  u0 + divNearest ((64 * j - u0) * dist) (dist - lift) + divNearest (tilt * lift * 64) 16384

/-- Tap `t` of phase `ph` of the coefficient bank (R140). -/
def firTap (s : State) (ph t : Nat) : Int :=
  if t % 2 = 0 then s.rdS IPG_FIR_TAP_LO ph (t / 2) else s.rdS IPG_FIR_TAP_HI ph (t / 2)

/-- The resampled value at input position `u` of a colour line (R138). -/
def firAt (s : State) (z : List Nat) (u : Int) : Nat :=
  let i := u / 64
  let ph := (u % 64).toNat
  let at_ (k : Int) : Int := (z.getD (clampTo (z.length - 1) k) 0 : Nat)
  let acc := ((List.range 8).map fun t => firTap s ph t * at_ (i - 3 + t)).sum
  clampTo fullScale ((acc + 8192) / 16384)

/-- What the geometry stage makes of a line: its colour lines, its status bits [31:24], its profile age, and whether it reads a profile
from DRAM. -/
structure Resampled where
  z : List (List Nat)
  status : Nat
  age : Int
  reads : Bool

/-- A line through the geometry stage (R135 to R139, R153). Every line has its profile and its age; one that is not resampled
carries no bit that the knots decide, and with an empty history the age is 0 (notes/assumptions/19.md). -/
def resample (s : State) (c stamp : Nat) (z : List (List Nat)) : Resampled :=
  let ks := knots s c
  let dist : Int := (s.inForce IPG_GEO_DIST_DIST c : Nat)
  let b (x : Bool) (k : Nat) : Nat := if x then 2 ^ k else 0
  let prof := chooseProf (kvGet (fun _ => []) s.hist (s.rd IPG_GEO_CFG_FPROF c)) stamp
  let age := match prof with
    | some (p, _) => profAge stamp p.stamp
    | none => 0
  let maxage := s.inForce IPG_GEO_CFG_MAXAGE c
  let stale := match prof with
    | some (_, after) => after || (maxage != 0 && decide (maxage < age.natAbs))
    | none => false
  if s.inForce IPG_GEO_CFG_GEO_EN c == 0 || dist == 0 || !colsRise ks then ⟨z, 2 ^ 24 + b prof.isNone 25 + b stale 26, age, false⟩
  else
    let lifts := match prof with
      | some (p, _) => ks.map (knotLift s c p stamp)
      | none => []
    let valid := lifts.filterMap id
    let u0 : Int := (s.inForce IPG_GEO_U0_U0 c : Nat)
    let tilt := sext 16 (s.inForce IPG_GEO_TILT_TILT c)
    let n := s.rd SNS_TPL_PIXELS_PIXELS c + 1
    let cols : List (Int × Bool) := (List.range n).map fun (j : Nat) => clampLift dist (liftAt valid (64 * (j : Nat)))
    let us : List Int := cols.zipIdx.map fun a => inputPos u0 dist tilt a.1.1 a.2
    ⟨z.map fun row => us.map (firAt s row),
     b (valid == []) 25 + b stale 26 + b (cols.any fun a => a.2) 27 + b (lifts.any fun l => l.isNone) 28, age, prof.isSome⟩

/-- MAP_ERR of channel `c` brought up to date (R137). -/
def mapCheck (s : State) (c : Nat) : State := s.wr IPG_GEO_STAT_MAP_ERR (if colsRise (knots s c) then 0 else 1) c

/-- A coefficient write (R140): discarded and counted while a channel has GEO_EN at 1, in its register or in force
(notes/assumptions/108.md). -/
def firStore (s : State) (p k : Nat) (v : Word) : State :=
  if (List.range 12).any fun c => s.flag IPG_GEO_CFG_GEO_EN c || s.inForce IPG_GEO_CFG_GEO_EN c != 0
  then s.sat IPG_CNT_FIR_REJ
  else s.set (IPG_FIR.off p k) v

end Sys2Proof.Machine
end

