-- ==== Sys2Proof/Machine/Views.lean ====
section
/-! DEFINITION. Views and their packets (spec/06_geometry_views.md, R141 to R145). -/

namespace Sys2Proof.Machine

/-! ### The arithmetic of a view -/

/-- The horizontal step of a scale, in 1/256 pixel (R142). -/
def viewStep (scale : Nat) : Nat := (2 * 65536 + scale) / (2 * scale)

/-- The output width of a crop at a step (R142). -/
def viewWidth (first last q : Nat) : Nat := 256 * (last + 1 - first) / q

/-- Output pixel `m`: the area mean over `[m q, (m + 1) q)` in 1/256 pixel from FIRST (R142). -/
def areaMean (row : List Nat) (first q m : Nat) : Nat :=
  let lo := m * q
  let hi := lo + q
  let k0 := lo / 256
  let part (k : Nat) : Nat := row.getD (first + k) 0 * (min hi (256 * (k + 1)) - max lo (256 * k))
  (((List.range (q / 256 + 2)).map fun i => part (k0 + i)).sum + q / 2) / q

/-- A colour line cropped and scaled (R141, R142). -/
def viewRow (row : List Nat) (first last scale : Nat) : List Nat :=
  let q := viewStep scale
  (List.range (viewWidth first last q)).map (areaMean row first q)

/-- The bits of a sample at a depth (R144). -/
def depthBits (depth : Nat) : Nat := if depth = 0 then 8 else if depth = 1 then 12 else 16

/-- A 20-bit value brought to `b` bits (R144). -/
def toDepth (b v : Nat) : Nat := min ((v + 2 ^ (19 - b)) / 2 ^ (20 - b)) (2 ^ b - 1)

/-- Samples of `b` bits packed LSB first, padded to whole 64-bit words (R144). -/
def packSamples (b : Nat) (l : List Nat) : List Nat :=
  let n := (l.foldr (fun x acc => x + 2 ^ b * acc) 0)
  (List.range ((l.length * b + 63) / 64)).map fun i => n / 2 ^ (64 * i) % 2 ^ 64

/-- The samples of one line interleaved pixel by pixel (R144). -/
def interleave (rows : List (List Nat)) : List Nat :=
  (List.range ((rows.map List.length).headD 0)).flatMap fun m => rows.map fun r => r.getD m 0

/-- The data words of a line (R144). -/
def viewData (depth : Nat) (inter : Bool) (rows : List (List Nat)) : List Nat :=
  let b := depthBits depth
  let rows := rows.map fun r => r.map (toDepth b)
  if inter then packSamples b (interleave rows) else rows.flatMap (packSamples b)

/-! ### Packets (R145) -/

/-- What a line record of a view carries beside its samples; it covers `cover` source lines after its own (R188). -/
structure LineRec where
  num : Nat
  status : Nat
  logN : Nat
  logV : Nat
  chrono : Nat
  age : Int
  dropped : Nat
  submask : Nat
  seam : Nat
  cover : Nat

/-- The four words of a line record (R145); `seam` holds STITCH_SEAM and the residual in place. -/
def lineWords (r : LineRec) : List Nat :=
  [r.num % 2 ^ 32 * 2 ^ 32 + r.status % 2 ^ 32, r.logN % 4 * 2 ^ 48 + r.logV % 2 ^ 48, r.chrono % 2 ^ 64,
   toBits 16 r.age * 2 ^ 48 + min r.dropped 65535 * 2 ^ 32 + r.seam + r.submask % 16 * 256]

/-- The header word of a packet of `n` lines (R145). -/
def viewHeader (s : State) (v n dwords width : Nat) : Nat :=
  v * 2 ^ 58 + n * 2 ^ 51 + dwords % 2 ^ 19 * 2 ^ 32 + width % 2 ^ 16 * 2 ^ 16 + s.rd IPG_VIEW_CFG_COLOURS v * 2 ^ 12
    + s.rd IPG_VIEW_CFG_DEPTH v * 2 ^ 10 + s.rd IPG_VIEW_CFG_CFMT v * 2 ^ 9 + 1

/-- The open packet of view `v` committed with the lines it holds (R145). -/
def viewCommit (s : State) (v : Nat) : State :=
  let n := (s.viewSt v).lines
  if n == 0 then s
  else
    let s := qCloseOpen s (s.rd IPG_VIEW_CFG_QUEUE v) v fun h => setBits h 51 7 n
    s.updViewSt v fun w => { w with lines := 0, key := [] }

/-- The words of one line record offered to the view's queue (R145, R326). -/
def viewEmit (s : State) (v : Nat) (key : List Nat) (width : Nat) (r : LineRec) (rows : List (List Nat)) : State :=
  let data := viewData (s.rd IPG_VIEW_CFG_DEPTH v) (s.flag IPG_VIEW_CFG_CFMT v) rows
  let q := s.rd IPG_VIEW_CFG_QUEUE v
  let lpp := s.rd IPG_VIEW_CFG_LPP v + 1
  let s := s.wr IPG_VIEW_STAT_LWORDS data.length v
  let s := if (s.viewSt v).key != key then viewCommit s v else s
  let s := if (s.viewSt v).lines == 0 then
      qWrite (s.updViewSt v fun w => { w with key := key }) q v { data := viewHeader s v lpp data.length width, f := true }
    else s
  let n := (s.viewSt v).lines + 1
  let ws := lineWords r ++ data
  let s := (ws.foldl (fun (a : State × Nat) d =>
    (qWrite a.1 q v { data := d, l := n == lpp && a.2 + 1 == ws.length, cover := if a.2 == 0 then r.cover else 0 }, a.2 + 1)) (s, 0)).1
  s.updViewSt v fun w => { w with lines := if n == lpp then 0 else n, key := if n == lpp then [] else key }

/-- The vertical group in progress emitted (R143); what it carries beside number and status is named in notes/assumptions/108.md. -/
def viewGroupOut (s : State) (v : Nat) : State :=
  let w := s.viewSt v
  match w.grp with
  | none => s
  | some g =>
    let k := w.gkey.headD 1
    let n := max 1 w.members
    let rows := w.acc.map fun row => row.map fun x => (x + n / 2) / n
    let status := if w.members < k then setBits w.status 4 1 1 else w.status
    let rec_ : LineRec := ⟨g * k, status, w.first.logN, w.first.logV, w.first.chrono, w.age, w.dropped, w.submask, w.seam, k - 1⟩
    let s := s.updViewSt v fun w => { lines := w.lines, key := w.key }
    viewEmit s v w.gkey.tail ((rows.map List.length).headD 0) rec_ rows

/-- What a view holds brought to an end: its group, incomplete or not (notes/assumptions/108.md), then its open packet (R143, R145). -/
def viewFinish (s : State) (v : Nat) : State := viewCommit (viewGroupOut s v) v

/-- The view packets and groups of source channel `c` ended (R145). -/
def viewsFinishCh (s : State) (c : Nat) : State :=
  forEach (List.range 64) s fun s v => if s.rd IPG_VIEW_CFG_CHANNEL v == c then viewFinish s v else s

/-- The open packets of every view aborted (R349). -/
def viewsAbort (s : State) : State :=
  forEach (List.range 64) s fun s v =>
    if s.viewSt v == {} then s
    else (if (s.viewSt v).lines == 0 then s else qAbortBy s (s.rd IPG_VIEW_CFG_QUEUE v) v).setViewSt v {}

/-- CFG_ERR of every view brought up to date with the values last written (R141; notes/assumptions/20.md), and the producers of
the queues with it. -/
def viewCheck (s : State) : State :=
  if !s.loaded 3 then refreshAllProds s
  else
    refreshAllProds (forEach (List.range 64) s fun s v =>
      let bad := s.flag IPG_VIEW_CFG_EN v && !viewWritten s v
      let was := s.flag IPG_VIEW_STAT_CFG_ERR v
      raiseIf (s.wr IPG_VIEW_STAT_CFG_ERR (if bad then 1 else 0) v) (bad && !was) 93)

/-! ### A line through a view (R141 to R143) -/

/-- Line `line` of view `v`'s channel, resampled to `z`, through the view. `status` is its whole status word, `seam` the seam half
of its line word 3. -/
def viewLine (s : State) (v : Nat) (line : Line) (z : List (List Nat)) (status dropped seam : Nat) (age : Int) : State :=
  if !viewLive s v then refreshProds (viewFinish s v) (s.rd IPG_VIEW_CFG_QUEUE v)
  else
    let crop := s.inForce IPG_VIEW_CROP v
    let sc := s.inForce IPG_VIEW_SCALE v
    let mask := s.rd IPG_VIEW_CFG_COLOURS v
    let first := bitsOf crop 0 14
    let last := bitsOf crop 16 14
    let k := bitsOf sc 24 4 + 1
    let mode := bitsOf sc 30 2
    let rows := ((bitsList mask 4).map fun c => viewRow (z.getD c []) first last (bitsOf sc 0 9))
    let width := viewWidth first last (viewStep (bitsOf sc 0 9))
    let key := [first, last, bitsOf sc 0 9, mask, s.rd IPG_VIEW_CFG_DEPTH v, s.rd IPG_VIEW_CFG_CFMT v]
    let rec_ : LineRec := ⟨line.num, status, line.logN, line.logV, line.chrono, age, dropped, line.submask, seam, if mode == 0 then 0 else k - 1⟩
    if mode != 2 || k == 1 then
      let s := viewGroupOut s v
      if mode == 0 || k == 1 || line.num % k == 0 then viewEmit s v key width rec_ rows else s
    else
      let g := line.num / k
      let s := if (s.viewSt v).grp != some g || (s.viewSt v).gkey != k :: key then viewGroupOut s v else s
      let w := s.viewSt v
      let w := if w.grp.isNone then { w with grp := some g, gkey := k :: key, first := line, age := age, acc := rows.map fun r => r.map fun _ => 0 }
               else w
      let w := { w with members := w.members + 1, acc := List.zipWith (fun a b => List.zipWith (· + ·) a b) w.acc rows,
                        status := w.status ||| status, submask := w.submask ||| line.submask, dropped := w.dropped + dropped,
                        seam := w.seam ||| seam }
      let s := s.setViewSt v w
      if line.num % k == k - 1 then viewGroupOut s v else s

/-- A line through every view of its channel (R141). -/
def viewsLine (s : State) (c : Nat) (line : Line) (z : List (List Nat)) (status dropped seam : Nat) (age : Int) : State :=
  refreshAllProds (forEach (List.range 64) (refreshAllProds s) fun s v =>
    if s.rd IPG_VIEW_CFG_CHANNEL v == c then viewLine s v line z status dropped seam age else s)

end Sys2Proof.Machine
end

