-- ==== Sys2Proof/Machine/Pipeline.lean ====
section
/-! DEFINITION. The two paths of a line (spec/06_geometry_views.md, R146 to R149, R153) and the stitch correlator that stands on
them (spec/09_pacing_stitch.md, R197 to R199). -/

namespace Sys2Proof.Machine

/-! ### The stitch correlator -/

/-- The paced axis of channel `c`: the axis that SEL names, where `c` is its pace channel (R187). -/
def paceAxis (s : State) (c : Nat) : Option Nat :=
  let a := s.rd SNS_CH_CFG_SEL c
  if s.rd SNS_CH_CFG_LSRC c == 2 && s.rd AXS_PACE_CFG_CH a == c then some a else none

/-- The 256 samples that the correlator keeps of a line (R197). A column beyond the line reads as a free value. -/
def stitchSamples (s : State) (a : Nat) (z : List (List Nat)) : List Nat :=
  let row := z.getD (s.rd AXS_STITCH_CFG_COLOUR a) []
  let first : Int := s.rd AXS_STITCH_WIN_FIRST a
  let last : Int := s.rd AXS_STITCH_WIN_LAST a
  (List.range 256).map fun (k : Nat) => row.getD (first + (k : Int) * (last - first) / 255).toNat (s.free 20)

/-- Whether a line's status bars it from the correlation: CRC, SHORT, LONG, MISSING or LOCK (R198). -/
def stitchBad (status : Nat) : Bool := status &&& 0x4F != 0

/-- The sum of squares at trial shift `d` (R198). -/
def stitchScore (ref chk : List (List Nat)) (d : Int) : Nat :=
  let c := ref.length
  ((List.range (c - 2)).map fun (i0 : Nat) =>
    let i := i0 + 1
    let x : Int := 64 * (i : Nat) + d
    let j := (x / 64).toNat
    let f := (x % 64).toNat
    let r0 := ref.getD j []
    let r1 := ref.getD (min (j + 1) (c - 1)) []
    let k := chk.getD i []
    ((List.range 256).map fun n =>
      let rv : Int := ((r0.getD n 0 * (64 - f) + r1.getD n 0 * f + 32) / 64 : Nat)
      let e : Int := (k.getD n 0 : Nat) - rv
      (e * e).toNat).sum).sum

/-- The trial shifts in the order in which ties go: by magnitude, the negative one first (R198). -/
def trialShifts : List Int := 0 :: (List.range 64).flatMap fun (n : Nat) => [-((n : Int) + 1), (n : Int) + 1]

/-- The shift with the least score (R198). -/
def bestShift (ref chk : List (List Nat)) : Int :=
  (trialShifts.foldl (fun (b : Option (Nat × Int)) d =>
    let v := stitchScore ref chk d
    match b with
    | none => some (v, d)
    | some (bv, bd) => if v < bv then some (v, d) else some (bv, bd)) none).elim 0 fun b => b.2

/-- Whether the variance of the reference samples is below MINVAR times 256 (R198). -/
def varianceLow (ref : List (List Nat)) (minvar : Nat) : Bool :=
  let l := ref.flatten
  let n := l.length
  let sum := l.sum
  let sq := (l.map fun x => x * x).sum
  decide (n * sq - sum * sum < minvar * 256 * (n * n))

/-- The samples of reference line `i` of `c`, the lines numbered below the first new line `num` (R197, R198): none where it never reached
the stage, or where a start between it and the line before it was refused (notes/assumptions/99.md). -/
def refLine (refs : List (Nat × Bool × List Nat)) (c num i : Nat) : List Nat :=
  match refs.find? fun r => r.1 == (num + i + 2 ^ 32 - c) % 2 ^ 32 with
  | some r => if r.2.1 && i != 0 then [] else r.2.2
  | none => []

/-- The residual of a seam whose first new line is numbered `num` (R198). -/
def residual (c minvar num : Nat) (p : PaceSt) : Int :=
  let ref := (List.range c).map (refLine p.refs c num)
  let chk := (List.range c).map fun i => kvGet (fun _ => []) p.chks i
  if c < 4 || p.lost || ref.any (· == []) || chk.any (· == []) || varianceLow ref minvar then -16384
  else bestShift ref chk

/-- A numbered line kept as a reference, where its channel is a pace channel (R197). -/
def stitchRef (s : State) (c : Nat) (line : Line) (status : Nat) (z : List (List Nat)) : State :=
  match paceAxis s c with
  | none => s
  | some a =>
    let smp := if stitchBad status then [] else stitchSamples s a z
    s.updPaceSt a fun p => { p with refs := ((line.num, bit status 4, smp) :: p.refs).take 8 }

/-- A check line processed (R197, R198): corrected with the parameters in force for the first new line, then to the correlator
and no further. -/
def checkLine (s : State) (c : Nat) (line : Line) : State :=
  let (s', r) := correctLine (applyPend s c line.epoch line.num) c line
  let s := { s' with pend := s.pend }
  match paceAxis s c with
  | none => s
  | some a =>
    let smp := if stitchBad (line.status ||| r.status) then [] else stitchSamples s a r.z
    let s := s.updPaceSt a fun p => { p with chks := kvSet (fun _ => []) p.chks line.idx smp }
    let n := s.rd AXS_PACE_STAT_CHECKS a
    if line.idx + 1 == n then
      s.updPaceSt a fun p => { p with res := residual n (s.rd AXS_STITCH_CFG_MINVAR a) line.num p }
    else s

/-- The seam half of line word 3 (R145, R199), and what the pace channel's first new line records. -/
def seamOf (s : State) (c : Nat) (line : Line) : State × Nat :=
  if !line.seam then (s, 0)
  else
    let a := s.rd SNS_CH_CFG_SEL c
    let res := if (s.paceSt a).inSeq then (s.paceSt a).res else -16384
    let w := 2 ^ 31 + toBits 15 res * 2 ^ 16
    if paceAxis s c != some a then (s, w)
    else
      let s := (s.wr AXS_STITCH_RES_RESIDUAL (toBits 15 res) a).sat AXS_STITCH_RES_SEAMS 1 a
      (if res != -16384 && decide (s.rd AXS_STITCH_CFG_TOL a < res.natAbs) then s.wr AXS_PACE_STAT_STITCH_POOR 1 a else s, w)

/-! ### A line through the stages -/

/-- A line raised against channel `c` in the arbitration half of `IPG_EVT` (R152). -/
def arbRaise (s : State) (c n : Nat) : State := raise (s.setBit IPG_EVT_ARB c) n

/-- A line raised against channel `c` in the geometry half of `IPG_EVT` (R152). -/
def geoRaise (s : State) (c n : Nat) : State := raise (s.setBit IPG_EVT_GEO c) n

/-- A line through correction, geometry and its views (R107, R135 to R153). -/
def processLine (s : State) (c : Nat) (line : Line) (late inl : Bool) : State :=
  if line.kind == 2 then checkLine s c line
  else
    let s := applyPend s c line.epoch line.num
    let (s, r) := correctLine s c line
    let status := line.status ||| r.status
    let s := stitchRef s c line status r.z
    let (s, seam) := seamOf s c line
    let g := resample s c line.chrono r.z
    let s := if g.reads then dramUse s else s
    let s := s.wr IPG_GEO_STAT_AGE (toBits 16 g.age) c
    let dropped := (s.chan c).dropped
    let s := s.updChan c fun x => { x with dropped := 0 }
    let b (x : Bool) (k : Nat) : Nat := if x then 2 ^ k else 0
    let status := status ||| g.status ||| b (dropped != 0) 29 ||| b late 30 ||| b inl 31
    let s := if bit status 25 then geoRaise s c 90 else s
    let s := if bit status 26 then geoRaise s c 91 else s
    let s := if bit status 27 then geoRaise s c 92 else s
    let s := { s with reflex := { s.reflex with lineStat := kvSet (fun _ => 0) s.reflex.lineStat c status } }
    viewsLine s c line g.z status dropped seam g.age

/-! ### Landing, the in-line path and the memory path -/

/-- Whether the stages take lines: `P2` and `P3` in service and neither quiescing (R46, R149). -/
def stagesOpen (s : State) : Bool := s.loaded 2 && s.loaded 3 && !s.quiescing 2 && !s.quiescing 3

/-- The channel named for the in-line path (R146). -/
def inlineCh (s : State) : Option Nat :=
  if s.flag IPG_INLINE_EN && decide (s.rd IPG_INLINE_CHANNEL < 12) then some (s.rd IPG_INLINE_CHANNEL) else none

/-- The backlog limit of channel `c`. -/
def backlogLim (s : State) (c : Nat) : Nat := max 1 (s.rd IPG_CH_CFG_BACKLOG c)

/-- The backlog register follows; below half of the limit the high mark may raise again (R148). -/
def backlogSync (s : State) (c : Nat) : State :=
  let n := (s.chan c).landed.length
  let s := s.wr IPG_CH_STAT_BACKLOG n c
  if 2 * n < backlogLim s c then s.updChan c fun x => { x with high := false } else s

/-- The oldest landed line of channel `c` dropped (R147). -/
def dropOldest (s : State) (c : Nat) : State :=
  arbRaise ((s.updChan c fun x => { x with landed := x.landed.drop 1, dropped := x.dropped + 1 }).sat IPG_CH_DROP_DROPPED 1 c) c 86

/-- The bytes of one slot of channel `c`'s landing zone (R147, R467): a line record of 64 bytes and the samples of one line, rounded up to
4 KiB. -/
def slotBytes (s : State) (c : Nat) : Nat :=
  let smp := (s.rd SNS_TPL_CFG_COLOURS c + 1) * (s.rd SNS_TPL_CFG_HDR c + 1) * (s.rd SNS_TPL_PIXELS_PIXELS c + 1)
  (64 + 2 * smp + 4095) / 4096 * 4096

/-- The DRAM offset of channel `c`'s landing zone (R147). -/
def zoneBase (s : State) (c : Nat) : Nat := s.rd IPG_LZ_BASE_LO_BASE c * 4096 + 2 ^ 32 * s.rd IPG_LZ_BASE_HI_BASE c

/-- A line written into the next slot of its zone (R21, R147): its record, of which the spec gives no byte, as 64 free bytes, then its
samples in 16-bit containers, sub-line by sub-line (notes/assumptions/96.md). Answers the line with its slot's offset. -/
def storeLine (s : State) (c : Nat) (line : Line) : State × Line :=
  let a := zoneBase s c + (s.chan c).slot % (backlogLim s c + 2) * slotBytes s c
  let s := s.updChan c fun x => { x with slot := (x.slot + 1) % (backlogLim s c + 2) }
  let x := freeBytes 64 s
  (dramUse (x.1.setBytes a (x.2 ++ line.subs.flatten.flatMap fun v => leBytes 2 v)), { line with addr := a })

/-- The samples of a landed line read back from its slot (R21); which of them are fill samples stands with the line. -/
def fetchLine (s : State) (line : Line) : State × Line :=
  let read (a : Nat) (row : List Nat) : List Nat :=
    row.zipIdx.map fun v => (if 65536 ≤ v.1 then 65536 else 0) + s.leRead (a + 2 * v.2) 2
  let rows := line.subs.foldl (fun (x : Nat × List (List Nat)) row => (x.1 + 2 * row.length, x.2 ++ [read x.1 row])) (line.addr + 64, [])
  (dramUse s, { line with subs := rows.2 })

/-- A line job taken (R26): the landed lines, those on the in-line path, and the line that takes it. -/
def jobUse (s : State) : State :=
  let n := ((List.range 12).map fun c => (s.chan c).landed.length + (s.chan c).inl.length).sum
  { s with pool := { s.pool with jobs := max s.pool.jobs n } }

/-- A line landed (R147), with the high mark of R148 (with BACKLOG 1 see notes/assumptions/108.md). -/
def landLine (s : State) (c : Nat) (line : Line) : State :=
  let lim := backlogLim s c
  let s := forEach (List.range ((s.chan c).landed.length + 1 - lim)) s fun s _ => dropOldest s c
  let (s, line) := storeLine s c line
  let s := jobUse (s.updChan c fun x => { x with landed := x.landed ++ [line] })
  let n := (s.chan c).landed.length
  let s := if decide (max 1 (3 * lim / 4) ≤ n) && !(s.chan c).high then
      arbRaise (s.updChan c fun x => { x with high := true }) c 88 else s
  backlogSync s c

/-- INLINE_ACTIVE of channel `c` changed (R149). -/
def setInline (s : State) (c : Nat) (on : Bool) : State :=
  if s.flag IPG_CH_STAT_INLINE_ACTIVE c == on then s
  else raise (s.wr IPG_CH_STAT_INLINE_ACTIVE (if on then 1 else 0) c) 89

/-- INLINE_ACTIVE cleared where the path no longer stands; lines on it land (R149). -/
def inlineSync (s : State) : State :=
  forEach (List.range 12) s fun s c =>
    if s.flag IPG_CH_STAT_INLINE_ACTIVE c && !(stagesOpen s && inlineCh s == some c) then
      let ls := (s.chan c).inl
      forEach ls (setInline (s.updChan c fun x => { x with inl := [] }) c false) fun s l => landLine s c l
    else s

/-- A line start of channel `c` seen by the in-line path: it runs in-line from a line start with its zone empty (R149). -/
def inlineStart (s : State) (c : Nat) : State :=
  if inlineCh s == some c && stagesOpen s && (s.chan c).landed == [] then setInline s c true else s

/-- A closed line handed on (R146, R147, R197). -/
def deliverLine (s : State) (c : Nat) (line : Line) : State :=
  if line.kind == 1 || (line.kind == 2 && (paceAxis s c).isNone) then s
  else if s.flag IPG_CH_STAT_INLINE_ACTIVE c then jobUse (s.updChan c fun x => { x with inl := x.inl ++ [line] })
  else landLine s c line

/-- The deadline of a landed line in ns (R148). -/
def deadline (s : State) (c : Nat) (line : Line) : Nat :=
  let d := s.rd IPG_CH_CFG_DEADLINE c
  line.chrono + 1000 * (if d = 0 then 65536 else d)

/-- The choice of the memory path (R148): the oldest landed line with the least deadline, ties to the lower channel. -/
def memoryChoice (s : State) : Option (Nat × Line) :=
  forEach (List.range 12) none fun best c =>
    match (s.chan c).landed.head? with
    | none => best
    | some l =>
      if s.flag IPG_CH_STAT_INLINE_ACTIVE c then best
      else match best with
        | none => some (c, l)
        | some (bc, bl) => if deadline s c l < deadline s bc bl then some (c, l) else best

/-- The memory path takes a line (R148). -/
def memoryTake (s : State) : State :=
  if !stagesOpen s then s
  else match memoryChoice s with
    | none => s
    | some (c, l) =>
      let s := backlogSync (s.updChan c fun x => { x with landed := x.landed.drop 1 }) c
      let late := l.stood || decide (deadline s c l < s.chrono)
      let s := if late then arbRaise (s.sat IPG_CH_DROP_LATE 1 c) c 87 else s
      let (s, l) := fetchLine s l
      processLine s c l late false

/-- The in-line channel's oldest line passes the stages (R146). -/
def inlineTake (s : State) : State :=
  match inlineCh s with
  | none => s
  | some c =>
    match (s.chan c).inl with
    | [] => s
    | l :: rest =>
      if s.flag IPG_CH_STAT_INLINE_ACTIVE c then processLine (s.updChan c fun x => { x with inl := rest }) c l false true else s

/-- `INLINE_LINE_PROCESS` (R146). -/
def execInlineLineProcess (s : State) : Host.Outcome State Fault Refusal := done (inlineTake s)

/-- `MEMORY_PATH_TAKE` (R148). -/
def execMemoryPathTake (s : State) : Host.Outcome State Fault Refusal := done (memoryTake s)

end Sys2Proof.Machine
end

