-- ==== Sys2Proof/Machine/Lane.lean ====
section
/-! DEFINITION. What goes over a lane (spec/04_sensor_heads.md): the symbols of edge messages and
control frames and their slots on a forward lane (R90 to R93), and the blocks of an upstream lane with the packets that they make up
(R94 to R97, R100). -/

namespace Sys2Proof.Machine

/-! ### Control frames (R90, R93) -/

/-- The code group K27.7, which opens a control frame; data code groups are their bytes, and a control code group stands 256 above its
byte. -/
def symStart : Nat := 256 + 0xFB

/-- The code group K29.7, which closes a control frame. -/
def symEnd : Nat := 256 + 0xFD

/-- A value of `6 * n` bits as `n` payload symbols, highest bits first (notes/assumptions/91.md). -/
def sixes (n v : Nat) : List Nat := (List.range n).map fun k => bitsOf v (6 * (n - 1 - k)) 6

/-- The operation symbols of a control frame, from the arguments of its operation. -/
def frameBody (op : Nat) (args : List Nat) : List Nat :=
  match op, args with
  | 1, p :: n :: slots =>
    sixes 2 p ++ sixes 1 n
      ++ (List.range (n + 1)).flatMap fun k => sixes 4 (slots.getD (2 * k) 0 % 256 * 2 ^ 16 + slots.getD (2 * k + 1) 0 % 2 ^ 16)
  | 2, [a, d] => sixes 2 a ++ sixes 3 d
  | 3, [a] => sixes 2 a
  | 4, [n, v] => sixes 9 (n % 4 * 2 ^ 48 + v % 2 ^ 48)
  | _, _ => []

/-- The code groups of a control frame: start, head and operation, the operation's symbols, two check symbols, end. -/
def frameSyms (h op : Nat) (args : List Nat) : List Nat :=
  let body := (h % 4 * 16 + op % 16) :: frameBody op args
  symStart :: body ++ sixes 2 (crc32c body % 2 ^ 12) ++ [symEnd]

/-! ### The slots of a forward lane (R87, R90 to R92) -/

/-- The first slot that begins at or after an elapsed count (notes/assumptions/91.md). -/
def slotAt (t : Nat) : Nat := (t + 7) / 8

/-- The elapsed count at the effective time of a line event whose edge belongs into slot `want`: 15 slots, 120 ns, before it (R91). -/
def eventAt (want : Nat) : Nat := 8 * (want - 15)

/-- Whether a slot carries K28.5 whatever waits: one in every 256 (R90, notes/assumptions/91.md). -/
def commaSlot (k : Nat) : Bool := k % 256 == 255

/-- The slot of symbol A of an edge message: the first from `a` on that, with the slot behind it, is free of messages and of the
comma. -/
def messageSlot (busy : List Nat) : Nat → Nat → Nat
  | 0, a => a
  | n + 1, a =>
    if busy.contains a || busy.contains (a + 1) || commaSlot a || commaSlot (a + 1) then messageSlot busy n (a + 1) else a

/-- The slot in which an edge wanted in slot `want` of lane `l` applies, and the slot of its symbol A: the first free pair of slots
that begins from now on and at most 17 slots ahead, and late where that is too near (R91, R92). -/
def edgeSlots (s : State) (l want : Nat) : Nat × Nat :=
  let busy := (s.laneSt l).msgs
  let a := messageSlot busy (2 * busy.length + 4) (max (want - 17) (slotAt s.elapsed))
  (max want (a + 2), a)

/-- An edge message sent (R91): its two symbols, and how many slots late its edge applies (R92). -/
def laneEdgeSend (s : State) (l h sig level want : Nat) : State × Nat :=
  let x := edgeSlots s l want
  let lead := x.1 - x.2 - 2
  let s := s.out (.laneEdge l x.2 (0xC0 + h % 4 * 16 + sig % 8 * 2 + level % 2) (lead * 16) x.1)
  (s.updLaneSt l fun y => { y with msgs := x.2 :: (x.2 + 1) :: y.msgs.filter fun k => decide (x.2 < k + 64) }, x.1 - want)

/-- A control frame given to lane `l` (R90). A TAG goes before frames that have not begun (R93). -/
def sendFrame (s : State) (l h op : Nat) (args : List Nat) : State :=
  let f := frameSyms h op args
  (s.out (.laneFrame l h op args)).updLaneSt l fun x =>
    { x with slot := if x.frames == [] then slotAt s.elapsed else x.slot,
             frames := if op != 4 then x.frames ++ [f]
               else if x.mid then x.frames.take 1 ++ f :: x.frames.drop 1 else f :: x.frames }

/-- The code groups of waiting frames sent in the slots of lane `l` below `stop` that carry no message and no comma (R90): what is
left, the next slot, and the groups with their slots, newest first. -/
def frameRun (busy : List Nat) (stop : Nat) :
    Nat → List (List Nat) → Bool → Nat → List (Nat × Nat) → List (List Nat) × Bool × Nat × List (Nat × Nat)
  | 0, fs, mid, k, acc => (fs, mid, k, acc)
  | n + 1, fs, mid, k, acc =>
    if stop ≤ k then (fs, mid, k, acc)
    else if busy.contains k || commaSlot k then frameRun busy stop n fs mid (k + 1) acc
    else match fs with
      | [] => ([], false, k, acc)
      | [] :: t => frameRun busy stop n t false k acc
      | [g] :: t => frameRun busy stop n t false (k + 1) ((k, g) :: acc)
      | (g :: r) :: t => frameRun busy stop n (r :: t) true (k + 1) ((k, g) :: acc)

/-- Lane `l` sends its waiting frames in the slots that have passed (R90); every slot without a message or a frame's code group carries
K28.5. -/
def laneSend (s : State) (l : Nat) : State :=
  let x := s.laneSt l
  if x.frames == [] then s
  else
    let n := (x.frames.map List.length).sum
    let r := frameRun x.msgs (s.elapsed / 8) (2 * n + 2 * x.msgs.length + 8) x.frames x.mid x.slot []
    let s := s.setLaneSt l { x with frames := r.1, mid := r.2.1, slot := r.2.2.1 }
    if r.2.2.2 == [] then s else s.out (.laneGroups l r.2.2.2.reverse)

/-! ### Upstream packets (R94 to R97) -/

/-- The bits of a packed sample (R94). -/
def packWidth (pack : Nat) : Nat := if pack = 0 then 12 else if pack = 1 then 14 else 16

/-- A number from bytes, the first least significant. -/
def bytesNat : List Nat → Nat
  | [] => 0
  | b :: t => b + 256 * bytesNat t

/-- The `n` samples of `w` bits that a number holds, the first in its lowest bits (R95). -/
def unpack (w : Nat) : Nat → Nat → List Nat
  | 0, _ => []
  | n + 1, v => v % 2 ^ w :: unpack w n (v / 2 ^ w)

/-- The whole samples in sample bytes (R95): little-endian, the lowest bits first, without gaps. -/
def samplesOf (pack : Nat) (l : List Nat) : List Nat := unpack (packWidth pack) (8 * l.length / packWidth pack) (bytesNat l)

/-- The packet that its bytes and its trailer spell (R94 to R96): header bytes 0 to 14, then the sample data blocks; `ended` is false
where no END block closed it (R100). -/
def parsePacket (l trailer : List Nat) (ended : Bool) : Packet :=
  let b (k : Nat) : Nat := l.getD k 0
  let data := l.drop 15
  let pack := bitsOf (b 1) 6 2
  { hdrOk := decide (15 ≤ l.length) && bytesNat ((l.drop 13).take 2) == crc32c (l.take 13) % 2 ^ 16,
    kind := bitsOf (b 0) 6 2, head := bitsOf (b 0) 4 2, colour := bitsOf (b 0) 2 2, short := bit (b 0) 1, pack := pack,
    stampLog := bitsOf (b 1) 4 2, stamp := bytesNat ((l.drop 2).take 6), count := bytesNat ((l.drop 8).take 2), seq := b 10,
    blocks := data.length / 8, samples := samplesOf pack data, crcOk := ended && bytesNat (trailer.take 4) == crc32c l,
    regData := bytesNat ((l.drop 8).take 2), regAddr := bytesNat ((l.drop 11).take 2) % 2 ^ 12 }

end Sys2Proof.Machine
end

