-- ==== Sys2Proof/Machine/Time.lean ====
section
/-! DEFINITION. The passing of time: the elapsed count, the chronometer and the calendar (R73, R74, R76, R417), the operating time
(R414), and the slots of the forward lanes (R90). -/

namespace Sys2Proof.Machine

/-- Every forward lane with frames that wait sends them. -/
def lanesSend (s : State) : State := forEach (s.lane.map (·.1)) s laneSend

/-- Whether the timing reference runs: its domain is on (R433, R434, notes/assumptions/106.md). -/
def timingRef (s : State) : Bool := bit (s.rd PCR_PD_STAT_ON) 20 || bit (s.rd PCR_PD_STAT_ON) 21

/-- What the elapsed count and the chronometer count while `d` ns pass: nanoseconds, or steps of 40 of the 25 MHz clock while the timing
reference is off (R76, R434, notes/assumptions/106.md). -/
def State.counted (s : State) (d : Nat) : Nat := if timingRef s then d else (s.tickRest + d) / 40 * 40

/-- The chronometer while `c` ns are counted: the time for which it holds, the correction that it slews, 1 ns in 1 µs, and where it
stands then (R74). -/
def chronoRun (s : State) (c : Nat) : Nat × Int × Nat :=
  let held := min c s.hold
  let room : Int := (s.elapsed + c : Nat) / 1000 - (s.elapsed / 1000 : Nat)
  let mv : Int := if s.slew ≥ 0 then min s.slew room else -(min (-s.slew) room)
  (held, mv, ((s.chrono + (c - held) : Nat) + mv).toNat)

/-- The elapsed count, the chronometer and the calendar moved forward by `d` ns (R73, R74, R76). The operating time counts whole seconds
(R414), the on-phases of the sinks run (R271), and the forward lanes send what waits (R90). -/
def State.pass (s : State) (d : Nat) : State :=
  let c := s.counted d
  let rest := if timingRef s then 0 else (s.tickRest + d) % 40
  let s := sinksRun s c
  let x := chronoRun s c
  let secs := (s.elapsed + c) / 1000000000 - s.elapsed / 1000000000
  let s := if secs = 0 then s
    else s.wr2 LGB_CTR_LO_COUNT LGB_CTR_HI_COUNT (s.rd2 LGB_CTR_LO_COUNT LGB_CTR_HI_COUNT 90 + secs) 90
  lanesSend
    { s with elapsed := s.elapsed + c, hold := s.hold - x.1, slew := s.slew - x.2.1, rtc := s.rtc + d, chrono := x.2.2, tickRest := rest }

/-- The first value at or above `t` that the elapsed count takes from now on (R76, R434). -/
def State.reached (s : State) (t : Nat) : Nat :=
  let d := t - s.elapsed
  s.elapsed + if timingRef s then d else (d + 39) / 40 * 40

/-- The machine moved on to the moment at which the elapsed count has reached `t`, where that lies ahead. -/
def State.passTo (s : State) (t : Nat) : State := s.pass (s.reached t - s.elapsed - if timingRef s then 0 else s.tickRest)

/-- The time from now until the chronometer has reached `t`, from `d` ns on; each round adds what is still lacking, which a slew makes
1,000 times smaller. -/
def waitChrono (s : State) (t : Nat) : Nat → Nat → Nat
  | 0, d => d
  | k + 1, d => let x := (chronoRun s d).2.2; if x < t then waitChrono s t k (d + (t - x)) else d

/-- The machine moved on to the moment at which the chronometer has reached `t` (R74, R392). -/
def State.passChrono (s : State) (t : Nat) : State :=
  if t ≤ s.chrono then s.pass 0 else s.pass (waitChrono s t 8 (t - s.chrono + s.hold - s.slew.toNat))

/-- The elapsed count at which timer `k` of period `p` runs next: now, where its moment has come and it has not run, else at the next
multiple of the period (R76). -/
def nextRun (s : State) (k p : Nat) : Nat :=
  if s.elapsed % p = 0 && decide (kvGet (fun _ => 0) s.timers k < s.elapsed) then s.elapsed else (s.elapsed / p + 1) * p

/-- The machine moved on to the next run of timer `k` of period `p`. -/
def State.runTimer (s : State) (k p : Nat) : State :=
  let t := nextRun s k p
  let s := s.passTo t
  { s with timers := kvSet (fun _ => 0) s.timers k t }

end Sys2Proof.Machine
end

