-- ==== Sys2Proof/Machine/Sensor.lean ====
section
/-! DEFINITION. Line sensors and their lanes (spec/04_sensor_heads.md): the templates' checks, line starts, line events, packets,
the closing and delivery of lines, and lane training. -/

namespace Sys2Proof.Machine

/-- Whether lane `l` is UP. -/
def laneUp (s : State) (l : Nat) : Bool := s.rd SNS_LANE_STAT_STATE l == 4

/-! ### Templates (R80 to R89) -/

/-- The entries of channel `c`'s event list before its END (R87); END and the entries behind it are not examined, whatever their ANCHOR
(notes/assumptions/92.md). -/
def evtList (s : State) (c : Nat) : List Nat :=
  ((List.range 64).map fun e => (s.get (SNS_TPL_EVT.off c e)).toNat).takeWhile fun w => bitsOf w 28 4 != 15

/-- Whether the slots used rise and lie within the pixel period (R84). -/
def slotsOk (pixper : Nat) : Option Nat → List Nat → Bool
  | _, [] => true
  | prev, o :: t => prev.all (fun p => decide (p < o)) && decide (o < pixper) && slotsOk pixper (some o) t

/-- Whether channel `c`'s template is invalid (R84, R85, the template registers). -/
def tplBad (s : State) (c : Nat) : Bool :=
  let pixper := s.rd SNS_TPL_CFG_PIXPER c
  let outs := 2 ^ s.rd SNS_TPL_CFG_OUTPUTS c
  decide (pixper < 8) || s.rd SNS_TPL_CFG_PACK c == 3 || decide (4 < s.rd SNS_TPL_CFG_OUTPUTS c)
    || decide (11 * pixper < (s.rd SNS_TPL_CFG_COLOURS c + 1) * outs * 10)
    || (s.rd SNS_TPL_PIXELS_PIXELS c + 1) % outs != 0
    || s.rd SNS_TPL_LEN_ANCHOR c == 3
    || !slotsOk pixper none ((List.range (s.rd SNS_TPL_CFG_SLOTS c + 1)).map fun k => s.rd SNS_TPL_PIX_OFFSET c k)
    || (evtList s c).any fun w =>
        bitsOf w 28 4 == 7 || (decide (10 ≤ bitsOf w 28 4) && decide (bitsOf w 28 4 ≤ 14)) || bitsOf w 24 2 == 3

/-- The line source in force of channel `c` (R81). -/
def lineSource (s : State) (c : Nat) : Nat :=
  let l := s.rd SNS_CH_CFG_LSRC c
  if l == 3 || (l == 1 && decide (4 ≤ c)) then 0 else l

/-- Whether a channel below `c` with EN set is bound to `c`'s lane and head (R80), be it kept off by its own template or not
(notes/assumptions/92.md). -/
def bindTaken (s : State) (c : Nat) : Bool :=
  (List.range c).any fun d => s.flag SNS_CH_CFG_EN d && s.rd SNS_CH_MAP_LANE d == s.rd SNS_CH_MAP_LANE c
    && s.rd SNS_CH_MAP_HEAD d == s.rd SNS_CH_MAP_HEAD c

/-! ### Closing and delivery (R99 to R101) -/

/-- What a sub-line becomes at closing (R100): its samples and its CRC, SHORT, LONG, MISSING bits. A fill sample stands 65,536
above its value. Data exceed PIXELS where a data block stands behind those that PIXELS samples fill (notes/assumptions/93.md). -/
def closeSub (fill pix pack : Nat) (rep : Bool) : Option Packet → List Nat × Nat
  | none => (List.replicate pix (65536 + fill), 8)
  | some p =>
    if p.pack != pack then (List.replicate pix (65536 + fill), 1)
    else
      let n := min (min p.count p.samples.length) pix
      let crc := if !p.crcOk || rep then 1 else 0
      let long := if pix < p.count || (pix * packWidth pack + 63) / 64 < p.blocks then 4 else 0
      let short := if n < pix then 2 else 0
      ((p.samples.take n).map (· % 2 ^ packWidth pack) ++ List.replicate (pix - n) (65536 + fill), crc + short + long)

/-- The number of sub-lines a line of channel `c` expects (R99). -/
def subCount (s : State) (c : Nat) : Nat := (s.rd SNS_TPL_CFG_COLOURS c + 1) * (s.rd SNS_TPL_CFG_HDR c + 1)

/-- The line that an outstanding line becomes at its closing (R100, R101). Its number differing from the last one's successor is GAP,
behind it too (notes/assumptions/92.md). -/
def closedLine (s : State) (c : Nat) (o : OLine) : Line :=
  let hdr := s.flag SNS_TPL_CFG_HDR c
  let pix := s.rd SNS_TPL_PIXELS_PIXELS c + 1
  let keys := List.range (subCount s c)
  let subs := keys.map fun k =>
    closeSub (s.rd SNS_TPL_PIXELS_FILL c) pix (s.rd SNS_TPL_CFG_PACK c) (bit o.repeated k) ((o.subs.find? fun a => a.1 == k).map fun a => a.2)
  let b (x : Bool) (k : Nat) : Nat := if x then 2 ^ k else 0
  let marks := keys.zip (subs.map fun a => a.2)
  let long := forEach marks 0 fun acc a =>
    if a.2 != 0 && (!hdr || a.1 % 2 == 0) then acc ||| 2 ^ (if hdr then a.1 / 2 else a.1) else acc
  let short := forEach marks 0 fun acc a => if a.2 != 0 && hdr && a.1 % 2 == 1 then acc ||| 2 ^ (a.1 / 2) else acc
  let miss := forEach marks 0 fun acc a => if bit a.2 3 then acc ||| 2 ^ a.1 else acc
  let flags := forEach subs 0 fun acc a => acc ||| a.2
  let gap := o.gap || (o.kind == 0 && ((s.chan c).lastDel).any fun p => (p + 1) % 2 ^ 32 != o.num)
  { kind := o.kind, idx := o.idx, num := o.num, epoch := o.epoch, logN := o.logN, logV := o.logV, chrono := o.chrono,
    status := flags + b gap 4 + b o.late 5 + b o.lock 6 + b o.tag 7 + long * 256, submask := short, missing := miss, pack := s.rd SNS_TPL_CFG_PACK c,
    subs := subs.map fun a => a.1, expL := o.expL, expS := o.expS, seam := o.seam }

/-- The oldest outstanding line closed and delivered, with its counters and events (R99 to R101, R106). -/
def closeOldest (s : State) (c : Nat) : State :=
  match (s.chan c).outst with
  | [] => s
  | o :: rest =>
    let l := closedLine s c o
    let s := s.updChan c fun x => { x with outst := rest, lastDel := if o.kind == 0 then some o.num else x.lastDel }
    let s := s.wr SNS_CH_STAT_OUTST rest.length c
    let s := if bit l.status 0 then raise (s.sat SNS_CH_ERR_CRC 1 c) (32 + 4 * c) else s
    let s := if bit l.status 3 then s.sat SNS_CH_ERR_MISSING 1 c else s
    let s := if bit l.status 1 then s.sat SNS_CH_SIZE_SHORT 1 c else s
    let s := if bit l.status 2 then s.sat SNS_CH_SIZE_LONG 1 c else s
    let s := raiseIf s (l.status &&& 14 != 0) (33 + 4 * c)
    deliverLine s c l

/-- Every outstanding line closed and delivered (R99). -/
def closeAll (s : State) (c : Nat) : State :=
  forEach (s.chan c).outst s fun s _ => closeOldest s c

/-! ### Line starts (R82, R83, R86, R88, R93, R99) -/

/-- The exposures held at line start `n` (R111): those of the newest start numbered `n` or below; (0, 0) where there is none. -/
def expsAt (l : List (Nat × Nat × Nat)) (n : Nat) : Nat × Nat :=
  match l.find? fun e => decide ((n + 2 ^ 32 - e.1) % 2 ^ 32 < 2 ^ 31) with
  | some e => e.2
  | none => (0, 0)

/-- An exposure at line start `n`: the register's value, or the one in force while it is held for a later start (R88, R367). -/
def takeExp (reg force n : Nat) : Option Nat → Nat × Option Nat
  | none => (reg, none)
  | some e => if (n + 2 ^ 32 - e) % 2 ^ 32 < 2 ^ 31 then (reg, none) else (force, some e)

/-- The Log number that stamps channel `c`'s lines (R75): its own Log with LSRC 1; with LSRC 2 the lowest Log fed by its axis, and a
free value where there is none (notes/assumptions/21.md). -/
def stampLog (s : State) (c : Nat) : Nat :=
  if lineSource s c == 1 then s.rd SNS_CH_CFG_SEL c
  else match (List.range 4).find? fun n => s.rd LOG_CFG_SRC n == 3 + s.rd SNS_CH_CFG_SEL c with
    | some n => n
    | none => s.free 2

/-- The value of Log `n`. -/
def logValue (s : State) (n : Nat) : Nat := s.rd2 LOG_VALUE_LO_VALUE LOG_VALUE_HI_VALUE n

/-- An edge applied late (R92, R106): counted on the lane, its line, the channel's newest, marked and the event raised. -/
def edgeLate (s : State) (c : Nat) : State :=
  let s := s.sat SNS_LANE_ERR_LATE 1 (s.rd SNS_CH_MAP_LANE c)
  let fresh := ((s.chan c).outst.getLast?).any fun o => !o.late
  let s := s.updChan c fun x => { x with outst := x.outst.dropLast ++ (x.outst.getLast?.map fun o => { o with late := true }).toList }
  raiseIf s fresh (34 + 4 * c)

/-- An edge of channel `c` sent to apply in slot `want` of its lane, or late (R91, R92). -/
def chEdge (s : State) (c sig level want : Nat) : State :=
  let x := laneEdgeSend s (s.rd SNS_CH_MAP_LANE c) (s.rd SNS_CH_MAP_HEAD c) sig level want
  if x.2 = 0 then x.1 else edgeLate x.1 c

/-- An anchor in pixel clocks from the line start (R86). -/
def anchorClk (s : State) (c el es a : Nat) : Nat :=
  if a = 1 then el else if a = 2 then el + (if s.flag SNS_TPL_CFG_HDR c then es else 0) else 0

/-- An event put behind those whose effective time is not later. -/
def insertEvt (x : Nat × Nat × Nat) : List (Nat × Nat × Nat) → List (Nat × Nat × Nat)
  | [] => [x]
  | y :: t => if x.1 < y.1 then x :: y :: t else y :: insertEvt x t

/-- The line events of a template whose LS applies in slot `ls`, in order of effective time and then of the list (R86, R87): of those on
one forwarded signal in one slot, the last in the list. -/
def evtSchedule (s : State) (c el es ls : Nat) : List (Nat × Nat × Nat) :=
  let all := (evtList s c).map fun w =>
    let eff := bitsOf w 0 24 + anchorClk s c el es (bitsOf w 24 2)
    (eff, ls + (eff * s.rd SNS_TPL_CFG_PIXPER c + 7) / 8, w)
  let sent := (List.range all.length).filterMap fun k =>
    (all[k]?).filter fun x => !(decide (1 ≤ bitsOf x.2.2 28 4) && decide (bitsOf x.2.2 28 4 ≤ 6)
      && (all.drop (k + 1)).any fun y => y.2.1 == x.2.1 && bitsOf y.2.2 28 4 == bitsOf x.2.2 28 4)
  sent.foldl (fun l x => insertEvt x l) []

/-- A line start taken: exposures, template, LS edge and TAG, an outstanding line (R86, R88, R91, R93, R99). `kind` and `idx` as in
`OLine`; `seam` marks the first new line of a stitch. The LS edge applies 15 slots, 120 ns, after the action (R91). -/
def takeLine (s : State) (c kind idx num : Nat) (seam : Bool) : State :=
  let x := s.chan c
  let (el, hl) := takeExp (s.rd SNS_EXP_LONG_EXP c) x.forceL num x.holdL
  let (es, hs) := takeExp (s.rd SNS_EXP_SHORT_EXP c) x.forceS num x.holdS
  let dly := s.rd SNS_TPL_CFG_DLY c + 1
  let exps := if kind == 0 then ((num, el, es) :: x.exps).take 8 else x.exps
  let ex := expsAt exps ((num + 2 ^ 32 - dly) % 2 ^ 32)
  let log := stampLog s c
  let logV := logValue s log
  let ls := slotAt s.elapsed + 15
  let ends := s.rd SNS_TPL_LEN_LEN c + anchorClk s c el es (s.rd SNS_TPL_LEN_ANCHOR c)
  let s := if lineSource s c == 1 then s else s.used
  let s := if decide (4 ≤ x.outst.length) then closeOldest s c else s
  let o : OLine := { kind := kind, idx := idx, num := num, epoch := x.epoch, logN := log, logV := logV, chrono := s.chrono, expL := ex.1, expS := ex.2,
                     gap := kind == 0 && x.gap, lock := x.lock, seam := seam }
  let s := s.updChan c fun x =>
    { x with busy := true, outst := x.outst ++ [o], exps := exps, forceL := el, forceS := es, holdL := hl, holdS := hs,
             gap := x.gap && kind != 0, lock := x.lock && kind != 0, seam := x.seam && kind != 0,
             last := if kind == 0 then some num else x.last, next := if kind == 0 then (num + 1) % 2 ^ 32 else x.next,
             sched := evtSchedule s c el es ls, endClk := ends, endAt := s.elapsed + ends * s.rd SNS_TPL_CFG_PIXPER c }
  let s := (s.wr SNS_CH_STAT_BUSY 1 c).wr SNS_CH_STAT_OUTST (s.chan c).outst.length c
  let s := sendFrame (chEdge s c 0 1 ls) (s.rd SNS_CH_MAP_LANE c) (s.rd SNS_CH_MAP_HEAD c) 4 [log, logV]
  let s := peLine (inlineStart s c) c
  if kind == 0 then
    forEach (List.range 4) s fun s a =>
      if s.rd AXS_PACE_STAT_STATE a != 0 && paceAxis s c == some a then paceSync (s.updPaceSt a fun p => { p with nStart := num }) a else s
  else s

/-- A line start offered to channel `c` (R83): refused as LOST or OVERRUN, or taken. -/
def lineStart (s : State) (c kind idx num : Nat) (seam : Bool) : State :=
  let miss (s : State) := if kind == 0 then s.updChan c fun x => { x with gap := true, seam := x.seam || seam } else s
  if !(s.chan c).on then s
  else if !laneUp s (s.rd SNS_CH_MAP_LANE c) || !s.loaded 1 || s.quiescing 1 then miss (s.sat SNS_CH_LOST_LOST 1 c)
  else if (s.chan c).busy then raise (miss (s.sat SNS_CH_LOST_OVERRUN 1 c)) (34 + 4 * c)
  else takeLine s c kind idx num (seam || (kind == 0 && (s.chan c).seam))

/-- The line issued by the generator of Log `n` (R81, R82). -/
def logLine (s : State) (n num : Nat) : State :=
  forEach (List.range 12) s fun s c =>
    if lineSource s c == 1 && s.rd SNS_CH_CFG_SEL c == n then lineStart s c 0 0 num false else s

/-- The start that a completed step queues: numbered, priming or check with its place, and whether it is the first new line. -/
def stepCode (kind idx : Nat) (seam : Bool) : Nat := kind + 4 * idx + (if seam then 1024 else 0)

/-- A queued line start of an axis-paced channel comes (R82, R197). -/
def settleStart (s : State) (c : Nat) : State :=
  match (s.chan c).settle with
  | [] => s
  | k :: rest =>
    let s := s.updChan c fun x => { x with settle := rest }
    lineStart s c (k % 4) (k / 4 % 256) (s.chan c).next (decide (1024 ≤ k))

/-- A line step, priming start or check start of axis `a` reaches its channels: at once with SETTLE 0, else after it (R82). -/
def axisLine (s : State) (a kind idx : Nat) (seam : Bool) : State :=
  forEach (List.range 12) s fun s c =>
    if lineSource s c == 2 && s.rd SNS_CH_CFG_SEL c == a && (s.chan c).on then
      let s := s.updChan c fun x => { x with settle := x.settle ++ [stepCode kind idx seam] }
      if s.rd SNS_CH_CFG_SETTLE c == 0 then settleStart s c else s
    else s

/-- A line event whose edge belongs into slot `want` takes effect: an edge on a forwarded signal, or, at its effective time, a window
opened or closed (R87, R89, R92). SIG 0 plays with no effect (notes/assumptions/92.md). -/
def playEvent (s : State) (c want w : Nat) : State :=
  let sig := bitsOf w 28 4
  let level := bitsOf w 27 1
  if decide (1 ≤ sig) && decide (sig ≤ 6) then chEdge s c sig level want
  else if sig == 8 then
    let sub := bitsOf w 26 1
    let s := s.passTo (eventAt want)
    let was := bit (s.chan c).winOpen sub
    let s := s.updChan c fun x => { x with winOpen := setBits x.winOpen sub 1 level }
    if level == 1 && !was then sinkWindow s c sub else s
  else if sig == 9 then
    let s := s.passTo (eventAt want)
    s.updChan c fun x => { x with blank := level == 1, blankAt := if level == 1 && !x.blank then s.elapsed else x.blankAt }
  else s

/-- The next line event of the template that runs takes effect (R87). -/
def lineEvent (s : State) (c : Nat) : State :=
  match (s.chan c).sched with
  | [] => s
  | (_, want, w) :: t => playEvent (s.updChan c fun x => { x with sched := t }) c want w

/-- The template of channel `c` ends (R86, R89): events with an effective time up to its end have played, and its windows close. -/
def templateEnds (s : State) (c : Nat) : State :=
  if (s.chan c).busy then
    let due := (s.chan c).sched.filter fun x => decide (x.1 ≤ (s.chan c).endClk)
    let s := (forEach due s fun s _ => lineEvent s c).passTo (s.chan c).endAt
    (s.updChan c fun x =>
      { x with busy := false, winOpen := 0, blank := false, sched := [],
               outst := x.outst.dropLast ++ (x.outst.getLast?.map fun o => { o with ended := true }).toList }).wr SNS_CH_STAT_BUSY 0 c
  else s

/-! ### Enabling (R80, R82, R93, R99) -/

/-- The PATTERN frame of channel `c` (R93). -/
def sendPattern (s : State) (c : Nat) : State :=
  let n := s.rd SNS_TPL_CFG_SLOTS c
  sendFrame s (s.rd SNS_CH_MAP_LANE c) (s.rd SNS_CH_MAP_HEAD c) 1
    (s.rd SNS_TPL_CFG_PIXPER c :: n :: (List.range (n + 1)).flatMap fun k => [s.rd SNS_TPL_PIX_OFFSET c k, s.rd SNS_TPL_PIX_PHASES c k])

/-- A new run of channel `c` (R130, R150). -/
def newRun (s : State) (c : Nat) : State :=
  (renumberPend s c).updChan c fun x => { x with epoch := x.epoch + 1, last := none }

/-- Channel `c` enabled: a new run, numbered from 0, with no line outstanding (R82, R93); what waits for its lines counts them from there
(R130, R367). -/
def channelOn (s : State) (c : Nat) : State :=
  let x := s.chan c
  let el := if x.holdL.isSome then x.forceL else s.rd SNS_EXP_LONG_EXP c
  let es := if x.holdS.isSome then x.forceS else s.rd SNS_EXP_SHORT_EXP c
  sendPattern ((newRun s c).setChan c
    { landed := x.landed, inl := x.inl, slot := x.slot, dropped := x.dropped, high := x.high, on := true, epoch := x.epoch + 1,
      forceL := el, forceS := es, holdL := x.holdL, holdS := x.holdS }) c

/-- Channel `c` disabled: its outstanding lines close and are delivered, its views end their packets (R99, R145). -/
def channelOff (s : State) (c : Nat) : State :=
  let s := closeAll s c
  let s := s.updChan c fun x => { x with on := false, busy := false, winOpen := 0, blank := false, settle := [], sched := [] }
  viewsFinishCh ((s.wr SNS_CH_STAT_BUSY 0 c).wr SNS_CH_STAT_OUTST 0 c) c

/-- Every channel brought up to date with its configuration (R80, R81, R84, R85): CFG_ERR, enabling and disabling; a running channel
whose binding a lower one takes is disabled as by EN (notes/assumptions/92.md). -/
def chRefresh (s : State) : State :=
  forEach (List.range 12) s fun s c =>
    let en := s.flag SNS_CH_CFG_EN c
    let bad := tplBad s c || (en && bindTaken s c)
    let err := bad || (s.rd SNS_CH_CFG_LSRC c == 1 && decide (4 ≤ c))
    let s := s.wr SNS_CH_STAT_CFG_ERR (if err then 1 else 0) c
    let on := en && !bad
    if on && !(s.chan c).on then channelOn s c
    else if !on && (s.chan c).on then channelOff s c
    else s

/-! ### Packets (R94 to R100) -/

/-- The enabled channel bound to a head of a lane (R98). -/
def boundCh (s : State) (l h : Nat) : Option Nat :=
  (List.range 12).find? fun c => (s.chan c).on && s.rd SNS_CH_MAP_LANE c == l && s.rd SNS_CH_MAP_HEAD c == h

/-- A status packet completes the pending READ of its head and address (R98). -/
def statusPacket (s : State) (l : Nat) (p : Packet) : State :=
  if (s.laneSt l).reading == some (p.head, p.regAddr) then
    let s := s.updLaneSt l fun x => { x with reading := none }
    ((s.wr SNS_HDATA_DATA p.regData l).wr SNS_HDATA_DONE 1 l).wr SNS_HDATA_TMO 0 l
  else s

/-- The place among a channel's outstanding lines that a packet's stamp matches (R98). -/
def matchLine (os : List OLine) (p : Packet) : Option Nat :=
  if p.stamp == 2 ^ 48 - 1 then (if os == [] then none else some 0)
  else os.findIdx? fun o => o.logN == p.stampLog && o.logV == p.stamp

/-- A sub-line received for the oldest outstanding line of channel `c` (R99). A sub-line that the template does not expect is not
kept (notes/assumptions/22.md). -/
def takeSub (s : State) (c : Nat) (p : Packet) : State :=
  let hdr := s.flag SNS_TPL_CFG_HDR c
  let k := if hdr then 2 * p.colour + (if p.short then 1 else 0) else p.colour
  let ok := decide (p.colour ≤ s.rd SNS_TPL_CFG_COLOURS c) && (hdr || !p.short)
  let tag := p.stamp == 2 ^ 48 - 1
  let s := s.updChan c fun x => { x with outst := match x.outst with
    | [] => []
    | o :: t =>
      let o := { o with tag := o.tag || tag }
      if !ok then o :: t
      else
        let rep := o.subs.any fun a => a.1 == k
        { o with subs := (o.subs.filter fun a => a.1 != k) ++ [(k, p)],
                 repeated := if rep then o.repeated ||| 2 ^ k else o.repeated } :: t }
  if ((s.chan c).outst.head?).any fun o => o.subs.length == subCount s c then closeOldest s c else s

/-- A packet arrives on lane `l` (R98, R99). One of a reserved type is dropped (notes/assumptions/93.md). -/
def packetArrives (s : State) (l : Nat) (p : Packet) : State :=
  if !p.hdrOk then s.sat SNS_LANE_ERR_HDR 1 l
  else match boundCh s l p.head with
    | none => s.sat SNS_LANE_ERR_UNMAPPED 1 l
    | some c =>
      if p.kind == 1 then statusPacket s l p
      else if p.kind != 0 then s
      else match matchLine (s.chan c).outst p with
        | none => s.sat SNS_LANE_ERR_HDR 1 l
        | some k => takeSub (forEach (List.range k) s fun s _ => closeOldest s c) c p

/-- The packet that is open on lane `l` ends: by an END block with its trailer, or cut as with a failed check (R94, R100). -/
def packetEnds (s : State) (l : Nat) (trailer : List Nat) (ended : Bool) : State :=
  match (s.laneSt l).rx with
  | none => s
  | some b => packetArrives (s.updLaneSt l fun x => { x with rx := none }) l (parsePacket b trailer ended)

/-- The open packet of lane `l` cut (R100, R104). -/
def rxCut (s : State) (l : Nat) : State := packetEnds s l [] false

/-- A block arrives on lane `l` (R94, R100): START opens a packet, data continue it, END ends it; a START or an unknown type inside a
packet cuts it. IDLE, and data or END outside a packet, do nothing (notes/assumptions/93.md). -/
def blockArrives (s : State) (l : Nat) (b : UpBlock) : State :=
  match b with
  | .data d => s.updLaneSt l fun x => { x with rx := x.rx.map fun r => r ++ blockBytes 8 d.toNat }
  | .ctrl t d =>
    if t == 0x78#8 then (rxCut s l).updLaneSt l fun x => { x with rx := some (blockBytes 7 d.toNat) }
    else if t == 0xE1#8 then packetEnds s l (blockBytes 4 d.toNat) true
    else if t == 0x1E#8 then s
    else rxCut s l

/-- Blocks arrive on lane `l`. A lane that is not UP carries no data. -/
def blocksArrive (s : State) (l : Nat) (bs : List UpBlock) : State :=
  if !s.loaded 1 || !laneUp s l then s else forEach bs s fun s b => blockArrives s l b

/-! ### Lanes (R102 to R106) -/

/-- `SNS_LANE[c]` raised for every channel that `SNS_CH_MAP` puts on lane `l`, enabled or not (R80, R103, R104, R106). -/
def laneEvt (s : State) (l : Nat) : State :=
  forEach (List.range 12) s fun s c => raiseIf s (s.rd SNS_CH_MAP_LANE c == l) (35 + 4 * c)

/-- Lane `l` passes to training state `st`: leaving UP, and reaching UP or WEAK, are events (R106). -/
def laneSet (s : State) (l st : Nat) : State :=
  let old := s.rd SNS_LANE_STAT_STATE l
  let s := s.wr SNS_LANE_STAT_STATE st l
  if (old == 4 && st != 4) || ((st == 4 || st == 5) && st != old) then laneEvt s l else s

/-- A TRAIN frame to every head of lane `l` (R102). -/
def sendTrain (s : State) (l : Nat) : State :=
  forEach (List.range 4) s fun s h => sendFrame s l h 5 []

/-- Lane `l` has lost lock or retrains: its channels' outstanding lines, and their next one, carry LOCK (R100). -/
def markLock (s : State) (l : Nat) : State :=
  forEach (List.range 12) s fun s c =>
    if s.rd SNS_CH_MAP_LANE c == l then
      s.updChan c fun x => { x with lock := true, outst := x.outst.map fun o => { o with lock := true } }
    else s

/-- Training of lane `l` from CDR (R102), where its power domain is in use (R461). -/
def laneTrain (s : State) (l : Nat) : State :=
  let s := (rxCut s l).updLaneSt l fun x => { x with relock := false }
  if s.domain (5 + l) then sendTrain (laneSet s l 1) l else laneSet s l 0

/-- Lane `l` switched off (R102). -/
def laneOff (s : State) (l : Nat) : State :=
  let s := (if laneUp s l then rxCut (markLock s l) l else s).updLaneSt l fun x => { x with relock := false }
  laneSet s l 0

/-- A write to `SNS_LANE_CTRL[l]` that changes EN or sets RETRAIN (R102). -/
def laneCtrl (s : State) (l : Nat) (old new : Nat) : State :=
  if bit new 31 && !bit old 31 then laneTrain s l
  else if !bit new 31 && bit old 31 then laneOff s l
  else if bit new 31 && bit new 30 then laneTrain (markLock s l) l
  else s

/-- An eye scan of a training lane ends (R102, R103). -/
def eyescanDone (s : State) (l eye : Nat) : State :=
  if s.rd SNS_LANE_STAT_STATE l == 3 then
    let s := s.wr SNS_LANE_STAT_EYE eye l
    if s.rd SNS_LANE_CTRL_EYE_MIN l ≤ eye then laneSet (s.updLaneSt l fun x => { x with below := false }) l 4 else laneSet s l 5
  else s

/-- The scan repeated while UP (R103). -/
def eyeRescan (s : State) (l eye : Nat) : State :=
  if laneUp s l then
    let s := s.wr SNS_LANE_STAT_EYE eye l
    let below := decide (eye < s.rd SNS_LANE_CTRL_EYE_MIN l)
    let s := if below && !(s.laneSt l).below then laneEvt s l else s
    s.updLaneSt l fun x => { x with below := below }
  else s

/-- Loss of lock of lane `l` (R104): the packet that is open ends, the lane goes DOWN and tries to relock. -/
def lossOfLock (s : State) (l : Nat) : State :=
  if laneUp s l then
    let s := rxCut (markLock s l) l
    laneSet ((s.sat SNS_LANE_ERR_LOCKLOSS 1 l).updLaneSt l fun x => { x with relock := true }) l 0
  else s

/-! ### Head commands (R90, R93) -/

/-- A write to `SNS_HCMD[l]` (R90): 1 WRITE, 2 READ, 3 RESET_HEAD. A command drops the READ that waits (notes/assumptions/92.md). -/
def headCmd (s : State) (l op h addr : Nat) : State :=
  match op with
  | 1 =>
    let s := s.updLaneSt l fun x => { x with reading := none }
    ((sendFrame s l h 2 [addr, s.rd SNS_HDATA_DATA l]).wr SNS_HDATA_DONE 1 l).wr SNS_HDATA_TMO 0 l
  | 2 =>
    let s := s.updLaneSt l fun x => { x with reading := some (h, addr) }
    ((sendFrame s l h 3 [addr]).wr SNS_HDATA_DONE 0 l).wr SNS_HDATA_TMO 0 l
  | 3 =>
    let s := s.updLaneSt l fun x => { x with reading := none }
    ((sendFrame s l h 6 []).wr SNS_HDATA_DONE 1 l).wr SNS_HDATA_TMO 0 l
  | _ => s

/-- The status packet of a READ did not come (R98). -/
def headTimeout (s : State) (l : Nat) : State :=
  if (s.laneSt l).reading.isSome then (s.updLaneSt l fun x => { x with reading := none }).wr SNS_HDATA_TMO 1 l else s

/-! ### The rows of the table -/

/-- `SETTLE_LINE_START` (R82). -/
def execSettleLineStart (c : Fin 12) (s : State) : Host.Outcome State Fault Refusal := done (peFlush (settleStart s c))

/-- `LINE_EVENT_EDGE` (R87): the next line event of the template that runs. -/
def execLineEventEdge (c : Fin 12) (s : State) : Host.Outcome State Fault Refusal := done (lineEvent s c)

/-- `TEMPLATE_END` (R86). -/
def execTemplateEnd (c : Fin 12) (s : State) : Host.Outcome State Fault Refusal := done (templateEnds s c)

/-- `HEAD_READ_TIMEOUT` (R98). -/
def execHeadReadTimeout (l : Fin 8) (s : State) : Host.Outcome State Fault Refusal := done (headTimeout s l)

/-- `UPSTREAM_PACKET` (R98): the blocks of a packet, from its START to its END. -/
def execUpstreamPacket (l : Fin 8) (blocks : List UpBlock) (s : State) : Host.Outcome State Fault Refusal := done (blocksArrive s l blocks)

/-- `UPSTREAM_PACKET_CUT` (R100): the blocks of a packet up to the START or the unknown block that cuts it. -/
def execUpstreamPacketCut (l : Fin 8) (blocks : List UpBlock) (s : State) : Host.Outcome State Fault Refusal := done (blocksArrive s l blocks)

/-- `LINE_CLOSE_TIMEOUT` (R99): the oldest outstanding line whose template has ended closes. -/
def execLineCloseTimeout (c : Fin 12) (s : State) : Host.Outcome State Fault Refusal :=
  done (if ((s.chan c).outst.head?).any fun o => o.ended then closeOldest s c else s)

/-- `LANE_CDR_LOCK` (R102). -/
def execLaneCdrLock (l : Fin 8) (s : State) : Host.Outcome State Fault Refusal :=
  done (if s.rd SNS_LANE_STAT_STATE l == 1 then laneSet s l 2 else s)

/-- `LANE_BLOCK_LOCK` (R102). -/
def execLaneBlockLock (l : Fin 8) (s : State) : Host.Outcome State Fault Refusal :=
  done (if s.rd SNS_LANE_STAT_STATE l == 2 then laneSet s l 3 else s)

/-- `LANE_EYESCAN_DONE` (R102). -/
def execLaneEyescanDone (l : Fin 8) (eye : Fin 65) (s : State) : Host.Outcome State Fault Refusal := done (eyescanDone s l eye)

/-- `LANE_WEAK_RETRY` (R102). -/
def execLaneWeakRetry (l : Fin 8) (s : State) : Host.Outcome State Fault Refusal :=
  done (if s.rd SNS_LANE_STAT_STATE l == 5 then laneTrain s l else s)

/-- `LANE_EYE_RESCAN` (R103). -/
def execLaneEyeRescan (l : Fin 8) (eye : Fin 65) (s : State) : Host.Outcome State Fault Refusal := done (eyeRescan s l eye)

/-- `LANE_LOSS_OF_LOCK` (R104). -/
def execLaneLossOfLock (l : Fin 8) (s : State) : Host.Outcome State Fault Refusal := done (lossOfLock s l)

/-- `LANE_RELOCK` (R105). -/
def execLaneRelock (l : Fin 8) (s : State) : Host.Outcome State Fault Refusal :=
  done (if (s.laneSt l).relock && s.powered (5 + l) then laneSet (s.updLaneSt l fun x => { x with relock := false, below := false }) l 4 else s)

/-- `LANE_RELOCK_TIMEOUT` (R105). -/
def execLaneRelockTimeout (l : Fin 8) (s : State) : Host.Outcome State Fault Refusal :=
  done (if (s.laneSt l).relock then laneTrain s l else s)

end Sys2Proof.Machine
end

