-- ==== Sys2Proof/Machine/Log.lean ====
section
/-! DEFINITION. The Logs (spec/03_log.md): the crossing position, jumps, the line generators, the waypoints' positions and modes,
and the chronometer's setting. The evaluation cycle that issues lines and fires waypoints stands in
Sys2Proof/Machine/Cycle.lean. -/

namespace Sys2Proof.Machine

/-- The modulus of a Log. -/
def logMod : Nat := 2 ^ 48

/-- The forward distance from `a` to `b` on a Log. -/
def ahead (a b : Nat) : Nat := (b % logMod + logMod - a % logMod) % logMod

/-- Whether `b` lies ahead of `a`, and less than half a turn away: a move of 2^47 ticks or more counts as backward
(notes/assumptions/94.md). -/
def isAhead (a b : Nat) : Bool := decide (0 < ahead a b) && decide (ahead a b < 2 ^ 47)

/-- Log `n` set to a value. -/
def setLogValue (s : State) (n v : Nat) : State := s.wr2 LOG_VALUE_LO_VALUE LOG_VALUE_HI_VALUE (v % logMod) n

/-- Whether a SRC value counts (R54, R468). -/
def srcCounts (src : Nat) : Bool := decide (1 ≤ src) && decide (src ≤ 8)

/-! ### Waypoint positions (R68, R69) -/

/-- The position in force of waypoint `i`. -/
def wpPos (s : State) (i : Nat) : Nat := s.rd2 LOG_WP_POS_LO_POS LOG_WP_POS_HI_POS i

/-- The position of waypoint `i` set. -/
def setWpPos (s : State) (i v : Nat) : State := s.wr2 LOG_WP_POS_LO_POS LOG_WP_POS_HI_POS (v % logMod) i

/-- PERIOD of waypoint `i`, 0 acting as 65,536. -/
def wpPeriod (s : State) (i : Nat) : Nat := let p := s.rd LOG_WP_CTRL_PERIOD i; if p = 0 then 65536 else p

/-- The held low word of waypoint `i`'s position (R69). -/
def wpHold (s : State) (i v : Nat) : State := { s with wpLo := kvSet (fun _ => 0) s.wpLo i v }

/-- The held position takes effect with the write of its high word (R69). -/
def wpApply (s : State) (i hi : Nat) : State := setWpPos s i (kvGet (fun _ => 0) s.wpLo i + 2 ^ 32 * (hi % 2 ^ 16))

/-- A write of `LOG_WP_CTRL[i]` (R69): the mode it names decides ARMED. -/
def wpCtrl (s : State) (i v : Nat) : State :=
  let m := v % 8
  s.set (LOG_WP_CTRL.off i 0) (BitVec.ofNat 32 (setBits v 3 1 (if 1 ≤ m ∧ m ≤ 4 then 1 else 0)) &&& 0xFFFFFF3F#32)

/-! ### The line generator (R63 to R67) -/

/-- The pitch of Log `n`'s registers: INT, NUM and DEN (R63). -/
def pitchRegs (s : State) (n : Nat) : Nat × Nat × Nat :=
  let d := s.rd LOG_LG_PITCH_FRAC_DEN n
  (s.rd LOG_LG_PITCH_INT_INT n, s.rd LOG_LG_PITCH_FRAC_NUM n, if d = 0 then 65536 else d)

/-- Whether a pitch is valid (R64). -/
def pitchOk (p : Nat × Nat × Nat) : Bool := decide (0 < p.1) && decide (p.2.1 < p.2.2)

/-- The first line at a pitch whose position lies ahead of a distance `d` from the origin (R65): its number, the integer part of
its position from the origin, and its remainder. -/
def firstAhead (p : Nat × Nat × Nat) (d : Nat) : Nat × Nat × Nat :=
  let unit := p.1 * p.2.2 + p.2.1
  let k := ((d + 1) * p.2.2 + unit - 1) / unit
  (k, k * unit / p.2.2, k * unit % p.2.2)

/-- The pitch pair last applied to Log `n` (R66). -/
def pitchOf (g : LogSt) : Nat × Nat × Nat := g.pend.getD (g.int, g.num, g.den)

/-- The generator of Log `n` started (R64, R65). -/
def genStart (s : State) (n : Nat) : State :=
  let p := pitchOf (s.log n)
  if !pitchOk p then (s.wr LOG_STAT_CFG_ERR 1 n).wr LOG_STAT_GEN_RUN 0 n
  else
    let origin := s.rd2 LOG_LG_ORIGIN_LO_ORIGIN LOG_LG_ORIGIN_HI_ORIGIN n
    let c := (s.log n).c
    let f := if isAhead c origin then (0, 0, 0) else firstAhead p (ahead origin c)
    let s := s.updLog n fun g =>
      { g with genOn := true, pos := (origin + f.2.1) % logMod, rem := f.2.2, k := f.1 % 2 ^ 32, int := p.1, num := p.2.1, den := p.2.2,
               pend := none }
    (s.wr LOG_STAT_CFG_ERR 0 n).wr LOG_STAT_GEN_RUN 1 n

/-- The generator of Log `n` stopped. -/
def genStop (s : State) (n : Nat) : State :=
  (s.updLog n fun g =>
    let p := pitchOf g
    { g with genOn := false, int := p.1, num := p.2.1, den := p.2.2, pend := none }).wr LOG_STAT_GEN_RUN 0 n

/-- A write of `LOG_LG_CTRL[n]` (R65): RUN set starts the generator, RUN cleared stops it. -/
def genCtrl (s : State) (n v : Nat) : State :=
  let was := s.flag LOG_LG_CTRL_RUN n
  let s := (s.wr LOG_LG_CTRL_RUN (bitsOf v 16 1) n).wr LOG_LG_CTRL_MINPER (v % 2 ^ 16) n
  if bit v 16 then (if was then s else genStart s n) else genStop s n

/-- A write of `LOG_LG_PITCH_FRAC[n]` (R64, R66): the pitch pair takes effect. -/
def pitchWrite (s : State) (n : Nat) (v : Word) : State :=
  let s := s.set (LOG_LG_PITCH_FRAC.off n 0) v
  let p := pitchRegs s n
  let s := s.updLog n fun g => { g with pend := some p }
  if !pitchOk p then (genStop s n).wr LOG_STAT_CFG_ERR 1 n
  else if (s.log n).genOn then s
  else if s.flag LOG_LG_CTRL_RUN n && s.flag LOG_STAT_CFG_ERR n then genStart s n
  else s.wr LOG_STAT_CFG_ERR 0 n

/-- The accumulator stepped past a line that was not issued (R63). -/
def genSkip (g : LogSt) : LogSt :=
  let rem := g.rem + g.num
  let c := if g.den ≤ rem then 1 else 0
  { g with k := (g.k + 1) % 2 ^ 32, pos := (g.pos + g.int + c) % logMod, rem := rem - c * g.den }

/-- The accumulator stepped past an issued line; a waiting pitch takes over from its position (R63, R66). -/
def genStep (g : LogSt) : LogSt :=
  match g.pend with
  | none => genSkip g
  | some p =>
    { g with k := (g.k + 1) % 2 ^ 32, pos := (g.pos + p.1) % logMod, rem := p.2.1, int := p.1, num := p.2.1, den := p.2.2, pend := none }

/-- The line positions that a forward jump over `(old, new]` consumes: how many, and the generator past them (R60). -/
def genJump (g : LogSt) (old new : Nat) : Nat × LogSt :=
  if !g.genOn || ahead old g.pos == 0 || decide (ahead old new < ahead old g.pos) then (0, g)
  else
    let unit := g.int * g.den + g.num
    let count := (ahead g.pos new * g.den + g.den - 1 - g.rem) / unit + 1
    let total := g.rem + count * unit
    (count, { g with k := (g.k + count) % 2 ^ 32, pos := (g.pos + total / g.den) % logMod, rem := total % g.den })

/-! ### Jumps (R60 to R62) -/

/-- Whether waypoint `i` is missed by a forward jump of Log `n` over `(old, new]` (R60). -/
def wpMissed (s : State) (n i old new : Nat) : Bool :=
  let m := s.rd LOG_WP_CTRL_MODE i
  s.rd LOG_WP_CTRL_LOG i == n && s.flag LOG_WP_CTRL_ARMED i && (m == 1 || m == 2 || m == 4)
    && decide (0 < ahead old (wpPos s i)) && decide (ahead old (wpPos s i) ≤ ahead old new)

/-- A missed waypoint disarmed or advanced (R60). -/
def wpPass (s : State) (i new : Nat) : State :=
  match s.rd LOG_WP_CTRL_MODE i with
  | 1 => s.wr LOG_WP_CTRL_ARMED 0 i
  | 2 =>
    let p := wpPeriod s i
    setWpPos s i (wpPos s i + p * (ahead (wpPos s i) new / p + 1))
  | _ => s

/-- What a jump of Log `n` from C `old` to C `new` does to its waypoints and its generator (R60). -/
def jumpOver (s : State) (n old new : Nat) : State :=
  if !isAhead old new then s
  else
    let missed := (List.range 128).filter fun i => wpMissed s n i old new
    let s := forEach missed s fun s i => wpPass s i new
    let s := s.sat LOG_WP_CNT_MISSED missed.length
    let s := raiseIf s (missed != []) 29
    let (k, g) := genJump (s.log n) old new
    let s := s.setLog n g
    raiseIf (s.sat LOG_LG_SKIP_SKIP k n) (k != 0) (16 + n)

/-- Whether the Logs may count: `P0` loaded, or in its own swap (R468). -/
def logsRun (s : State) : Bool := s.loaded 0 || s.swapping 0

/-- Log `n` takes a value by a jump (R60): its C with it. Waypoints and generators take part only while the Logs may count (R468). -/
def logJump (s : State) (n v : Nat) : State :=
  let old := (s.log n).c
  let s := setLogValue s n v
  let s := s.updLog n fun g => { g with c := v % logMod }
  if logsRun s then jumpOver s n old (v % logMod) else s

/-- A write of `LOG_PRESET_HI[n]` (R61): no effect on a Log fed by the ring. The measure of R62 restarts there. -/
def logPreset (s : State) (n : Nat) (hi : Word) : State :=
  if s.rd LOG_CFG_SRC n == 7 then s
  else
    let s := s.set (LOG_PRESET_HI.off n 0) (BitVec.ofNat 32 (hi.toNat % 2 ^ 16))
    let s := logJump s n (s.rd2 LOG_PRESET_LO_VALUE LOG_PRESET_HI_VALUE n)
    s.updLog n fun g => { g with heldC := g.c }

/-- `P0` reaches its quiesce point: each C is kept (R62). -/
def logQuiesce (s : State) : State :=
  forEach (List.range 4) s fun s n => s.updLog n fun g => { g with heldC := g.c }

/-- `P0` is released after a quiesce: the advance of each C counts as one forward jump (R62). -/
def logRelease (s : State) : State :=
  forEach (List.range 4) s fun s n => jumpOver s n (s.log n).heldC (s.log n).c

/-- Log `n` enabled (R468): C takes the Log value, and this is no jump. -/
def logEnable (s : State) (n : Nat) : State :=
  let v := logValue s n
  s.updLog n fun g => { g with c := v, heldC := v }

/-- SRC_LOST of a ring-fed Log of the lead (R77). -/
def leadLost (s : State) (n : Nat) : State :=
  if s.rd LOG_CFG_SRC n == 7 then
    (if s.loaded 12 && s.flag BRD_STAT_LEAD && s.flag BRD_CTRL_EN then s.wr LOG_STAT_SRC_LOST 1 n else s)
  else s.wr LOG_STAT_SRC_LOST 0 n

/-- A new `LOG_CFG[n]` taken by its block (R468). -/
def logCfgTake (s : State) (n : Nat) (v : Word) : State :=
  let was := s.rd LOG_CFG_SRC n
  let s := s.set (LOG_CFG.off n 0) (v &&& 0xFF03130F#32)
  let s := if !srcCounts was && srcCounts (s.rd LOG_CFG_SRC n) then logEnable s n else s
  leadLost s n

/-! ### One tick (R53, R59) -/

/-- Log `n` steps by one tick and C follows (R53, R59). Answers whether C advanced. -/
def logTick (s : State) (n : Nat) (rev : Bool) : State × Bool :=
  let v := logValue s n
  let v' := if rev then (v + logMod - 1) % logMod else (v + 1) % logMod
  let s := (setLogValue s n v').wr LOG_STAT_DIR (if rev then 1 else 0) n
  let c := (s.log n).c
  if ahead c v' == 1 then (s.updLog n fun g => { g with c := v' }, true)
  else if decide (s.rd LOG_CFG_HYST n < ahead v' c) && decide (ahead v' c < 2 ^ 47) then
    (s.updLog n fun g => { g with c := v' }, false)
  else (s, false)

/-! ### The chronometer (R74) -/

/-- Whether the device is a follower of the ring: on it under R384, `P12`'s own swap included. -/
def isFollower (s : State) : Bool := (s.loaded 12 || s.swapping 12) && s.flag BRD_CTRL_EN && !s.flag BRD_STAT_LEAD

/-- A write of `LOG_CHRONO_SET_HI` (R74). -/
def chronoSet (s : State) (hi : Word) : State :=
  let v := s.rd LOG_CHRONO_SET_LO + 2 ^ 32 * hi.toNat
  if isFollower s || decide (v < s.chrono) then s
  else chronoStep s v

end Sys2Proof.Machine
end

