-- ==== Sys2Proof/Machine/Afe.lean ====
section
/-! DEFINITION. The measurement front end (spec/14_front_end.md): setups, ranges, values, open-wire counts, threshold switches, mains
tracking. -/

namespace Sys2Proof.Machine

/-! ### Setups (R289 to R294) -/

/-- The source that an excitation slot names, 0 for none (the setup register). -/
def slotSrc (n : Nat) : Nat := if 5 ≤ n then 0 else n

/-- Whether converter `cv` owns the source of a slot (R296). -/
def srcOwned (s : State) (cv src : Nat) : Bool :=
  src == 0 || s.rd AFE_EXC_CFG_OWNER (src - 1) == cv || s.rd AFE_EXC_CFG_OWNER (src - 1) == 2

/-- Whether setup `k` is invalid on converter `cv` (R289). -/
def setupBad (s : State) (cv k : Nat) : Bool :=
  let inp := s.rd AFE_SU_IN_INP k
  let inn := s.rd AFE_SU_IN_INN k
  let a := slotSrc (s.rd AFE_SU_EXC_ASRC k)
  let b := slotSrc (s.rd AFE_SU_EXC_BSRC k)
  let c := s.rd AFE_SU_CURVE_CURVE k
  decide (19 < inp) || decide (20 < inn) || inn == inp || (a != 0 && a == b) || !srcOwned s cv a || !srcOwned s cv b || !curveKnown c
    || (isThermo c && !s.flag AFE_SU_CURVE_CJ_FIX k && s.rd AFE_SU_CURVE_CJSRC k == k)
    || (c == 100 && s.flag AFE_SU_CURVE_TSRC_EN k && s.rd AFE_SU_CURVE_TSRC k == k)

/-- The excitation that setup `k` names: source, pin and current of each used slot (R294). -/
def setupSlots (s : State) (k : Nat) : List (Nat × Nat × Nat) :=
  let i := min (s.rd AFE_SU_EXC_ICODE k) 4000
  let a := slotSrc (s.rd AFE_SU_EXC_ASRC k)
  let b := slotSrc (s.rd AFE_SU_EXC_BSRC k)
  if i = 0 then []
  else (if a = 0 then [] else [(a, s.rd AFE_SU_EXC_APIN k, i)]) ++ (if b = 0 then [] else [(b, s.rd AFE_SU_EXC_BPIN k, i)])

/-- Whether a conversion of setup `k` runs twice (R295). -/
def setupSwaps (s : State) (k : Nat) : Bool := s.flag AFE_SU_EXC_SWAP k && (setupSlots s k).length == 2

/-- The excitation of a conversion of setup `k`: no source is on from the safe state of R16 until software sets AFE EN again (R17, R459). -/
def setupSources (s : State) (k : Nat) : List (Nat × Nat × Nat) := if s.afe.d2d then [] else setupSlots s k

/-- A range code as it acts (R290). -/
def effRange (r : Nat) : Nat := min r 10

/-! ### From code to value (R290, R299 to R301) -/

/-- The measured quantity x = V × K of a code (R290, R299), exact but for a sticky last bit. -/
def quantity (code : Int) (range kbits : Nat) : FVal :=
  match f32Dec kbits with
  | .fin neg m e =>
    let r := effRange range
    match ratVal (decide (code < 0) != neg) (code.natAbs * (if r = 0 then 256 else 128) * m) 25 with
    | .fin a n f => .fin a n (f + e - 22 - (if r = 0 then 0 else (r : Int) - 1))
    | v => v
  | .inf neg => if code = 0 then .nan else .inf (neg != decide (code < 0))
  | .nan => .nan

/-- Whether setup `k`'s last result is stale, or carries BROKEN or CFG (R300). -/
def srcStale (s : State) (k : Nat) : Bool :=
  let fl := s.rd AFE_SU_STAT_FLAGS k
  let age := s.rd AFE_CFG_SRC_AGE
  bit fl 0 || bit fl 3 || (age != 0 && ((s.suSt k).last).all fun t => decide (age * 1000000 < s.elapsed - t))

/-- The active coefficient `i` of set `p` (R301). -/
def polyCoef (s : State) (p i : Nat) : Nat := kvGet (fun _ => 0) s.afe.poly (24 * p + i)

/-- `a * b + c`, each operation rounded to binary64 (R301). -/
def fmaStep (a b c : FVal) : FVal := roundF64 (fAdd (roundF64 (fMul a b)) c)

/-- Curve 100 (R301). -/
def polyCurve (s : State) (pset : Nat) (x t : FVal) : FVal :=
  let c (a b : Nat) : FVal := f32Dec (polyCoef s pset (4 * a + b))
  let p (b : Nat) : FVal := [4, 3, 2, 1, 0].foldl (fun v a => fmaStep v x (c a b)) (c 5 b)
  fmaStep (fmaStep (fmaStep (p 3) t (p 2)) t (p 1)) t (p 0)

/-- The value of a code under setup `k`: y in binary32, and its CURVE_RANGE, CJ_FAULT and SRC_STALE flags (R299 to R302). -/
def suValue (s : State) (k range : Nat) (code : Int) : Nat × Nat :=
  let x := quantity code range (s.rd AFE_SU_K_K k)
  let c := s.rd AFE_SU_CURVE_CURVE k
  let ps := s.rd AFE_SU_CURVE_PSET k
  if c = 0 then (f32Enc x, 0)
  else if c = 100 then
    let ts := s.rd AFE_SU_CURVE_TSRC k
    let en := s.flag AFE_SU_CURVE_TSRC_EN k
    let t := if en then f32Dec (s.rd AFE_SU_LAST_Y ts) else .fin false 0 0
    (f32Enc (polyCurve s ps (roundF64 x) t), if en && srcStale s ts then 64 else 0)
  else
    let xb := f32Enc x
    if f32IsNaN xb then (f32NaN, 0)
    else if isThermo c then
      let fix := s.flag AFE_SU_CURVE_CJ_FIX k
      let fault := !fix && srcStale s (s.rd AFE_SU_CURVE_CJSRC k)
      let cj := if fix || fault then s.rd AFE_CJ_FIXED_TEMP else s.rd AFE_SU_LAST_Y (s.rd AFE_SU_CURVE_CJSRC k)
      if f32IsNaN cj then (f32NaN, if fault then 32 else 0)
      else
        let y := thermoCurve c cj x
        (y.1, (if fault then 32 else 0) + (if y.2 then 16 else 0))
    else
      let y := if c = 20 then ntcCurve (polyCoef s ps 0) (polyCoef s ps 4) (polyCoef s ps 12) x
        else invertCurve c (refScale c x) (Config.curve c [] xb)
      (y.1, if y.2 then 16 else 0)

/-- The shadow copies of the sets named by `m` become active (R301). -/
def polyApply (s : State) (m : Nat) : State :=
  forEach (bitsList m 8) s fun s p =>
    forEach (List.range 24) s fun s i =>
      { s with afe := { s.afe with poly := kvSet (fun _ => 0) s.afe.poly (24 * p + i) (s.rd AFE_POLY_COEF p i) } }

/-! ### Autorange (R292) -/

/-- RANGE of setup `k` moved after a result (R292). A result without autorange, or of an invalid setup, ends a row of small ones
(notes/assumptions/102.md). -/
def autorange (s : State) (k : Nat) (code : Int) (ovr : Bool) : State :=
  let lim := s.rd AFE_SU_IN_LIMRANGE k
  let r := effRange (s.rd AFE_SU_IN_RANGE k)
  let put (s : State) (r : Nat) := s.wr AFE_SU_IN_RANGE (min r lim) k
  let narrow (s : State) (n : Nat) := s.updSuSt k fun u => { u with narrow := n }
  if !s.flag AFE_SU_IN_AUTO k then narrow s 0
  else
    if ovr then
      narrow (put (raiseIf s (r == 0) 188) (r - 3)) 0
    else if code.natAbs ≥ 0x3C0000 then narrow (put s (r - 1)) 0
    else if code.natAbs < 0x0C0000 then
      if (s.suSt k).narrow ≥ 1 then narrow (put s (r + 1)) 0 else narrow s ((s.suSt k).narrow + 1)
    else narrow s 0

/-! ### Open-wire detection (R303, R304) -/

/-- An open-wire reading of setup `k` counted (R304). -/
def owCount (s : State) (k : Nat) (isOpen : Bool) : State :=
  let n := s.rd AFE_SU_STAT_OWCOUNT k
  let broken := bit (s.rd AFE_BROKEN_SETUP) k
  if isOpen then
    let s := (s.wr AFE_SU_STAT_OWCOUNT (min (n + 1) 2) k).updSuSt k fun u => { u with clean := 0 }
    if n + 1 ≥ 2 && !broken then raise (s.setBit AFE_BROKEN_SETUP k) 185 else s
  else
    let s := s.wr AFE_SU_STAT_OWCOUNT 0 k
    if !broken then s
    else if (s.suSt k).clean ≥ 1 then (s.clrBit AFE_BROKEN_SETUP k).updSuSt k fun u => { u with clean := 0 }
    else s.updSuSt k fun u => { u with clean := 1 }

/-- SUSPECT and BROKEN of setup `k` as its next result carries them (R302, R304). -/
def owFlags (s : State) (k : Nat) : Nat :=
  (if s.rd AFE_SU_STAT_OWCOUNT k == 1 then 4 else 0) +
  (if s.rd AFE_SU_STAT_OWCOUNT k == 2 || bit (s.rd AFE_BROKEN_SETUP) k then 8 else 0)

/-! ### Threshold switches (R305, R306) -/

/-- Whether the set condition, and whether the clear condition, of switch `t` holds on a value (R305). -/
def tsConds (s : State) (t y : Nat) : Bool × Bool :=
  let hi := s.rd AFE_TS_HI_HI t
  let lo := if f32Lt hi (s.rd AFE_TS_LO_LO t) then hi else s.rd AFE_TS_LO_LO t
  let above := f32Lt hi y
  let below := f32Lt y lo
  if s.flag AFE_TS_CFG_DIR t then (below, above) else (above, below)

/-- STATE of switch `t` changed, with its event (R305). -/
def tsSet (s : State) (t : Nat) (on : Bool) : State :=
  let s := if on then s.setBit AFE_TS_STAT_STATE t else s.clrBit AFE_TS_STAT_STATE t
  raise (s.setBit AFE_TS_EVT_CHANGED t) 184

/-- The count of consecutive results of switch `t` set. -/
def tsCount (s : State) (t n : Nat) : State := { s with afe := { s.afe with tsCnt := kvSet (fun _ => 0) s.afe.tsCnt t n } }

/-- Switch `t` compares a new value (R305) and its safe condition follows the result (R306). -/
def tsResult (s : State) (t y flags : Nat) : State :=
  let nan := f32IsNaN y
  let cfg := bit flags 0
  let safe := nan || cfg || bit flags 3
  let c := if nan || cfg then (false, false) else tsConds s t y
  let s := { s with afe := { s.afe with tsHeld := kvSet (fun _ => false) s.afe.tsHeld t c.1 } }
  let s := if safe then s.setBit AFE_TS_STAT_SAFE_ACT t
    else if tsSafeNow s t then s else s.clrBit AFE_TS_STAT_SAFE_ACT t
  if !s.flag AFE_TS_CFG_EN t then tsCount s t 0
  else
    let on := bit (s.rd AFE_TS_STAT_STATE) t
    let hit := if on then c.2 else c.1
    if !hit then tsCount s t 0
    else
      let n := kvGet (fun _ => 0) s.afe.tsCnt t + 1
      if n ≤ s.rd AFE_TS_CFG_CNT t then tsCount s t n
      else if on && s.flag AFE_TS_CFG_LATCH t then tsCount s t 0
      else tsSet (tsCount s t 0) t (!on)

/-- Every switch that watches setup `k` sees its result (R305). -/
def tsAll (s : State) (k y flags : Nat) : State :=
  forEach (List.range 16) s fun s t => if s.rd AFE_TS_CFG_SETUP t == k then tsResult s t y flags else s

/-- A write of `AFE_TS_CLR` (R305): latched switches whose set condition no longer holds on the last result are released. -/
def tsUnlatch (s : State) (m : Nat) : State :=
  forEach (bitsList m 16) s fun s t =>
    if s.flag AFE_TS_CFG_LATCH t && bit (s.rd AFE_TS_STAT_STATE) t && !kvGet (fun _ => false) s.afe.tsHeld t then
      tsSet (tsCount s t 0) t false
    else s

/-- No result of switch `t`'s setup has come for SRC_AGE ms (R306): the machine moves on to the end of that time. -/
def tsStale (s : State) (t : Nat) : State :=
  let age := s.rd AFE_CFG_SRC_AGE
  if s.loaded 8 && age != 0 then
    let s := match (s.suSt (s.rd AFE_TS_CFG_SETUP t)).last with
      | some l => s.passTo (l + age * 1000000)
      | none => s
    s.setBit AFE_TS_STAT_SAFE_ACT t
  else s

/-! ### Mains tracking (R297) -/

/-- The nominal period in 10 ns. -/
def nominalPeriod (s : State) : Nat := if s.flag AFE_CFG_NOMINAL then 1666667 else 2000000

/-- The mean of the tracked periods in 10 ns. -/
def trackedPeriod (l : List Nat) : Nat := l.sum / (10 * max 1 l.length)

/-- PERIOD follows LOCK and NOMINAL (R297). -/
def mainsPeriod (s : State) : State :=
  s.wr AFE_MAINS_PERIOD (if s.flag AFE_MAINS_LOCK then trackedPeriod s.afe.periods else nominalPeriod s)

/-- LOCK changed, with FALLBACK and the event (R297). -/
def setLock (s : State) (on : Bool) : State :=
  if s.flag AFE_MAINS_LOCK == on then s
  else raise ((s.wr AFE_MAINS_LOCK (if on then 1 else 0)).wr AFE_MAINS_FALLBACK (if on then 0 else 1)) 186

/-- The tracking given up: no LOCK, FALLBACK, no period kept. -/
def mainsLost (s : State) : State :=
  let s := { s with afe := { s.afe with periods := [], good := 0 } }
  mainsPeriod ((setLock s false).wr AFE_MAINS_FALLBACK 1)

/-- A period in ns measured between accepted edges (R297). -/
def mainsEdge (s : State) (period : Nat) : State :=
  if !s.loaded 8 || !s.flag AFE_CFG_SYNC_EN then s
  else if 70 * period < 1000000000 || 40 * period > 1000000000 then mainsLost s
  else
    let l := (period :: s.afe.periods).take 8
    let mean := l.sum / l.length
    let near := decide (100 * (max period mean - min period mean) ≤ mean)
    let good := if near then s.afe.good + 1 else 0
    let s := { s with afe := { s.afe with periods := l, good := min good 8 } }
    mainsPeriod (if 8 ≤ good then setLock s true else s)

/-- A write of `AFE_CFG`: EN ends the hold of a D2D fault (R306), SYNC_EN 0 gives up tracking (R297). -/
def afeCfg (s : State) (v : Word) : State :=
  let s := s.set (AFE_CFG.off 0 0) (v &&& 0xFFFF0003#32)
  let s := if s.flag AFE_CFG_EN then { s with afe := { s.afe with d2d := false } } else s
  if s.flag AFE_CFG_SYNC_EN then mainsPeriod s else mainsLost s

/-- `MAINS_EDGE` (R297); `period` in ns. -/
def execMainsEdge (period : Nat) (s : State) : Host.Outcome State Fault Refusal := done (mainsEdge s period)

/-- `MAINS_TIMEOUT` (R297). -/
def execMainsTimeout (s : State) : Host.Outcome State Fault Refusal :=
  done (if s.loaded 8 && s.flag AFE_CFG_SYNC_EN then mainsLost s else s)

/-- `SOURCE_STALE` (R306). -/
def execSourceStale (t : Fin 16) (s : State) : Host.Outcome State Fault Refusal := done (tsStale s t)

end Sys2Proof.Machine
end

