-- ==== Sys2Proof/Machine/Conv.lean ====
section
/-! DEFINITION. The converters (spec/15_converters.md): triggers, passes, conversions, the shared setup, results. -/

namespace Sys2Proof.Machine

/-! ### Status registers -/

/-- `CNV_STAT[cv]` follows the converter. -/
def cvSync (s : State) (cv : Nat) : State :=
  let x := s.cvSt cv
  let b (p : Bool) : Nat := if p then 1 else 0
  let s := ((s.wr CNV_STAT_BUSY (b (x.phase != 0)) cv).wr CNV_STAT_INJ (b x.injRun) cv).wr CNV_STAT_RPEND (b x.rpend) cv
  let s := (s.wr CNV_STAT_IPEND (b x.ipend) cv).wr CNV_STAT_DELAYING (b (x.delR.isSome || x.delI.isSome)) cv
  (s.wr CNV_STAT_PAIRED (b x.pair) cv).wr CNV_STAT_ENTRY x.entry cv

/-- A converter's state changed by `g`, its status following. -/
def cvUpd (s : State) (cv : Nat) (g : CvSt → CvSt) : State := cvSync (s.updCvSt cv g) cv

/-- A trigger lost (R315). -/
def cvLost (s : State) (cv : Nat) : State := raise (s.sat CNV_CNT_LOST 1 cv) 205

/-- Whether the converter runs (R309, R323). -/
def cvOn (s : State) (cv : Nat) : Bool := s.flag CNV_CTRL_EN cv

/-! ### Results (R318 to R322) -/

/-- The window comparators that watch setup `k` test a value (R320). Answers whether it lies outside a band. -/
def winTest (s : State) (k y flags : Nat) : State × Bool :=
  if bit flags 0 || f32IsNaN y then (s, false)
  else forEach (List.range 16) (s, false) fun a w =>
    if !(a.1.flag CNV_WIN_CFG_EN w && a.1.rd CNV_WIN_CFG_SETUP w == k) then a
    else
      let out := f32Lt y (a.1.rd CNV_WIN_LO_LO w) || f32Lt (a.1.rd CNV_WIN_HI_HI w) y
      let was := bit (a.1.rd CNV_WIN_STAT_OUT) w
      let s := if out then a.1.setBit CNV_WIN_STAT_OUT w else a.1.clrBit CNV_WIN_STAT_OUT w
      (if out && !was then raise (s.setBit CNV_WIN_EVT_LEFT w) 206 else s, a.2 || out)

/-- A result ready for release. -/
structure Result where
  code : Int
  y : Nat
  afe : Nat
  conv : Nat
  deriving Repr

/-- The result packet (R319). -/
def resultWords (s : State) (cv : Nat) (x : CvSt) (r : Result) : List Nat :=
  [r.y * 2 ^ 32 + toBits 24 r.code * 256 + r.afe,
   r.conv * 2 ^ 56 + effRange x.range * 2 ^ 52 + x.setup * 2 ^ 47 + x.entry * 2 ^ 42 + cv * 2 ^ 41 + (if x.inj then 2 ^ 40 else 0)
     + (if x.inj then s.rd CNV_PASS_INJ cv else s.rd CNV_PASS_REG cv),
   x.stamp % 2 ^ 64]

/-- A result released (R318): window comparators, result registers, queue; and, unless it is `CNV_B`'s half of a pair, the last
value, the switches and autorange. -/
def release (s : State) (cv : Nat) (r : Result) (run : Bool) : State :=
  let x := s.cvSt cv
  let k := x.setup
  let (s, out) := winTest s k r.y r.afe
  let r := if out then { r with conv := r.conv ||| 128 } else r
  let e := if x.inj then 32 + x.entry else x.entry
  let s := s.wr CNV_RES_CODE_CODE (toBits 32 r.code) cv e
  let s := ((s.wr CNV_RES_FLAG_RANGE (effRange x.range) cv e).wr CNV_RES_FLAG_CNV r.conv cv e).wr CNV_RES_FLAG_AFE r.afe cv e
  let s := if s.flag CNV_QCFG_QEN cv then qPacket s (s.rd CNV_QCFG_QUEUE cv) (65 + cv) (resultWords s cv x r) else s
  let s := raiseIf s (bit r.afe 1) 187
  let s := raiseIf s (bit r.afe 4 || bit r.afe 5) 189
  if x.pair && cv == 1 then s.wr CNV_PLAUS_B_Y r.y
  else
    let s := if bit r.afe 0 || f32IsNaN r.y then s else s.wr AFE_SU_LAST_Y r.y k
    let s := (s.wr AFE_SU_STAT_FLAGS r.afe k).wr AFE_SU_STAT_RANGE (effRange x.range) k
    let s := s.updSuSt k fun u => { u with last := some s.elapsed }
    let s := tsAll s k r.y r.afe
    if run then autorange s k r.code (bit r.conv 0) else s.updSuSt k fun u => { u with narrow := 0 }

/-- The result that a finished conversion yields (R299, R302, R318), before window and plausibility flags. -/
def resultOf (s : State) (cv : Nat) : Result :=
  let x := s.cvSt cv
  let v := suValue s x.setup x.range x.code
  let b (p : Bool) (n : Nat) : Nat := if p then 2 ^ n else 0
  if x.bad then ⟨0, f32NaN, 1 + owFlags s x.setup, b x.pair 4⟩
  else ⟨x.code, v.1, v.2 + b x.compl 1 + owFlags s x.setup + b x.skip 7,
   b x.ovr 0 + b x.recov 1 + b x.rerun 2 + b x.inj 3 + b x.pair 4 + b x.alone 5⟩

/-- `|a - b| > w` on binary32 patterns. -/
def f32Apart (a b w : Nat) : Bool := fLt (f32Dec w) (fAbs (fAdd (f32Dec a) (fNeg (f32Dec b))))

/-- The two results of a pair compared (R322). -/
def plausFault (s : State) (a b : Result) : Bool :=
  !(bit a.afe 0 || bit b.afe 0 || f32IsNaN a.y || f32IsNaN b.y)
    && (f32Apart a.y b.y (s.rd CNV_PLAUS_WIN_WIN) || bit a.conv 0 != bit b.conv 0)

/-! ### Conversions (R293, R296, R311, R321) -/

/-- Whether a source that `want` needs is in use by the other converter at a different pin or current (R296). -/
def sourceBusy (s : State) (cv : Nat) (want : List (Nat × Nat × Nat)) : Bool :=
  let o := s.cvSt (1 - cv)
  (o.phase == 2 || o.phase == 3) &&
    want.any fun w => o.sources.any fun u => u.1 == w.1 && (u.2.1 != w.2.1 || u.2.2 != w.2.2)

/-- The excitation of a conversion's run: the second run has the pins of its two sources exchanged (R295). -/
def runSources (s : State) (x : CvSt) : List (Nat × Nat × Nat) :=
  match x.second, setupSources s x.setup with
  | true, [a, b] => [(a.1, b.2.1, a.2.2), (b.1, a.2.1, b.2.2)]
  | _, l => l

/-- A conversion at step 2 of R293: it settles, or waits for a source (R296). A second run keeps what the first gave (R295); with a first
one waiting trims take force (R408). -/
def selectInputs (s : State) (cv : Nat) : State :=
  let x := s.cvSt cv
  let want := runSources s x
  if !x.pair && sourceBusy s cv want then
    if x.phase == 1 then s else cvUpd (s.sat AFE_CNT_EXC_WAIT) cv fun x => { x with phase := 1, sources := [] }
  else if x.second then cvUpd s cv fun x => { x with phase := 2, sources := want }
  else
    cvUpd (trimTake s cv) cv fun x =>
      { x with phase := 2, sources := want, range := s.rd AFE_SU_IN_RANGE x.setup, code := 0, ovr := false, compl := false, skip := false,
               owOpen := none, recov := x.recov || x.recovNext, recovNext := false }

/-- A conversion that waits for a source goes on where it can (R296). -/
def serveWait (s : State) (cv : Nat) : State := if (s.cvSt cv).phase == 1 then selectInputs s cv else s

/-- A regular conversion of converter `cv` gives way to an injected pass or a pair and restarts after it. One that settles or integrates
is aborted, and its restart carries RERUN; one that waits for a source or for its pair is put off without either (R316, R321). -/
def abortConv (s : State) (cv : Nat) : State :=
  let x := s.cvSt cv
  let run := x.phase == 2 || x.phase == 3 || (x.phase == 1 && x.second)
  let s := if run then s.sat CNV_CNT_ABORTS 1 cv else s
  cvUpd s cv fun x => { x with phase := 0, sources := [], second := false, redo := some x.entry, redoRun := run || x.rerun,
                               recovNext := x.recovNext || x.recov }

/-- Whether converter `cv` is busy with its injected sequence. -/
def injBusy (s : State) (cv : Nat) : Bool := (s.cvSt cv).injRun || ((s.cvSt cv).inj && (s.cvSt cv).phase != 0)

/-- Whether `CNV_B` can join a paired conversion at once (R321): an injected trigger that waits goes first. -/
def canJoin (s : State) : Bool := cvOn s 1 && !injBusy s 1 && (s.cvSt 1).phase != 4 && !(s.cvSt 1).ipend

/-- Both converters begin the shared setup together (R321). Where it is invalid on `CNV_B`, that half is not run and waits as CFG
(R289). -/
def joinPair (s : State) : State :=
  let a := s.cvSt 0
  let s := if (s.cvSt 1).phase != 0 then abortConv s 1 else s
  let s := cvUpd s 0 fun x => { x with pair := true, second := false }
  let s := cvUpd s 1 fun x => { x with pair := true, inj := false, setup := a.setup, phase := 0, second := false, rerun := false, recov := false,
                                       alone := false, bad := setupBad s 1 a.setup, range := s.rd AFE_SU_IN_RANGE a.setup }
  let s := selectInputs s 0
  if (s.cvSt 1).bad then cvUpd (raise (s.sat AFE_CNT_CFG) 190) 1 fun x => { x with phase := 6, code := 0, ovr := false, compl := false, skip := false }
  else selectInputs s 1

/-- `CNV_B` joins a `CNV_A` that waits for it, where it can (R321). -/
def joinWaiting (s : State) : State := if (s.cvSt 0).phase == 5 && canJoin s then joinPair s else s

/-- Entry `e` of the sequence begins (R312, R321). `again` marks a restart (R316). Answers whether it holds an invalid setup, whose
CFG result has then been released (R289). -/
def beginEntry (s : State) (cv : Nat) (inj : Bool) (e : Nat) (again : Bool) : State × Bool :=
  let k := if inj then s.rd CNV_INJ_SETUP cv e else s.rd CNV_SEQ_SETUP cv e
  let s := cvUpd s cv fun x =>
    { x with inj := inj, entry := e, setup := k, rerun := again, recov := false, pair := false, alone := false, bad := false,
             second := false, code := 0, ovr := false, compl := false, skip := false, range := s.rd AFE_SU_IN_RANGE k }
  if setupBad s cv k then
    let s := raise (s.sat AFE_CNT_CFG) 190
    (release s cv ⟨0, f32NaN, 1 + owFlags s k, if inj then 8 else 0⟩ false, true)
  else if cv == 0 && !inj && s.flag CNV_SHARED_EN && s.rd CNV_SHARED_SETUP == k then
    (joinWaiting (cvUpd s 0 fun x => { x with phase := 5 }), false)
  else (selectInputs s cv, false)

/-- A pass started (R312). -/
def startPass (s : State) (cv : Nat) (inj : Bool) : State :=
  if inj then cvUpd (s.bump CNV_PASS_INJ cv) cv fun x => { x with injRun := true, injNext := 0, ipend := false }
  else cvUpd (s.bump CNV_PASS_REG cv) cv fun x => { x with regRun := true, regNext := 0, rpend := false, cut := false }

/-- Whether a quiesce of `P8` or `P9`, or a factory run, keeps the converters from starting (R46, R402). -/
def cvHeld (s : State) : Bool := s.quiescing 8 || s.quiescing 9 || s.calHoldsConv

/-- Whether the running regular pass has converted its last entry. -/
def passOver (s : State) (cv : Nat) : Bool :=
  let x := s.cvSt cv
  x.regRun && !x.injRun && x.redo.isNone && decide (s.rd CNV_CTRL_RLEN cv < x.regNext)

/-- A regular pass ends; CONT or a latched trigger starts the next at once, CONT not past a quiesce (R312, R315, R323). -/
def endPass (s : State) (cv : Nat) : State :=
  let x := s.cvSt cv
  let s := raise (cvUpd s cv fun x => { x with regRun := false, cut := false }) (200 + cv)
  if cvHeld s then s
  else if x.rpend || (s.flag CNV_CTRL_CONT cv && !x.cut) then startPass s cv false
  else s

/-- The converter goes on to its next entry or pass (R312, R315, R316); a waiting injected trigger comes first, then `CNV_B` joins a pair
that waits for it (R321). The fuel bounds the invalid entries passed in one go. -/
def cvAdvance (cv : Nat) : Nat → State → State
  | 0, s => s
  | fuel + 1, s =>
    let x := s.cvSt cv
    if x.phase != 0 || x.pair then s
    else if !cvOn s cv || !s.loaded 9 then
      cvUpd s cv fun x => { x with regRun := false, injRun := false, redo := none }
    else if x.injRun && decide (s.rd CNV_CTRL_ILEN cv < x.injNext) then
      cvAdvance cv fuel (raise (cvUpd s cv fun x => { x with injRun := false }) (202 + cv))
    else if passOver s cv then cvAdvance cv fuel (endPass s cv)
    else if cvHeld s then cvUpd s cv fun x => { x with regRun := false, injRun := false, redo := none }
    else if x.injRun then
      let (s, bad) := beginEntry (cvUpd s cv fun x => { x with injNext := x.injNext + 1 }) cv true x.injNext false
      if bad then cvAdvance cv fuel s else s
    else if x.ipend then cvAdvance cv fuel (startPass s cv true)
    else if cv == 1 && (s.cvSt 0).phase == 5 then joinPair s
    else match x.redo with
      | some e =>
        let (s, bad) := beginEntry (cvUpd s cv fun x => { x with redo := none, redoRun := false }) cv false e x.redoRun
        if bad then cvAdvance cv fuel s else s
      | none =>
        if x.regRun then
          let (s, bad) := beginEntry (cvUpd s cv fun x => { x with regNext := x.regNext + 1 }) cv false x.regNext false
          if bad then cvAdvance cv fuel s else s
        else if x.rpend then cvAdvance cv fuel (startPass s cv false)
        else s

/-- The converter goes on, after a conversion of the other that waits for its sources (R296, R307). -/
def cvGo (s : State) (cv : Nat) : State := cvAdvance cv 80 (serveWait s (1 - cv))

/-! ### Triggers (R313 to R317) -/

/-- A trigger takes effect (R314 to R316). -/
def trigAct (s : State) (cv q : Nat) : State :=
  let x := s.cvSt cv
  if q = 0 then
    if x.rpend then cvLost s cv
    else if x.regRun || injBusy s cv || x.pair then cvUpd s cv fun x => { x with rpend := true }
    else cvGo (startPass s cv false) cv
  else
    if x.ipend then cvLost s cv
    else if injBusy s cv || x.pair || x.phase == 4 || x.phase == 6 then cvUpd s cv fun x => { x with ipend := true }
    else
      let s := if x.phase != 0 then abortConv s cv else s
      cvGo (startPass s cv true) cv

/-- A trigger of sequence `q` (0 regular, 1 injected) arrives (R312, R314, R323). -/
def trigger (s : State) (cv q : Nat) : State :=
  let x := s.cvSt cv
  if !cvOn s cv || !s.loaded 9 then s
  else if cvHeld s then cvLost s cv
  else if q == 0 && s.flag CNV_CTRL_CONT cv && x.regRun then s
  else if (if q = 0 then x.delR else x.delI).isSome then cvLost s cv
  else
    let d := s.rd CNV_TRIG_DELAY cv q
    if d = 0 then trigAct s cv q
    else cvUpd s cv fun x => if q = 0 then { x with delR := some d } else { x with delI := some d }

/-- The delay of a trigger ends (R314). -/
def delayEnd (s : State) (cv q : Nat) : State :=
  let x := s.cvSt cv
  if (if q = 0 then x.delR else x.delI).isSome then
    trigAct (cvUpd s cv fun x => if q = 0 then { x with delR := none } else { x with delI := none }) cv q
  else s

/-- One forward advance of C of Log `n` passes in the delays that count it (R314). -/
def delayLog (s : State) (n : Nat) : State :=
  forEach [(0, 0), (0, 1), (1, 0), (1, 1)] s fun s a =>
    let cv := a.1
    let q := a.2
    if !s.flag CNV_TRIG_DUNIT cv q || s.rd CNV_TRIG_DLOG cv q != n then s
    else match (if q = 0 then (s.cvSt cv).delR else (s.cvSt cv).delI) with
      | none => s
      | some d =>
        if d ≤ 1 then delayEnd s cv q
        else cvUpd s cv fun x => if q = 0 then { x with delR := some (d - 1) } else { x with delI := some (d - 1) }

/-- Triggers of the sequences whose TSRC is `src` and whose SEL satisfies `p` (R313). -/
def trigBySource (s : State) (src : Nat) (p : Nat → Bool) : State :=
  forEach [(0, 0), (0, 1), (1, 0), (1, 1)] s fun s a =>
    if s.rd CNV_TRIG_TSRC a.1 a.2 == src && p (s.rd CNV_TRIG_SEL a.1 a.2) then trigger s a.1 a.2 else s

/-- A CONVERT action of a waypoint (TSRC 2) or of a reflex command (TSRC 3); none where it is refused (R317, R370). -/
def convertAction (s : State) (cv q tsrc : Nat) : Option State :=
  if !cvOn s cv || s.rd CNV_TRIG_TSRC cv q != tsrc || !s.loaded 9 || s.quiescing 9 then none
  else some (trigger s cv q)

/-! ### The end of a conversion (R303, R309, R311, R321) -/

/-- A 24-bit code of a raw conversion, clamped on the side of the input, and whether it is over range (R311). -/
def clampCode (r : RawConv) : Int × Bool :=
  if r.count > 0x7FFFFF then (0x7FFFFF, true)
  else if r.count < -0x800000 then (-0x800000, true)
  else if r.pgaOver then (if r.count < 0 then -0x800000 else 0x7FFFFF, true)
  else (r.count, false)

/-- Whether the other converter settles or integrates on an input of setup `k` (R303). -/
def pinsUsed (s : State) (cv k : Nat) : Bool :=
  let o := s.cvSt (1 - cv)
  (o.phase == 2 || o.phase == 3) &&
    [s.rd AFE_SU_IN_INP k, s.rd AFE_SU_IN_INN k].any fun p => p != 20 && (p == s.rd AFE_SU_IN_INP o.setup || p == s.rd AFE_SU_IN_INN o.setup)

/-- The pair's results released together (R321, R322). -/
def releasePair (s : State) : State :=
  let a := resultOf s 0
  let b := resultOf s 1
  let fault := plausFault s a b
  let mark (r : Result) : Result := if fault then { r with conv := r.conv ||| 64 } else r
  let s := if fault then raise (s.sat CNV_PLAUS_CNT_FAULT) 207 else s
  let s := release (release s 0 (mark a) true) 1 (mark b) true
  let s := cvUpd s 0 fun x => { x with phase := 0, pair := false, sources := [] }
  let s := cvUpd s 1 fun x => { x with phase := 0, pair := false, sources := [] }
  cvGo (cvGo s 0) 1

/-- The conversion's result released and the sequence goes on (R318, R312); a shared setup converted alone is counted with it (R321). -/
def releaseOne (s : State) (cv : Nat) : State :=
  let s := if (s.cvSt cv).alone then raise (s.sat CNV_PLAUS_CNT_UNPAIRED) 208 else s
  let s := release s cv (resultOf s cv) true
  cvGo (cvUpd s cv fun x => { x with phase := 0, sources := [] }) cv

/-- A conversion of `cv`, or of the pair it leads, has its code: the open-wire pulse runs, or the result is released (R303). -/
def convEnd (s : State) (cv : Nat) : State :=
  let x := s.cvSt cv
  let go (s : State) := if x.pair then releasePair s else releaseOne s cv
  if s.flag AFE_SU_SET_OW_EN x.setup && s.rd AFE_SU_SET_BO x.setup != 0 then
    if pinsUsed s cv x.setup then go (cvUpd (s.sat AFE_CNT_OW_SKIP) cv fun x => { x with skip := true })
    else serveWait (cvUpd s cv fun x => { x with phase := 4, sources := [], owOpen := none }) (1 - cv)
  else go s

/-- Integration and run-down end (R309, R295, R311). -/
def convDone (s : State) (cv : Nat) (r : RawConv) : State :=
  let x := s.cvSt cv
  if x.phase != 3 then s
  else
    let (code, ovr) := clampCode r
    if setupSwaps s x.setup && !x.second then
      selectInputs (cvUpd s cv fun x => { x with phase := 0, sources := [], second := true, code := code, ovr := ovr, compl := x.compl || r.compl }) cv
    else
      let total := if x.second then divNearest (x.code + code) 2 else code
      let both := ovr || x.ovr
      let s := if both then raise (s.sat CNV_CNT_OVR 1 cv) 204 else s
      let s := cvUpd s cv fun x =>
        { x with phase := 6, second := false, code := total, ovr := both, compl := x.compl || r.compl, recovNext := x.recovNext || both }
      if !x.pair then convEnd s cv
      else if (s.cvSt 0).phase == 6 && (s.cvSt 1).phase == 6 then convEnd s 0
      else s

/-- The open-wire pulse ends: its reading counts, the result is released (R303, R304). -/
def pulseEnd (s : State) (cv : Nat) : State :=
  let x := s.cvSt cv
  if x.phase != 4 then s
  else
    let s := match x.owOpen with
      | some o => owCount s x.setup o
      | none => s
    let s := cvUpd s cv fun x => { x with phase := 6 }
    if x.pair then releasePair s else releaseOne s cv

/-- A new RANGE written to setup `k`: a running conversion of it is discarded and restarted (R291). -/
def rangeRestart (s : State) (k : Nat) : State :=
  forEach [0, 1] s fun s cv =>
    let x := s.cvSt cv
    if (x.phase == 2 || x.phase == 3 || (x.phase == 1 && x.second)) && x.setup == k then
      serveWait (selectInputs (cvUpd (s.sat AFE_CNT_RANGE_RESTART) cv fun x => { x with second := false }) cv) (1 - cv)
    else s

/-- EN of converter `cv` cleared (R323). -/
def cvDisable (s : State) (cv : Nat) : State :=
  let was := s.cvSt cv
  let s := s.wr CNV_CTRL_EN 0 cv
  let s := cvUpd s cv fun x => { recovNext := x.recovNext, entry := x.entry }
  let o := 1 - cv
  let s := if was.pair then
      (if cv = 0 then cvUpd s 1 fun x => { x with pair := false, phase := 0, sources := [] }
       else cvUpd s 0 fun x => { x with pair := false, alone := true })
    else s
  let s := if was.pair && cv == 1 && (s.cvSt 0).phase == 6 then convEnd s 0 else s
  cvGo (serveWait s o) o

/-- Both converters stop (R16, R323): EN of both is 0 before either goes on. -/
def cvStopAll (s : State) : State :=
  forEach [0, 1] (forEach [0, 1] s fun s cv => s.wr CNV_CTRL_EN 0 cv) cvDisable

/-- `P9` begins to quiesce, or a factory run stops the converters: latched and delaying triggers are lost, and only the conversion in
progress completes; the next trigger after that starts a pass at entry 0 (R323, R402). -/
def cvQuiesce (s : State) : State :=
  forEach [0, 1] s fun s cv =>
    let x := s.cvSt cv
    let n := [x.rpend, x.ipend, x.delR.isSome, x.delI.isSome].count true
    let s := forEach (List.range n) s fun s _ => cvLost s cv
    cvUpd s cv fun x => { x with rpend := false, ipend := false, delR := none, delI := none, redo := none, redoRun := false,
                                 regRun := x.regRun && !x.inj && !(cv == 1 && x.pair) && x.phase != 0 && decide (s.rd CNV_CTRL_RLEN cv < x.regNext),
                                 injRun := x.injRun && x.phase != 0 && decide (s.rd CNV_CTRL_ILEN cv < x.injNext), cut := true }

/-- A write of `CNV_CTRL[cv]` (R313, R323). -/
def cnvCtrl (s : State) (cv : Nat) (v : Nat) : State :=
  let was := s.flag CNV_CTRL_EN cv
  let s := (s.wr CNV_CTRL_EN (bitsOf v 31 1) cv).wr CNV_CTRL_CONT (bitsOf v 28 1) cv
  let s := if was && !bit v 31 then cvDisable s cv else joinWaiting s
  let s := if bit v 30 then trigger s cv 0 else s
  if bit v 29 then trigger s cv 1 else s

/-- Setting EN of a window comparator puts it inside its band (R320). -/
def winCfg (s : State) (w : Nat) (v : Word) : State :=
  let was := s.flag CNV_WIN_CFG_EN w
  let s := s.set (CNV_WIN_CFG.off w 0) (v &&& 0x8000001F#32)
  if !was && s.flag CNV_WIN_CFG_EN w then s.clrBit CNV_WIN_STAT_OUT w else s

/-- `CNV_B` did not join within one mains period (R321). -/
def pairTimeout (s : State) : State :=
  if (s.cvSt 0).phase == 5 then selectInputs (cvUpd s 0 fun x => { x with alone := true, phase := 0 }) 0
  else s

/-! ### The rows of the table -/

/-- `CNV_TIMER_TRIGGER` (R313). -/
def execCnvTimerTrigger (cv q : Fin 2) (s : State) : Host.Outcome State Fault Refusal :=
  done (if s.rd CNV_TRIG_TSRC cv q == 1 then trigger s cv q else s)

/-- `TRIGGER_DELAY_END` (R314). -/
def execTriggerDelayEnd (cv q : Fin 2) (s : State) : Host.Outcome State Fault Refusal := done (delayEnd s cv q)

/-- `SETTLING_END` (R293): integration starts; in a pair, on both converters (R321). -/
def execSettlingEnd (cv : Fin 2) (s : State) : Host.Outcome State Fault Refusal :=
  let go (s : State) (cv : Nat) :=
    if (s.cvSt cv).phase == 2 then cvUpd s cv fun x => { x with phase := 3, stamp := if x.second then x.stamp else s.chrono } else s
  let s := go s cv
  done (if cv.val == 0 && (s.cvSt 0).pair then go s 1 else s)

/-- `CONVERSION_DONE` (R309). -/
def execConversionDone (cv : Fin 2) (r : RawConv) (s : State) : Host.Outcome State Fault Refusal := done (convDone s cv r)

/-- `OPEN_WIRE_SAMPLE` (R303): `mv` is the pair voltage in mV. -/
def execOpenWireSample (cv : Fin 2) (mv : Nat) (s : State) : Host.Outcome State Fault Refusal :=
  done (if (s.cvSt cv).phase == 4 then
      cvUpd s cv fun x => { x with owOpen := some (decide (50 * max 1 (s.rd AFE_SU_SET_OW_V x.setup) < mv)) }
    else s)

/-- `OPEN_WIRE_PULSE_END` (R303). -/
def execOpenWirePulseEnd (cv : Fin 2) (s : State) : Host.Outcome State Fault Refusal := done (pulseEnd s cv)

/-- `EXC_WAIT_RESUME` (R296). -/
def execExcWaitResume (cv : Fin 2) (s : State) : Host.Outcome State Fault Refusal :=
  done (if (s.cvSt cv).phase == 1 then selectInputs s cv else s)

/-- `PAIR_JOIN_TIMEOUT` (R321). -/
def execPairJoinTimeout (s : State) : Host.Outcome State Fault Refusal := done (pairTimeout s)

end Sys2Proof.Machine
end

