-- ==== Sys2Proof/Machine/Illum.lean ====
section
/-! DEFINITION. The sinks, the headroom converter, lamp off, dissipation and the diagnostics of the illumination drive
(spec/13_illumination.md). Settings in force, chains and pattern engines stand in Sys2Proof/Machine/Engines.lean. -/

namespace Sys2Proof.Machine

/-! ### On-phases (R263, R264) -/

/-- The elapsed count at which the template of channel `c` closes its window `sig`, of sub-exposure `sub` for EXPWIN: at its closing event,
else at the template's end (R89). -/
def closesAt (s : State) (c sig sub : Nat) : Nat :=
  let shuts (w : Nat) : Bool := bitsOf w 28 4 == sig && bitsOf w 27 1 == 0 && (sig != 8 || bitsOf w 26 1 == sub)
  let x := s.chan c
  min (((x.sched.find? fun e => shuts e.2.2).map fun e => eventAt e.2.1).getD x.endAt) x.endAt

/-- The elapsed count at which the last of the open windows of sink `k` closes (R264). -/
def windowEnd (s : State) (k : Nat) : Nat :=
  let c := s.rd ILU_SINK_CFG_GCH k
  forEach ((List.range 2).filter fun i => bit (s.chan c).winOpen i && subSelects (bitsOf (s.sinkSt k).ctrl 26 2) i) 0
    fun t i => max t (closesAt s c 8 i)

/-- An on-phase of sink `k` starts at elapsed count `t`; the pattern ends it at `stop`, and its window where that closes sooner (R263, R264,
R313). Its ticks are those of the whole on-phase (R266). -/
def phaseFrom (s : State) (k t : Nat) (stop : Option Nat) : State :=
  let s := s.passTo t
  if !sinkLights s k then s
  else
    let ends := if sinkGated s k then min (stop.getD (windowEnd s k)) (windowEnd s k) else stop.getD t
    let s := s.updSinkSt k fun x => { x with lit := true, began := t, since := some t, stop := stop, ticks := (ends - t) / 10 }
    trigBySource s 4 fun sel => sel == k

/-- The next on-phase of sink `k` under its pulse pattern and gate mode (R263, R264): under GATE 2 now, throughout the window, else at the
next tick of the period that is on and not of the on-phase under way. None where the period has no such tick. -/
def sinkPhase (s : State) (k : Nat) : State :=
  let x := s.sinkSt k
  let lit := x.since.isSome && sinkLights s k
  if sinkGate s k == 2 then (if lit then s else phaseFrom s k s.elapsed none)
  else
    let from' := if lit then max s.elapsed (x.stop.getD s.elapsed) else s.elapsed
    match nextOn x.duty (sinkSpread s k) ((from' - x.t0 + 9) / 10) with
    | some t => phaseFrom s k (x.t0 + 10 * t) (some (x.t0 + 10 * runEnd x.duty (sinkSpread s k) t))
    | none => s

/-! ### Measurements (R266, R283, R284) -/

/-- VMAX in mV. -/
def convVmax (s : State) : Nat := 10 * min (max (s.rd ILU_CONV_LIM_VMAX) 400) 6000

/-- VMIN in mV. -/
def convVmin (s : State) : Nat := min (10 * max (s.rd ILU_CONV_LIM_VMIN) 400) (convVmax s)

/-- The VLED target in mV: the ramp of 2 V/ms while it runs (R268). -/
def convTarget (s : State) : Nat :=
  match s.conv.ramp with
  | some t => min s.conv.target (2 * (s.elapsed - t) / 1000)
  | none => s.conv.target

/-- Consecutive measurements of sink `k` with REG 0 and the pin below 0.1 V (R283). -/
def sinkLow (s : State) (k mv : Nat) (reg : Bool) : State :=
  if reg || decide (100 ≤ mv) then s.updSinkSt k fun x => { x with low := 0 }
  else if s.flag ILU_SINK_CFG_CONV k && convTarget s != convVmax s then s
  else
    let n := (s.sinkSt k).low + 1
    if n < 8 then s.updSinkSt k fun x => { x with low := n }
    else raise ((s.updSinkSt k fun x => { x with low := 0, ticks := 0 }).wr ILU_SINK_STAT_OPEN 1 k) 160

/-- Consecutive measurements of sink `k` with the pin above HEAD_MAX (R284). -/
def sinkHigh (s : State) (k mv : Nat) : State :=
  if mv ≤ 20 * s.rd ILU_DIAG_HEAD_MAX then s.updSinkSt k fun x => { x with high := 0 }
  else
    let n := (s.sinkSt k).high + 1
    if n < 8 then s.updSinkSt k fun x => { x with high := n }
    else
      let was := s.flag ILU_SINK_STAT_HIGH_HEAD k
      raiseIf ((s.updSinkSt k fun x => { x with high := 0 }).wr ILU_SINK_STAT_HIGH_HEAD 1 k) (!was) 163

/-- Sink `k` measured (R266, R283, R284, R286). -/
def sinkMeas (s : State) (k mv : Nat) (reg : Bool) : State :=
  let s := (s.wr ILU_SINK_STAT_HEAD (min ((mv + 10) / 20) 4095) k).wr ILU_SINK_STAT_REG (if reg then 1 else 0) k
  let s := (s.wr ILU_SINK_STAT_UNVERIFIED 0 k).updSinkSt k fun x => { x with meas := some (mv, s.elapsed) }
  let s := if s.rd ILU_CONV_STAT_STATE == 2 && s.flag ILU_SINK_CFG_CONV k then
      { s with conv := { s.conv with meas := s.conv.meas ++ [(k, mv)] } } else s
  sinkHigh (sinkLow s k mv reg) k mv

/-- Whether the last measurement of sink `k` lies at least `ns` back. -/
def measOld (s : State) (k ns : Nat) : Bool :=
  match (s.sinkSt k).meas with
  | none => true
  | some m => decide (ns ≤ s.elapsed - m.2)

/-- The measurement of an on-phase of 400 ns or more, 300 ns after its start (R266). -/
def sinkMeasure (s : State) (k mv : Nat) (reg : Bool) : State :=
  let s := if (s.sinkSt k).ticks = 0 then s else s.passTo ((s.sinkSt k).began + 300)
  if decide (40 ≤ (s.sinkSt k).ticks) && sinkMay s k && measOld s k 10000 then
    sinkMeas (s.updSinkSt k fun x => { x with ticks := 0 }) k mv reg
  else s

/-! ### The headroom converter (R267, R268) -/

/-- STATE of the converter changed; entering or leaving RUN is an event (R288). -/
def convState (s : State) (st : Nat) : State :=
  let old := s.rd ILU_CONV_STAT_STATE
  raiseIf (s.wr ILU_CONV_STAT_STATE st) (old != st && (old == 2 || st == 2)) 168

/-- The VLED target set, in mV. -/
def setTarget (s : State) (mv : Nat) : State :=
  { s.wr ILU_CONV_STAT_TARGET ((mv + 5) / 10) with conv := { s.conv with target := mv, ramp := none } }

/-- The measurement with the least pin voltage, the lower sink on ties (R267). -/
def neediest : List (Nat × Nat) → Option (Nat × Nat)
  | [] => none
  | a :: t =>
    match neediest t with
    | none => some a
    | some b => if a.2 < b.2 || (a.2 == b.2 && a.1 ≤ b.1) then some a else some b

/-- The update of the VLED target every 50 µs (R267). -/
def headroomUpdate (s : State) : State :=
  if s.rd ILU_CONV_STAT_STATE != 2 then s
  else
    let l := s.conv.meas.filter fun m => s.flag ILU_SINK_CFG_CONV m.1 && !s.flag ILU_SINK_STAT_OPEN m.1
    let s := { s with conv := { s.conv with meas := [] } }
    match neediest l with
    | none => s.wr ILU_CONV_STAT_NEEDY 31
    | some m =>
      let headSet := min (max (s.rd ILU_CONV_CTRL_HEAD_SET) 250) 1000
      let t := convTarget s
      let t := if m.2 < headSet then t + min (headSet - m.2 + 50) 1000 else t - min ((m.2 - headSet) / 8) 100
      setTarget (s.wr ILU_CONV_STAT_NEEDY m.1) (min (max t (convVmin s)) (convVmax s))

/-- Whether a sink on VLED is shorted to ground (R268). -/
def convBlocked (s : State) : Bool := (List.range 24).any fun k => s.flag ILU_SINK_CFG_CONV k && s.flag ILU_SINK_STAT_SHORT_GND k

/-- A write of `ILU_CONV_CTRL` (R268). -/
def convCtrl (s : State) (v : Word) : State :=
  let was := s.flag ILU_CONV_CTRL_EN
  let go := bit v.toNat 31 && (was || !convBlocked s)
  let s := (s.set (ILU_CONV_CTRL.off 0 0) (v &&& 0x0FFF03FF#32)).wr ILU_CONV_CTRL_EN (if go then 1 else 0)
  if go && !was then
    let vmin := convVmin s
    let s := convState ((s.wr ILU_CONV_STAT_PGOOD 0).wr ILU_CONV_STAT_TARGET 0) 1
    { s with conv := { target := vmin, ramp := some s.elapsed, disc := true } }
  else if !go && was then convState s 0
  else s

/-- VLED comes within 5 % of the target (R268). -/
def convPgood (s : State) : State :=
  let st := s.rd ILU_CONV_STAT_STATE
  if st == 1 || st == 2 then convState (s.wr ILU_CONV_STAT_PGOOD 1) 2 else s

/-- VLED leaves the 5 % band (R268). -/
def convPgoodLost (s : State) : State := s.wr ILU_CONV_STAT_PGOOD 0

/-- The flag of a converter fault. -/
def convFlag : ConvFault → Fld
  | .ovp => ILU_CONV_STAT_OVP
  | .ilim => ILU_CONV_STAT_ILIM
  | .uvlo => ILU_CONV_STAT_UVLO
  | .loss => ILU_CONV_STAT_LOSS

/-- The converter put in FAULT (R268): switching stops, `LED_DISC` opens, EN clears; one already in FAULT takes the flag. -/
def convToFault (s : State) (c : ConvFault) : State :=
  let was := s.rd ILU_CONV_STAT_STATE == 3
  let s := (s.wr (convFlag c) 1).wr ILU_CONV_CTRL_EN 0
  raiseIf (convState { s with conv := { s.conv with disc := false } } 3) (!was) 167

/-- A fault cause (R268): LOSS in RUN only, the others in every state of a converter whose panel is loaded. -/
def convFault (s : State) (c : ConvFault) : State :=
  if !s.loaded 7 || (c == .loss && s.rd ILU_CONV_STAT_STATE != 2) then s else convToFault s c

/-- An excursion of VLED above VMAX + 2 V, which every one above 62 V is (R268): switching stops; the eighth within 1 ms is a fault. -/
def convOver (s : State) : State :=
  if !s.loaded 7 then s
  else
    let l := s.elapsed :: s.conv.excursions.filter fun t => decide (s.elapsed - t ≤ 1000000)
    let s := { s with conv := { s.conv with stopped := true, excursions := l.take 8 } }
    if 8 ≤ l.length then convFault { s with conv := { s.conv with excursions := [] } } .ovp else s

/-! ### Lamp off and dissipation (R269, R270) -/

/-- WARN as it acts. -/
def dissWarn (s : State) : Nat := min (s.rd ILU_DIAG_WARN) 1500

/-- DISS_WARN follows DISS and WARN (R270). -/
def dissFollow (s : State) : State :=
  let on := decide (dissWarn s ≤ s.rd ILU_STAT_DISS)
  let was := s.flag ILU_STAT_DISS_WARN
  raiseIf (s.wr ILU_STAT_DISS_WARN (if on then 1 else 0)) (on && !was) 164

/-- The pin voltage of sink `k` in mV as the dissipation takes it (R270): the last measurement within 100 ms, else the measured VLED
(a free value, notes/assumptions/24.md) with CONV 1, else 60 V. -/
def pinVoltage (s : State) (k : Nat) : Nat :=
  match (s.sinkSt k).meas with
  | some m => if s.elapsed - m.2 ≤ 100000000 then m.1 else if s.flag ILU_SINK_CFG_CONV k then 10 * s.free 13 else 60000
  | none => if s.flag ILU_SINK_CFG_CONV k then 10 * s.free 13 else 60000

/-- A 1 ms bin ends (R270), at the next multiple of 1 ms of the elapsed count (notes/assumptions/101.md): each sink's pin voltage times
the current and on-time that it has drawn in the bin. -/
def dissBin (s : State) : State :=
  let s := s.runTimer 12 1000000
  if !s.loaded 7 then s
  else
    let e := forEach (List.range 24) 0 fun acc k => acc + pinVoltage s k * (200 * (s.sinkSt k).binQ) * 10
    let l := (e :: s.diss).take 100
    let mw := min ((2 * l.sum / (16383 * 100000000000) + 1) / 2) 65535
    let s := forEach (s.sink.map (·.1)) s fun s k => s.updSinkSt k fun x => { x with binQ := 0 }
    let s := dissFollow ({ s.used with diss := l }.wr ILU_STAT_DISS mw)
    if 1500 < mw && !s.flag ILU_STAT_DISS_TRIP then raise (s.wr ILU_STAT_DISS_TRIP 1) 165 else s

/-! ### Diagnostics (R282, R285, R286) -/

/-- A short test starts: `LED_DISC` opens (R282). -/
def shortStart (s : State) : State :=
  { (s.wr ILU_STAT_SHORT_BUSY 1).out (.converge 0 0) with conv := { s.conv with disc := false }, hrn := { s.hrn with shortDue := false } }

/-- A write of SHORT_TEST (R282). -/
def shortTest (s : State) : State :=
  if s.flag ILU_CONV_CTRL_EN || (List.range 24).any fun k => s.flag ILU_SINK_CTRL_EN k then s else shortStart s

/-- Whether sink `k` is fitted. -/
def sinkUsed (s : State) (k : Nat) : Bool := decide (k < 24) && s.flag ILU_SINK_CFG_USED k

/-- Whether the short test samples the pin of sink `k` with pin `k - 1`, `k` or `k + 1` driven (R282). -/
def pinSeen (s : State) (k : Nat) : Bool := sinkUsed s k || sinkUsed s (k + 1) || (k != 0 && sinkUsed s (k - 1))

/-- Whether the pins of sinks `k` and `k + 1` were found shorted: one of them was driven, and `adj` says so (R282). -/
def pairShort (s : State) (adj k : Nat) : Bool := decide (k < 23) && bit adj k && (sinkUsed s k || sinkUsed s (k + 1))

/-- The short test ends (R282): bit `n` of `adj` says that pins n and n + 1 are shorted, bit `n` of `gnd` that pin n is grounded. -/
def shortDone (s : State) (adj gnd : Nat) : State :=
  if !s.flag ILU_STAT_SHORT_BUSY then s
  else
    let pairs := (List.range 23).filter (pairShort s adj)
    let gnds := (List.range 24).filter fun k => sinkUsed s k && bit gnd k
    let s := forEach (List.range 24) (s.wr ILU_STAT_SHORT_BUSY 0) fun s k =>
      let sh := pairs.contains k || (k != 0 && pairs.contains (k - 1))
      let s := if pinSeen s k then s.wr ILU_SINK_STAT_SHORT_ADJ (if sh then 1 else 0) k else s
      if sinkUsed s k then s.wr ILU_SINK_STAT_SHORT_GND (if gnds.contains k then 1 else 0) k else s
    forEach (pairs ++ gnds) s fun s _ => raise (s.wr ILU_STAT_SHORT_FOUND 1) 161

/-- AWL_INT in ns. -/
def awlInt (s : State) : Nat := 1000000 * max 1 (s.rd ILU_DIAG_AWL_INT)

/-- Whether sink `k` is to be watched: USED and EN, with duty and current above 0. -/
def sinkWatched (s : State) (k : Nat) : Bool :=
  s.flag ILU_SINK_CFG_USED k && s.flag ILU_SINK_CTRL_EN k && (s.sinkSt k).duty != 0 && sinkCur s k != 0

/-- Whether sink `k` has had no measurement for `ns`, counted from the elapsed count's start where it has had none. -/
def unmeasured (s : State) (k ns : Nat) : Bool := decide (ns ≤ s.elapsed - (((s.sinkSt k).meas.map fun m => m.2).getD 0))

/-- Whether the BLANK window of channel `c` that is open lasts at least 600 ns: to its closing event, else to the template's end (R285). -/
def blankLong (s : State) (c : Nat) : Bool := (s.chan c).blank && decide (600 ≤ closesAt s c 9 0 - (s.chan c).blankAt)

/-- An awl pulse of sink `k` (R285): 100 ns into the window the sink conducts for 400 ns, and is measured 300 ns on (R266). -/
def awlPulse (s : State) (k mv : Nat) (reg : Bool) : State :=
  let c := s.rd ILU_SINK_CFG_GCH k
  if sinkWatched s k && s.flag ILU_SINK_CTRL_AWL_EN k && unmeasured s k (awlInt s) && sinkMay s k
      && sinkChannel s k && blankLong s c then
    let s := s.passTo ((s.chan c).blankAt + 100)
    let s := (s.sat ILU_CNT_AWL).updSinkSt k fun x => { x with lit := true, awl := some (s.elapsed, s.elapsed + 400) }
    sinkMeas (s.passTo (s.elapsed + 300)) k mv reg
  else s

/-- Sink `k` has gone without a measurement for four intervals (R286). -/
def sinkUnverified (s : State) (k : Nat) : State :=
  if s.loaded 7 && sinkWatched s k && unmeasured s k (4 * awlInt s) && !s.flag ILU_SINK_STAT_UNVERIFIED k then
    raise (s.wr ILU_SINK_STAT_UNVERIFIED 1 k) 162
  else s

/-! ### Register writes -/

/-- A write of `ILU_CTRL` (R269, R270, R282). -/
def iluCtrl (s : State) (v : Nat) : State :=
  let s := s.wr ILU_CTRL_LAMP_OFF (bitsOf v 31 1)
  let s := if bit v 30 && !s.lampLine then s.wr ILU_STAT_LAMP_TRIP 0 else s
  let s := if bit v 29 && decide (s.rd ILU_STAT_DISS < dissWarn s) then s.wr ILU_STAT_DISS_TRIP 0 else s
  if bit v 28 then shortTest s else s

/-- A host write to a field that a running engine owns is discarded and counted (R272); a payload's write is not (R34). -/
def ownedWrite (s : State) (k old new : Nat) (pay : Bool) : Nat × State :=
  if s.flag ILU_SINK_STAT_OWNED k && !pay then (old, s.sat ILU_CNT_PE_OWN) else (new, s)

/-- A write of `ILU_SINK_CTRL[k]` (R265, R272): clearing EN acts at once. -/
def sinkCtrl (s : State) (k : Nat) (v : Word) (pay : Bool) : State :=
  let (cur, s) := ownedWrite s k (s.rd ILU_SINK_CTRL_CUR k) (v.toNat % 2 ^ 14) pay
  let s := (s.set (ILU_SINK_CTRL.off k 0) (v &&& 0xFFC03FFF#32)).wr ILU_SINK_CTRL_CUR cur k
  if bit v.toNat 31 then s else sinkDark s k

/-- A write of `ILU_SINK_DUTY[k]` (R272). -/
def sinkDuty (s : State) (k : Nat) (v : Word) (pay : Bool) : State :=
  let (d, s) := ownedWrite s k (s.rd ILU_SINK_DUTY_DUTY k) (v.toNat % 2 ^ 16) pay
  s.wr ILU_SINK_DUTY_DUTY d k

/-- The elapsed count at which the next pulse period of sink `k` starts (R263): 65,536 ticks after a window opening or the last period
under GATE 1, else on the common period count, offset by 8 ticks a sink. -/
def nextPeriod (s : State) (k : Nat) : Nat :=
  let x := s.sinkSt k
  if sinkGate s k == 1 then x.t0 + 655360
  else if s.elapsed < 80 * k then 80 * k
  else
    let t := commonStart s k
    if t = s.elapsed && (decide (x.t0 < t) || (t = 0 && !x.run)) then t else t + 655360

/-- The start of a pulse period (R263, R265). -/
def periodStart (s : State) (k : Nat) : State :=
  let s := s.passTo (nextPeriod s k)
  if !s.loaded 7 then s
  else
    let s := (sinkPeriod s k).updSinkSt k fun x => { x with t0 := s.elapsed }
    if sinkGated s k then s else sinkTake s k

/-! ### The rows of the table -/

/-- `SINK_PERIOD_START` (R263, R265). -/
def execSinkPeriodStart (k : Fin 24) (s : State) : Host.Outcome State Fault Refusal := done (periodStart s k)

/-- `SINK_ON_PHASE` (R263). -/
def execSinkOnPhase (k : Fin 24) (s : State) : Host.Outcome State Fault Refusal := done (sinkPhase s k)

/-- `SINK_MEASURE` (R266). -/
def execSinkMeasure (k : Fin 24) (mv : Nat) (reg : Bool) (s : State) : Host.Outcome State Fault Refusal := done (sinkMeasure s k mv reg)

/-- `HEADROOM_UPDATE` (R267). -/
def execHeadroomUpdate (s : State) : Host.Outcome State Fault Refusal := done (headroomUpdate s)

/-- `CONV_PGOOD` (R268). -/
def execConvPgood (s : State) : Host.Outcome State Fault Refusal := done (convPgood s)

/-- `PGOOD_LOST` (R268). -/
def execPgoodLost (s : State) : Host.Outcome State Fault Refusal := done (convPgoodLost s)

/-- `CONV_OVERVOLTAGE` (R268). -/
def execConvOvervoltage (s : State) : Host.Outcome State Fault Refusal := done (convOver s)

/-- `VLED_BELOW_VMAX` (R268): switching resumes. -/
def execVledBelowVmax (s : State) : Host.Outcome State Fault Refusal := done { s with conv := { s.conv with stopped := false } }

/-- `CONV_FAULT` (R268). -/
def execConvFault (cause : ConvFault) (s : State) : Host.Outcome State Fault Refusal := done (convFault s cause)

/-- `DISS_BIN_END` (R270). -/
def execDissBinEnd (s : State) : Host.Outcome State Fault Refusal := done (dissBin s)

/-- `SHORT_TEST_DONE` (R282). -/
def execShortTestDone (adj gnd : BitVec 24) (s : State) : Host.Outcome State Fault Refusal := done (shortDone s adj.toNat gnd.toNat)

/-- `PE_WAIT_END` (R273, R274). -/
def execPeWaitEnd (e : Fin 16) (units : Nat) (s : State) : Host.Outcome State Fault Refusal := done (peFlush (peTime s e units))

/-- `CHAIN_REFRESH` (R280). -/
def execChainRefresh (ch : Fin 2) (s : State) : Host.Outcome State Fault Refusal :=
  done (if s.rd ILU_SW_CTRL_REFRESH ch != 0 then chainRequest s ch else s)

/-- `CHAIN_RETURN` (R280). -/
def execChainReturn (ch : Fin 2) (ret : List Byte) (s : State) : Host.Outcome State Fault Refusal :=
  done (chainReturn s ch (ret.map (·.toNat)))

/-- `CHAIN_RETURN_TIMEOUT` (R280). -/
def execChainReturnTimeout (ch : Fin 2) (s : State) : Host.Outcome State Fault Refusal := done (chainTimeout s ch)

/-- `CHAIN_GAP_END` (R280). -/
def execChainGapEnd (ch : Fin 2) (s : State) : Host.Outcome State Fault Refusal := done (chainGapEnd s ch)

/-- `CHAIN_STROBE_SEND` (R281). -/
def execChainStrobeSend (ch : Fin 2) (s : State) : Host.Outcome State Fault Refusal := done (strobeSend s ch)

/-- `STROBE_RETURN` (R281). -/
def execStrobeReturn (ch : Fin 2) (data : Byte) (ok : Bool) (s : State) : Host.Outcome State Fault Refusal :=
  done (strobeReturn s ch data.toNat ok)

/-- `AWL_PULSE` (R285). -/
def execAwlPulse (k : Fin 24) (mv : Nat) (reg : Bool) (s : State) : Host.Outcome State Fault Refusal := done (awlPulse s k mv reg)

/-- `SINK_UNVERIFIED` (R286). -/
def execSinkUnverified (k : Fin 24) (s : State) : Host.Outcome State Fault Refusal := done (sinkUnverified s k)

end Sys2Proof.Machine
end

