-- ==== Sys2Proof/Machine/Motion.lean ====
section
/-! DEFINITION. The arithmetic of a planner tick (spec/07_axes.md, R157 to R165, R169, R172; spec/09_pacing_stitch.md, R192, R195):
goals, the two profiles, stopping distances and the backlash, on plain integers. The scale is K = 125000 ticks a second: positions
are held times K³, velocities times K², accelerations times K (notes/assumptions/14.md). -/

namespace Sys2Proof.Machine

/-- Planner ticks in a second (R156). -/
def tickK : Int := 125000

/-- One microstep at the scale of positions. -/
def uStep : Int := tickK * tickK * tickK

/-- The sign of an integer. -/
def sgn (x : Int) : Int := if x < 0 then -1 else if x = 0 then 0 else 1

/-- What the planner seeks in a tick (R158, R164, R167, R195). -/
inductive Goal where
  | hold
  | pos (target : Int)
  | vel (v : Int)
  deriving DecidableEq, Repr

/-- The parameters of a tick. -/
structure Motion where
  vmax : Int
  amax : Int
  dmax : Int
  jmax : Int
  prof1 : Bool
  deriving DecidableEq, Repr

/-- What a tick decides: velocity, acceleration, motor distance, whether it belongs to a deceleration ramp and whether it lands on the
target. -/
structure Plan where
  v : Int
  acc : Int
  d : Int
  ramp : Bool := false
  landed : Bool := false
  deriving DecidableEq, Repr

/-- The greatest acceleration from which, brought down by `j` a tick, a velocity does not gain more than `e`. -/
def jerkMost (e j : Int) : Int :=
  let n : Int := ((isqrtBits 48 (8 * e / j + 1).toNat 0 - 1) / 2 : Nat)
  (e + j * n * (n + 1) / 2) / (n + 1)

/-- One tick of acceleration toward velocity `goal`, limited in jerk (R160): `up` and `down` are the limits while speeding up and
slowing down, `j` that of the acceleration's change in a tick. The spec fixes only these limits; inside them the model takes the greatest
acceleration that still ends at the goal without passing it (notes/assumptions/25.md). -/
def jerkStep (v acc goal up down j : Int) : Int × Int :=
  let e := goal - v
  let dir := if e = 0 then sgn acc else sgn e
  let a := dir * acc
  let lim := if goal.natAbs > v.natAbs && sgn goal * sgn v ≥ 0 then up else down
  let acc' := dir * max (a - j) (min (min (a + j) lim) (jerkMost e.natAbs j))
  (v + acc', acc')

/-- Velocity and acceleration one tick on toward rest at DMAX. -/
def brake (m : Motion) (v acc : Int) : Int × Int :=
  if m.prof1 then jerkStep v acc 0 (m.amax * tickK) (m.dmax * tickK) m.jmax
  else (v - sgn v * min (m.dmax * tickK) v.natAbs, 0)

/-- Whether distance `r` is at or below the stopping distance from speed `v` (R159, R160), with the distance in which a present
acceleration `a` along the motion, or against it, comes to zero. -/
def withinStop (m : Motion) (v a r : Int) : Bool :=
  let d := m.dmax
  let j := m.jmax
  if !m.prof1 then decide (r * (2 * d * tickK) ≤ v * v)
  else if v * j ≥ d * d * tickK * tickK then
    decide (r * (6 * d * tickK * j * j) ≤
      3 * v * v * j * j + 3 * v * d * d * tickK * tickK * j + 6 * v * a.natAbs * d * tickK * j + 2 * a * a * a * d * tickK)
  else
    let q := r * (3 * j * j) - (3 * v * a.natAbs * j + a * a * a)
    decide (q ≤ 0) || decide (q * q ≤ 9 * j * j * j * v * v * v)

/-- The stopping distance from speed `v`, at the scale of positions, rounded up (R159, R160). -/
def stopDist (m : Motion) (v a : Int) : Int :=
  let d := m.dmax
  let j := m.jmax
  let up (n q : Int) : Int := -((-n) / q)
  if !m.prof1 then up (v * v) (2 * d * tickK)
  else
    let extra := up (3 * v * a.natAbs * j + a * a * a) (3 * j * j)
    if v * j ≥ d * d * tickK * tickK then up (v * v * j + v * d * d * tickK * tickK) (2 * d * tickK * j) + extra
    else (isqrtBits 96 ((v * v * v / j).toNat) 0 : Nat) + 1 + extra

/-- The motor distance to reach speed `v` from rest (R195), at the scale of positions. -/
def startDist (m : Motion) (v : Int) : Int := stopDist { m with dmax := m.amax } v 0

/-- One tick of the profile (R159, R160) in direction `s`, `dist` the distance to the target where there is one, `cap` the greatest
speed that speeding up may reach. `exact` says that the landing test is the one of R159, which does not ask for the direction of
motion; else only a tick toward the target lands on it (notes/assumptions/98.md). -/
def profile (m : Motion) (v acc s : Int) (dist : Option Int) (vmax cap : Int) (exact : Bool) : Plan :=
  let sp : Int := v.natAbs
  let stop := match dist with
    | some r => withinStop m sp (s * acc) (r - sp)
    | none => false
  let away := v != 0 && sgn v != s
  let (v', acc') :=
    if away || stop then brake m v acc
    else if m.prof1 then jerkStep v acc (s * (if sp > vmax then vmax else max sp cap)) (m.amax * tickK) (m.dmax * tickK) m.jmax
    else if sp > vmax then (v - s * min (m.dmax * tickK) (sp - vmax), 0)
    else (v + s * min (m.amax * tickK) (max sp cap - sp), 0)
  match dist with
  | some r =>
    if (v' == 0 && decide (r < uStep)) || ((exact || (v' != 0 && sgn v' == s)) && decide (r ≤ v'.natAbs)) then ⟨0, 0, s * r, stop, true⟩
    else ⟨v', acc', v', stop && !away, false⟩
  | none => ⟨v', acc', v', false, false⟩

/-! ### Backlash (R169) -/

/-- Whether the motor rests against the load's rear, so that a forward move starts with take-up; and against its front. -/
def atRear (x : AxSt) (dirBack : Bool) : Bool := dirBack && x.gap == -x.bl

/-- As `atRear`, for a backward move. -/
def atFront (x : AxSt) (dirBack : Bool) : Bool := !dirBack && x.gap == 0

/-- The take-up that a move in direction `s` has before it, with BACKLASH at `bl`. -/
def takeupAhead (x : AxSt) (dirBack : Bool) (bl s : Int) : Int :=
  if s > 0 then (if atRear x dirBack then bl else -x.gap)
  else if s < 0 then (if atFront x dirBack then bl else x.bl + x.gap)
  else 0

/-- A reversal takes BACKLASH into force (R169). -/
def engage (x : AxSt) (dirBack : Bool) (bl s : Int) : AxSt :=
  if s > 0 && atRear x dirBack then { x with gap := -bl, bl := bl }
  else if s < 0 && atFront x dirBack then { x with bl := bl }
  else x

/-- The microsteps of a motor move by `d` (R157, R169): direction, whole load position after it, take-up. -/
def stepsOf (x : AxSt) (d : Int) : List (Int × Int × Bool) :=
  let m0 := (x.p + x.gap) / uStep
  let m1 := (x.p + x.gap + d) / uStep
  if m1 ≥ m0 then
    (List.range (m1 - m0).toNat).map fun (i : Nat) => let n := m0 + 1 + (i : Int); (1, n, decide (n * uStep ≤ x.p))
  else
    (List.range (m0 - m1).toNat).map fun (i : Nat) => let n := m0 - (i : Int); (-1, n - 1 + x.bl / uStep, decide (n * uStep > x.p - x.bl))

/-- The motor moved by `d`: the load follows past the take-up (R169). -/
def moveMotor (x : AxSt) (d : Int) : AxSt :=
  let gap := if d ≥ 0 then min 0 (x.gap + d) else max (-x.bl) (x.gap + d)
  { x with gap := gap, p := x.p + x.gap + d - gap, steps := x.steps ++ stepsOf x d }

/-- The velocity that a ramp left for a new DMAX keeps (R172), where there is one. -/
def capped (x : AxSt) (v : Int) : Int :=
  match x.cap with
  | some c => min c v
  | none => v

/-- Rest sought at DMAX. -/
def planRest (m : Motion) (x : AxSt) : Plan := let b := brake m x.v x.acc; ⟨b.1, b.2, b.1, false, false⟩

/-- The planner's decision for a goal (R158 to R161, R165): `lo` and `hi` are the soft limits in force. A POSITION move whose target
they have come to leave outside rests on the limit and has not landed (notes/assumptions/98.md). -/
def planGoal (m : Motion) (x : AxSt) (dirBack : Bool) (bl : Int) (lo hi : Option Int) : Goal → Plan
  | .hold => planRest m x
  | .pos t =>
    let s := sgn (t - x.p)
    let bound := (if s > 0 then hi else if s < 0 then lo else none).filter fun b => decide (s * (t - b) > 0)
    if s = 0 && x.v = 0 then ⟨0, 0, 0, false, true⟩
    else match bound with
      | none => profile m x.v x.acc s (some ((t - x.p).natAbs + takeupAhead x dirBack bl s)) m.vmax (capped x m.vmax) (!m.prof1)
      | some b =>
        if s * (b - x.p) ≤ 0 then planRest m x
        else { profile m x.v x.acc s (some ((b - x.p).natAbs + takeupAhead x dirBack bl s)) m.vmax (capped x m.vmax) false with landed := false }
  | .vel w =>
    let s := sgn w
    let sp := min (w.natAbs : Int) m.vmax
    let bound := if s > 0 then hi else lo
    if s = 0 then planRest m x
    else match bound with
      | none => profile m x.v x.acc s none sp sp false
      | some b =>
        if s * (b - x.p) ≤ 0 then planRest m x
        else profile m x.v x.acc s (some ((b - x.p).natAbs + takeupAhead x dirBack bl s)) sp (capped x sp) false

end Sys2Proof.Machine
end

