-- ==== Sys2Proof/Machine/Table.lean ====
section
/-! DEFINITION. The reflex table (spec/17_host.md, R369, R371, R372): the live value of each entry, and what a read at the port drives
and captures. -/

namespace Sys2Proof.Machine

/-- Word `k` of the reflex record in force: entries 0 to 255, command slots from 256 (R369). -/
def recordWord (s : State) (k : Nat) : Nat := kvGet (fun _ => 0) s.reflex.record k

/-- The last value written to a command slot. -/
def slotValue (s : State) (k : Nat) : Nat := kvGet (fun _ => 0) s.reflex.slots k

/-- The command slot of entry `e`, where it is of kind COMMAND. -/
def entrySlot (s : State) (e : Nat) : Option Nat :=
  let w := recordWord s e
  if bitsOf w 28 4 = 6 then some (w % 16) else none

/-- Whether a PAUSE_SCAN slot holds axis `a` (R370). -/
def scanPaused (s : State) (a : Nat) : Bool :=
  s.loaded 15 && (List.range 16).any fun k =>
    let w := recordWord s (256 + k)
    bitsOf w 28 4 == 1 && bitsOf w 24 4 == a && slotValue s k != 0

/-- The zone status entry of zone `z` (R253). -/
def zoneEntry (s : State) (z : Nat) : Nat :=
  s.rd RGH_ZONE_VAL_FRAME z * 256 + s.rd RGH_ZONE_VAL_LOAD z * 4 + s.rd RGH_ZONE_VAL_LOW z * 2 + s.rd RGH_ZONE_VAL_NONE z

/-- The DEVSTAT entry (R369). -/
def devStat (s : State) : Nat :=
  let stall := if (List.range 4).any fun a => s.flag AXS_SUP_STAT_STALL a then 1 else 0
  s.rd RGE_STAT_ARMED + 2 * s.rd ILU_STAT_LAMP_TRIP + 4 * s.rd ILU_STAT_DISS_TRIP + 8 * stall + 16 * (if s.pwr.d2dDown then 1 else 0)

/-- The live value of table entry `e` (R369, R372): 0 while `P15` is unloaded. -/
def reflexEntry (s : State) (e : Nat) : Nat :=
  let w := recordWord s e
  if !s.loaded 15 then 0
  else match bitsOf w 28 4 with
    | 1 => s.rd RGH_ZONE_VAL_GAP (w % 16)
    | 2 => zoneEntry s (w % 16)
    | 3 => bitsOf (s.rd2 LOG_VALUE_LO_VALUE LOG_VALUE_HI_VALUE (bitsOf w 4 2)) (16 * (w % 4)) 16
    | 4 => s.rd EVT_RSTAT_BITS (w % 4)
    | 5 => bitsOf (kvGet (fun _ => 0) s.reflex.lineStat (w % 16)) (16 * bitsOf w 4 1) 16
    | 6 => slotValue s (w % 16)
    | 7 => s.rd PCR_REF_HOST_VALUE (w % 16)
    | 8 => devStat s
    | _ => 0

/-- The value of entry `e` for the port: words 1 and 2 of a Log as captured (R372). -/
def portEntry (s : State) (e : Nat) : Nat :=
  let w := recordWord s e
  if s.loaded 15 && bitsOf w 28 4 == 3 && w % 4 != 0 then
    match s.reflex.logCap.find? fun p => p.1 == bitsOf w 4 2 with
    | some p => bitsOf p.2 (16 * (w % 4)) 16
    | none => reflexEntry s e
  else reflexEntry s e

/-- The entries kept as `P15` quiesces (R46). -/
def reflexSnap (s : State) : State :=
  { s with reflex := { s.reflex with snap := ((List.range 256).map fun e => (e, portEntry s e)).filter fun p => p.2 != 0 } }

/-- The value that entry `e` drives at the port once `CLK` has had an edge: the entries of the quiesce while `P15` is quiesced or swapped
(R46, R372, notes/assumptions/90.md), a level slot reading 0 in the swap (R373). -/
def reflexDrive (s : State) (e : Nat) : Nat :=
  let w := recordWord s e
  let level := bitsOf w 28 4 == 6 && [1, 7].contains (bitsOf (recordWord s (256 + w % 16)) 28 4)
  if s.swapping 15 then if level then 0 else kvGet (fun _ => 0) s.reflex.snap e
  else if s.loaded 15 && s.quiesced 15 then kvGet (fun _ => 0) s.reflex.snap e
  else portEntry s e

/-- A rising edge of `CLK`: the port's entries take their present values, which they keep while `CLK` is stopped (R372). -/
def portEdge (s : State) : State :=
  { s with reflex := { s.reflex with port := ((List.range 256).map fun e => (e, reflexDrive s e)).filter fun p => p.2 != 0 } }

/-- A read of entry `e` at the port (R372). With `clk` it comes after a rising edge of `CLK` and one ends it, which captures the Log where
the entry is its word 0; without, `CLK` stands still since the port's last command, and the entry as it was then is driven. -/
def reflexRead (s : State) (e : Nat) (clk : Bool) : State :=
  let w := recordWord s e
  let s := if clk then portEdge s else s
  let s' := s.out (.reflexData (kvGet (fun _ => 0) s.reflex.port e))
  if clk && s.loaded 15 && !s.quiesced 15 && bitsOf w 28 4 == 3 && w % 4 == 0 then
    let n := bitsOf w 4 2
    { s' with reflex := { s'.reflex with logCap := kvPut s'.reflex.logCap n (s.rd2 LOG_VALUE_LO_VALUE LOG_VALUE_HI_VALUE n) } }
  else s'

/-! ### The row of the table -/

/-- `REFLEX_LOG_READ` (R372): a read of an entry at the port. -/
def execReflexLogRead (e : Fin 256) (clk : Bool) (s : State) : Host.Outcome State Fault Refusal := done (reflexRead s e clk)

end Sys2Proof.Machine
end

