-- ==== Sys2Proof/Machine/Axes.lean ====
section
/-! DEFINITION. The scan axes: planner ticks, switches, homing, line grid (spec/07_axes.md), current and supervision
(spec/08_coil_current.md), pacing and the stitch sequence (spec/09_pacing_stitch.md). -/

namespace Sys2Proof.Machine

/-! ### Coil targets (R175) -/

/-- The pair (cos, next cos) of the cosine recurrence over steps of 90°/256, at the scale 2^80. -/
def cosPair : Nat → Int × Int
  | 0 => (2 ^ 80, 1208903061927718747322595)
  | n + 1 => let p := cosPair n; (p.2, 2 * 1208903061927718747322595 * p.2 / 2 ^ 80 - p.1)

/-- `|cos|` of `i` steps of 90°/256, at the scale 2^80. -/
def cosAbs (i : Nat) : Nat :=
  let j := i % 512
  if j == 256 then 0 else ((cosPair (if j < 256 then j else 512 - j)).1).toNat

/-- The electrical angle of axis `a` in steps of 90°/256 (R175). -/
def axAngle (s : State) (a : Nat) : Nat :=
  let r := min (s.rd AXS_CFG_MRES a) 8
  s.rd AXS_MPOS_MPOS a % 2 ^ (r + 2) * 2 ^ (8 - r)

/-- Coil `coil`'s target (R175): coil A the cosine, coil B the sine, each of the sign of its quadrant. -/
def coilTarget (s : State) (a coil : Nat) : Int :=
  let th := axAngle s a
  let i := if coil = 0 then th else th + 768
  let mag : Nat := (2 * s.rd AXS_SUP_STAT_ISET a * cosAbs i + 2 ^ 80) / 2 ^ 81
  if decide (256 < i % 1024) && decide (i % 1024 < 768) then -mag else mag

/-- The direction in which the bridge drives coil `coil` of axis `a` (R177, R178): that of the target's sign while it drives current up,
the other one in fast decay, none in slow decay and in IDLE. -/
def coilDrive (s : State) (a coil : Nat) : Int :=
  let c := s.coilSt (2 * a + coil)
  if c.st == 1 || c.st == 2 then sgn (coilTarget s a coil)
  else if c.st != 0 && c.fast then -sgn (coilTarget s a coil)
  else 0

/-- The bridge of a coil whose target has become 0 goes to slow decay (R178). -/
def slowZero (s : State) (a : Nat) : State :=
  forEach [0, 1] s fun s coil =>
    if coilTarget s a coil == 0 then s.updCoilSt (2 * a + coil) fun c => { c with fast := false } else s

/-- The passage of a coil ends and the next one begins in quadrant `q` (R181): one of fewer than 16 chopper cycles, or marked to be, is
discarded. -/
def passageEnd (c : CoilSt) (q : Nat) : CoilSt :=
  { c with ended := if decide (c.cycles < 16) || c.bad then none else some (c.quad, c.cycles, c.sumT),
           quad := q, cycles := 0, sumT := 0, bad := false }

/-- QUAD and the coil targets follow the motor position (R175, R178); a stay in a quadrant ends with it (R181). -/
def syncQuad (s : State) (a : Nat) : State :=
  let q := axAngle s a / 256
  let s := slowZero (s.wr AXS_SUP_STAT_QUAD q a) a
  forEach [0, 1] s fun s coil =>
    if (s.coilSt (2 * a + coil)).quad == q then s else s.updCoilSt (2 * a + coil) fun c => passageEnd c q

/-- ISET set, in codes: the coil targets follow, and a passage in which it changes is discarded (R175, R178, R181). -/
def setIset (s : State) (a v : Nat) : State :=
  if s.rd AXS_SUP_STAT_ISET a == v then s
  else slowZero (forEach [0, 1] (s.wr AXS_SUP_STAT_ISET v a) fun s coil => s.updCoilSt (2 * a + coil) fun c => { c with bad := true }) a

/-! ### The registers that follow the planner -/

/-- Whether the factory run holds the axes (R402). -/
def calHoldsAxes (s : State) : Bool := s.rd CAL_STAT_STATE == 1 && s.rd CAL_STAT_STEP == 6

/-- Whether axis `a` is active: EN set and its configuration valid. A moving axis comes to rest though an entry into standby
has cleared its EN (R436). -/
def axOn (s : State) (a : Nat) : Bool :=
  s.loaded 4 && (s.flag AXS_CTRL_EN a || (s.ax a).v != 0) && !s.flag AXS_STAT_CFG_ERR a

/-- Whether the load last moved backward. -/
def axBack (s : State) (a : Nat) : Bool := s.flag AXS_STAT_DIR a

/-- Position, velocity and MOVING of axis `a` shown (R155). -/
def axSync (s : State) (a : Nat) : State :=
  let x := s.ax a
  let f := x.p * 2 ^ 32 / uStep
  let s := s.wr2 AXS_POS_LO_FRAC AXS_POS_HI_INT (toBits 64 f) a
  (s.wr AXS_VEL_VEL (toBits 32 (x.v.tdiv (tickK * tickK))) a).wr AXS_STAT_MOVING (if x.v = 0 then 0 else 1) a

/-- The whole load position at which axis `a` stands: what its waiting microsteps have not yet done (R157). -/
def axWhole (s : State) (a : Nat) : Int :=
  let x := s.ax a
  x.p / uStep - (x.steps.foldl (fun n t => if t.2.2 then n else n + t.1) 0)

/-- The parameters of axis `a` for a tick (R156): VMAX, AMAX as written, DMAX and JMAX in force. -/
def axMotion (s : State) (a : Nat) : Motion :=
  let x := s.ax a
  { vmax := (min (s.rd AXS_VMAX_VMAX a) 500000 : Nat) * (tickK * tickK), amax := max 1 (s.rd AXS_AMAX_AMAX a),
    dmax := max 1 x.dmax, jmax := 256 * max 1 x.jmax, prof1 := x.prof1 }

/-- The soft limits in force of axis `a`, scaled (R165). -/
def softLimits (s : State) (a : Nat) : Option (Int × Int) :=
  let lo := s.rdS AXS_SOFT_MIN_MIN a
  let hi := s.rdS AXS_SOFT_MAX_MAX a
  if s.flag AXS_STAT_REF a && lo != hi then some (lo * uStep, hi * uStep) else none

/-! ### Switches (R162 to R164) -/

/-- The function of a switch: 0 off, 1 HOME, 2 LIMIT_NEG, 3 LIMIT_POS. -/
def swFn (s : State) (a sw : Nat) : Nat := if sw = 0 then s.rd AXS_CFG_SWA_FN a else s.rd AXS_CFG_SWB_FN a

/-- Whether a level of a switch is its active level. -/
def swActive (s : State) (a sw : Nat) (level : Bool) : Bool :=
  level != (if sw = 0 then s.flag AXS_CFG_SWA_POL a else s.flag AXS_CFG_SWB_POL a)

/-- Whether the switch of function `fn` is active. -/
def fnActive (s : State) (a fn : Nat) : Bool :=
  let x := s.ax a
  (swFn s a 0 == fn && swActive s a 0 x.swA.acc) || (swFn s a 1 == fn && swActive s a 1 x.swB.acc)

/-- Whether an active limit switch stands in the way of direction `s` (R164). -/
def limitAhead (s : State) (a : Nat) (dir : Int) : Bool := (dir > 0 && fnActive s a 3) || (dir < 0 && fnActive s a 2)

/-! ### Refusals (R166) -/

/-- A goal refused. -/
def goalRefused (s : State) (a : Nat) : State := raise (s.sat AXS_CNT_TGT_REJ 1 a) (98 + 4 * a)

/-- Whether every goal of axis `a` is refused: during the home sequence (R167) and while STALL is 1 (R184). -/
def goalsClosed (s : State) (a : Nat) : Bool := (s.ax a).home != 0 || s.flag AXS_SUP_STAT_STALL a

/-- Whether a POSITION target is refused (R166). -/
def targetBad (s : State) (a : Nat) (t : Int) : Bool :=
  (match softLimits s a with
    | some (lo, hi) => decide (t * uStep < lo) || decide (hi < t * uStep)
    | none => false)
  || limitAhead s a (sgn (t * uStep - (s.ax a).p))

/-- Whether MODE 3 is refused by R187. -/
def pacedBad (s : State) (a : Nat) : Bool :=
  let c := s.rd AXS_PACE_CFG_CH a
  decide (12 ≤ c) || lineSource s c != 2 || s.rd SNS_CH_CFG_SEL c != a
    || decide (s.rd AXS_PACE_CFG_SETPOINT a ≤ s.rd AXS_PACE_LVL_RESUME a)
    || decide (s.rd AXS_PACE_LVL_STOP a ≤ s.rd AXS_PACE_CFG_SETPOINT a)
    || s.rd AXS_LINE_PITCH_PITCH a == 0

/-! ### Pacing states (R188, R192 to R195, R200) -/

/-- STATE of the pacing of axis `a` set. As APPROACH begins, a start refused since the pace channel's last line is kept (R198, R200). -/
def setPace (s : State) (a st : Nat) : State :=
  let s := if st = 5 then
      let lost := (s.chan (s.rd AXS_PACE_CFG_CH a)).gap
      s.updPaceSt a fun p => { p with lost := lost } else s
  s.wr AXS_PACE_STAT_STATE st a

/-- STATE of the pacing of axis `a`. -/
def paceState (s : State) (a : Nat) : Nat := s.rd AXS_PACE_STAT_STATE a

/-- A seam pending or not (R194, R199). -/
def setSeam (s : State) (a : Nat) (b : Bool) : State :=
  (s.updPaceSt a fun p => { p with seam := b, rested := b && p.seam && p.rested }).wr AXS_PACE_STAT_SEAM_PEND (if b then 1 else 0) a

/-- The line pitch in force of axis `a`, times 65,536. -/
def pitch16 (s : State) (a : Nat) : Int := (s.ax a).pitch

/-- A grid position (in 1/65,536 microstep) at the scale of positions. -/
def gridScaled (g : Int) : Int := g * uStep / 65536

/-- The re-approach velocity, scaled (R195). -/
def stitchVel (s : State) (a : Nat) : Int := min ((s.rd AXS_STITCH_VEL_VEL a : Nat) * (tickK * tickK)) (axMotion s a).vmax

/-- The back-up point for `c` check starts (R195), scaled. -/
def backPoint (s : State) (a c : Nat) : Int :=
  let p := s.rd SNS_TPL_CFG_DLY (s.rd AXS_PACE_CFG_CH a) + 1
  gridScaled ((s.ax a).gridNext - (c + p + 1 : Nat) * pitch16 s a) - startDist (axMotion s a) (stitchVel s a)
    - s.rd AXS_BACKLASH_BACKLASH a * uStep

/-- The check starts that the soft limits leave (R196), from `c` down. -/
def checksFit (s : State) (a : Nat) (lo : Int) : Nat → Nat
  | 0 => 0
  | c + 1 => if backPoint s a (c + 1) ≥ lo then c + 1 else checksFit s a lo c

/-- The stitch sequence begins at BACKUP, or waits at rest with STITCH_EN at 0 (R195, R196). -/
def startBackup (s : State) (a : Nat) : State :=
  let prime := s.rd SNS_TPL_CFG_DLY (s.rd AXS_PACE_CFG_CH a) + 1
  let s := s.updPaceSt a fun p => { p with prime := prime, sent := 0, crossed := false, due := false, chks := [], res := -16384 }
  if !s.flag AXS_PACE_CFG_STITCH_EN a then setPace s a 4
  else
    let (c, b) := match softLimits s a with
      | some (lo, _) =>
        let c := checksFit s a lo 8
        (c, max lo (backPoint s a c))
      | none => (8, backPoint s a 8)
    setPace ((s.updPaceSt a fun p => { p with back := b }).wr AXS_PACE_STAT_CHECKS c a) a 3

/-- The stitch sequence of an axis at BACKUP is due: it begins at the tick at which the axis is at rest, from the position and under the
parameters of that tick (R156, R195, R200). -/
def backupDue (s : State) (a : Nat) : State := setPace (s.updPaceSt a fun p => { p with due := true, crossed := false }) a 3

/-- A paced axis leaves pacing with state `st`; its seam is pending unless `ends` (R194, R200). -/
def paceLeave (s : State) (a st : Nat) (ends abort : Bool) : State :=
  if paceState s a = 0 then s
  else
    let s := setPace ((setSeam s a (!ends)).updPaceSt a fun p => { p with due := false }) a st
    if abort then s.wr AXS_PACE_STAT_STITCH_ABORT 1 a else s

/-- What a MODE other than 3 does to the pacing (R200). -/
def paceAbandon (s : State) (a : Nat) : State :=
  let st := paceState s a
  if st == 6 then setPace s a 0 else paceLeave s a 0 false (st == 2 || st == 3 || st == 4 || st == 5 || st == 7)

/-- MODE 3 taken (R188, R189, R200). -/
def paceEnter (s : State) (a : Nat) : State :=
  let n := ((s.chan (s.rd AXS_PACE_CFG_CH a)).last).getD (2 ^ 32 - 1)
  let s := s.updPaceSt a fun p => { p with nStart := n, nRel := n, nPrev := n, r := 0, held := 0 }
  let s := paceSync (s.wr AXS_PACE_RATE_RATE 0 a) a
  if (s.paceSt a).seam then backupDue s a else setPace s a 1

/-! ### Modes and goals (R158, R164, R166) -/

/-- MODE of axis `a` set. -/
def setMode (s : State) (a m : Nat) : State :=
  let s := (s.wr AXS_CTRL_MODE m a).updAx a fun x => { x with newGoal := true, cap := none }
  if m = 3 then s else paceAbandon s a

/-- Whether a MODE is refused (R164, R166, R187). -/
def modeBad (s : State) (a m : Nat) : Bool :=
  goalsClosed s a ||
    (m == 1 && targetBad s a (s.rdS AXS_TARGET_TARGET a)) ||
    (m == 2 && limitAhead s a (sgn (s.rdS AXS_VTARGET_VTARGET a))) ||
    (m == 3 && (pacedBad s a || limitAhead s a 1))

/-- A write of a new MODE (R158, R166, R187). -/
def modeWrite (s : State) (a m : Nat) : State :=
  if m == 0 && (s.ax a).home == 0 then setMode s a 0
  else if modeBad s a m then goalRefused s a
  else
    let s := setMode s a m
    if m = 3 then paceEnter s a else s

/-- A write of `AXS_TARGET[a]` (R166). -/
def targetWrite (s : State) (a : Nat) (v : Word) : State :=
  if goalsClosed s a || targetBad s a (sext 32 v.toNat) then goalRefused s a
  else (s.set (AXS_TARGET.off a 0) v).updAx a fun x => { x with newGoal := true, cap := none }

/-- A write of `AXS_VTARGET[a]` (R164, R166). -/
def vtargetWrite (s : State) (a : Nat) (v : Word) : State :=
  if goalsClosed s a || (s.rd AXS_CTRL_MODE a == 2 && limitAhead s a (sgn (sext 32 v.toNat))) then goalRefused s a
  else (s.set (AXS_VTARGET.off a 0) v).updAx a fun x => { x with cap := none }

/-! ### Motion ended out of turn (R179, R184) -/

/-- The waiting microsteps dropped: the load stands at the last one issued. -/
def dropSteps (x : AxSt) (whole : Int) : AxSt :=
  if x.steps.any fun t => !t.2.2 then { x with p := whole * uStep, steps := [] }
  else
    let d := x.steps.foldl (fun n t => n + t.1) 0
    { x with gap := max (-x.bl) (min 0 (x.gap - d * uStep)), steps := [] }

/-- The axis stopped dead: no further microstep, velocity 0. -/
def axFreeze (s : State) (a : Nat) : State :=
  let w := axWhole s a
  axSync (s.updAx a fun x =>
    if x.v = 0 && x.steps == [] then { x with acc := 0, home := 0, limStop := 0, ramp := false, cap := none }
    else { dropSteps x w with v := 0, acc := 0, home := 0, limStop := 0, ramp := false, cap := none }) a

/-- The stop that a stall and an overcurrent share (R179, R184): MODE 0, REF clear, a paced axis in FAULT. -/
def stallStop (s : State) (a : Nat) : State :=
  let homing := (s.ax a).home != 0
  let s := (axFreeze s a).wr AXS_STAT_REF 0 a
  let s := if homing then raise (s.wr AXS_STAT_HOME_FAIL 1 a) (97 + 4 * a) else s
  let s := paceLeave s a 6 false true
  (s.wr AXS_CTRL_MODE 0 a).wr AXS_STAT_PHASE 0 a

/-- A stall declared (R184 to R186): the coils keep IRUN, a step down to IHOLD under way begins anew (R176). -/
def stall (s : State) (a : Nat) : State :=
  let s := stallStop s a
  let s := if s.flag AXS_SUP_STAT_HOLDING a then s else setIset s a (s.rd AXS_CUR_IRUN a)
  let s := (s.wr AXS_SUP_STAT_STALL 1 a).sat AXS_SUP_CNT_STALLS 1 a
  raise (s.updAx a fun x => { x with devTicks := 0, beyond := false, holdStep := 0, holdDue := false }) (99 + 4 * a)

/-! ### Deviation (R183 to R186) -/

/-- The encoder position in whole microsteps (R183). -/
def encPos (s : State) (a : Nat) : Int := divNearest (s.rdS AXS_ENC_COUNT a * s.rd AXS_ENC_RATIO_RATIO a) 65536

/-- The reference of the deviation (R183). -/
def devRef (s : State) (a : Nat) : Int := if s.flag AXS_ENC_CFG_ENC_SIDE a then axWhole s a else s.rdS AXS_MPOS_MPOS a

/-- The alignment taken so that the deviation is 0 (R183). -/
def align (s : State) (a : Nat) : State :=
  let d := devRef s a - encPos s a
  (s.updAx a fun x => { x with align := d, devTicks := 0, beyond := false }).wr AXS_DEV_DEV 0 a

/-- The deviation of this tick (R183). -/
def devNow (s : State) (a : Nat) : Int :=
  if s.flag AXS_ENC_CFG_ENC_SIDE a && s.rd AXS_STAT_PHASE a == 4 then s.rdS AXS_DEV_DEV a
  else devRef s a - encPos s a - (s.ax a).align

/-- No deviation is counted (R184, R185): the next tick beyond the window is a first one. -/
def noDeviation (s : State) (a : Nat) : State := s.updAx a fun x => { x with devTicks := 0, beyond := false }

/-- DEV_TIME consecutive ticks beyond the window are a stall; `first` starts a new count. -/
def devCount (s : State) (a : Nat) (out first : Bool) : State :=
  if !out then s.updAx a fun x => { x with devTicks := 0 }
  else
    let n := (if first then 0 else (s.ax a).devTicks) + 1
    if max 1 (s.rd AXS_DEV_CFG_DEV_TIME a) ≤ n then stall s a else s.updAx a fun x => { x with devTicks := n }

/-- ISET stands at IBOOST under the boost law, or no longer (R186): BOOST_MAX, and the event once while it does. -/
def atBoost (s : State) (a : Nat) (b : Bool) : State :=
  let was := (s.ax a).boosted
  let s := s.updAx a fun x => { x with boosted := b }
  if b then raiseIf (s.wr AXS_SUP_STAT_BOOST_MAX 1 a) (!was) (99 + 4 * a) else s

/-- The set current of this tick (R176, R186); `dev` the deviation. After a stall the boost law rests (R184). -/
def isetTick (s : State) (a : Nat) (dev : Int) : State :=
  let irun := s.rd AXS_CUR_IRUN a
  let ihold := s.rd AXS_CUR_IHOLD a
  let n := (s.ax a).holdStep
  if n != 0 then
    let v := divNearest ((ihold : Int) * 16 + ((irun : Int) - ihold) * (n - 1 : Nat)) 16
    let s := (setIset s a v.toNat).updAx a fun x => { x with holdStep := n - 1, boosted := false }
    if n = 1 then s.wr AXS_SUP_STAT_HOLDING 1 a else s
  else if s.flag AXS_SUP_STAT_HOLDING a then atBoost (setIset s a ihold) a false
  else if !(s.flag AXS_DEV_CFG_SUPMODE a && s.flag AXS_ENC_CFG_ENC_EN a) || s.flag AXS_SUP_STAT_STALL a then
    atBoost (setIset s a irun) a false
  else
    let old := s.rd AXS_SUP_STAT_ISET a
    let boost := s.rd AXS_CUR_IBOOST a
    let dir := if (s.ax a).v != 0 then sgn (s.ax a).v else if axBack s a then -1 else 1
    let lag := dir * dev
    let want := min (irun + (s.rd AXS_BOOST_BOOST_K a * (lag - s.rd AXS_BOOST_BOOST_DEAD a).toNat) / 256) boost
    let new := if old ≤ want then want else max want (old - 8)
    atBoost (setIset s a new) a (new == boost)

/-- The step down to IHOLD begins (R176), or waits until ISET is back at IRUN (R186). -/
def holdBegin (s : State) (a : Nat) : State :=
  if s.rd AXS_SUP_STAT_ISET a == s.rd AXS_CUR_IRUN a then s.updAx a fun x => { x with holdStep := 16, holdDue := false }
  else s.updAx a fun x => { x with holdDue := true }

/-- The deviation window of this tick (R184 to R186). -/
def devWindow (s : State) (a : Nat) (dev : Int) : State :=
  let win := s.rd AXS_DEV_CFG_DEV_WIN a
  if (s.ax a).noDev != 0 || !axOn s a || !s.flag AXS_CTRL_EN a || !s.flag AXS_ENC_CFG_ENC_EN a || win == 0 || s.flag AXS_SUP_STAT_STALL a then noDeviation s a
  else if s.flag AXS_DEV_CFG_SUPMODE a then
    let dir := if (s.ax a).v != 0 then sgn (s.ax a).v else if axBack s a then -1 else 1
    let first := (s.ax a).beyond
    devCount (s.updAx a fun x => { x with beyond := false }) a
      (decide (dir * dev > (win : Nat)) && s.rd AXS_SUP_STAT_ISET a == s.rd AXS_CUR_IBOOST a) first
  else
    let out := decide (win < dev.natAbs)
    let first := out && !(s.ax a).beyond
    let s := if first then
        raise ((s.wr AXS_SUP_STAT_DEV_WARN 1 a).sat AXS_SUP_CNT_DEV_WARNS 1 a) (99 + 4 * a) else s
    devCount (s.updAx a fun x => { x with beyond := out }) a out first

/-- Supervision of axis `a` in a tick (R183 to R186). -/
def supervise (s : State) (a : Nat) : State :=
  if !s.loaded 4 then s
  else
    let dev := if s.flag AXS_ENC_CFG_ENC_EN a then devNow s a else s.rdS AXS_DEV_DEV a
    let s := s.wr AXS_DEV_DEV (toBits 32 dev) a
    let s := if axOn s a then isetTick s a dev else s
    let s := if axOn s a && (s.ax a).holdDue && (s.ax a).v == 0 then holdBegin s a else s
    let s := devWindow s a dev
    s.updAx a fun x => { x with noDev := x.noDev - 1 }

/-! ### Line grid (R170, R171) -/

/-- The grid restarted at the first grid position ahead of the load (R170). -/
def gridRestart (s : State) (a : Nat) : State :=
  let pitch := pitch16 s a
  let org := s.rdS AXS_LINE_ORIGIN_ORIGIN a * 65536
  let here := (s.ax a).p * 65536 / uStep
  s.updAx a fun x => { x with gridNext := if pitch = 0 then x.gridNext else org + ((here - org) / pitch + 1) * pitch }

/-- The line grid of axis `a` as the registers give it in force, restarted ahead of the load (R170). -/
def gridTake (s : State) (a : Nat) : State :=
  gridRestart (s.updAx a fun x => { x with pitch := s.rd AXS_LINE_PITCH_PITCH a, gridNew := false }) a

/-- A write of LINE_PITCH or LINE_ORIGIN, which the next tick takes (R156, R170). -/
def gridWrite (s : State) (a : Nat) (origin : Bool) (v : Word) : State :=
  (s.set (if origin then AXS_LINE_ORIGIN.off a 0 else AXS_LINE_PITCH.off a 0) v).updAx a fun x => { x with gridNew := true }

/-- What a tick does first with a new grid: it takes it, and a pending seam is over (R156, R170, R195). -/
def gridTick (s : State) (a : Nat) : State := if (s.ax a).gridNew then setSeam (gridTake s a) a false else s

/-- LINE_SUSP and DIR follow the load from `p0` to `p1` (R171, R414). -/
def loadMoved (s : State) (a : Nat) (p0 p1 : Int) : State :=
  if p1 = p0 then s
  else
    let back := decide (p1 < p0)
    let s := if axBack s a != back then logbook (s.wr AXS_STAT_DIR (if back then 1 else 0) a) (84 + a) 1 else s
    if s.flag AXS_STAT_LINE_SUSP a != back then raise (s.wr AXS_STAT_LINE_SUSP (if back then 1 else 0) a) (98 + 4 * a) else s

/-- Whether the next line step of axis `a` is the first new line of a pending seam (R195, R200): in RUN and APPROACH, and in every other
state once the axis has been at rest since the seam is pending (notes/assumptions/99.md). -/
def seamNext (s : State) (a : Nat) : Bool :=
  let p := s.paceSt a
  let st := paceState s a
  p.seam && (st == 1 || st == 5 || p.rested)

/-- Whether the first new line of axis `a` belongs to a sequence with checks, whose residual it takes: it is stepped in APPROACH, or while
an APPROACH that P4's quiesce has HELD comes to rest. Any other one carries -16,384 (R195, R200). -/
def seamMeasured (s : State) (a : Nat) : Bool :=
  paceState s a == 5 || (paceState s a == 7 && (s.paceSt a).held == 5)

/-- The line step at the next grid position (R170, R195, R199). -/
def lineStep (s : State) (a : Nat) : State :=
  let seam := seamNext s a
  let s := s.updAx a fun x => { x with gridNext := x.gridNext + pitch16 s a }
  let meas := seamMeasured s a
  let s := if seam then (setSeam s a false).updPaceSt a fun p => { p with crossed := true, inSeq := meas }
    else if paceState s a == 5 then s.updPaceSt a fun p => { p with crossed := true } else s
  axisLine s a 0 0 seam

/-- The priming and check starts that whole load position `w` reaches in APPROACH (R195). -/
def approachStarts (s : State) (a : Nat) (w : Int) : State :=
  if paceState s a != 5 then s
  else
    let c := s.rd AXS_PACE_STAT_CHECKS a
    forEach (List.range ((s.paceSt a).prime + c)) s fun s i =>
      let p := s.paceSt a
      let g := (s.ax a).gridNext - ((p.prime + c : Nat) - (i : Nat) : Int) * pitch16 s a
      if i == p.sent && !p.crossed && decide (g ≤ w * 65536) then
        let s := s.updPaceSt a fun p => { p with sent := i + 1 }
        if i < p.prime then axisLine s a 1 i false else axisLine s a 2 (i - p.prime) false
      else s

/-- The line steps of a forward microstep to whole load position `w` (R170). -/
def gridReach (s : State) (a : Nat) (w : Int) : State :=
  let pitch := pitch16 s a
  let s := approachStarts s a w
  let g := (s.ax a).gridNext
  if pitch = 0 || w * 65536 < g then s
  else forEach (List.range (((w * 65536 - g) / pitch).toNat + 1)) s fun s _ => lineStep s a

/-- The oldest waiting microstep of axis `a` issued (R157, R169, R414): the state, and the direction of a Log tick. -/
def microstep (s : State) (a : Nat) : State × Option Bool :=
  match (s.ax a).steps with
  | [] => (s, none)
  | (d, w, tk) :: rest =>
    let s := s.updAx a fun x => { x with steps := rest }
    let s := syncQuad (s.wr AXS_MPOS_MPOS (toBits 32 (s.rdS AXS_MPOS_MPOS a + d)) a) a
    let s := logbook s (80 + a) 1
    if tk then (s, none) else (if d > 0 then gridReach s a w else s, some (decide (d < 0)))

/-! ### Homing (R167, R168) -/

/-- The home sequence fails (R168). -/
def homeFail (s : State) (a : Nat) : State :=
  raise ((s.updAx a fun x => { x with home := 0 }).wr AXS_STAT_HOME_FAIL 1 a) (97 + 4 * a)

/-- The sign of HOME_DIR. -/
def homeDir (s : State) (a : Nat) : Int := if s.flag AXS_HOME_HOME_DIR a then 1 else -1

/-- HOME written (R167). -/
def homeStart (s : State) (a : Nat) : State :=
  if goalsClosed s a || limitAhead s a (homeDir s a) then goalRefused s a
  else
    let s := setMode s a 0
    (s.wr AXS_STAT_REF 0 a).updAx a fun x => { x with home := 1, homeFrom := x.p }

/-- The goal of a step of the home sequence. -/
def homeGoal (s : State) (a step : Nat) : Goal :=
  let w : Int := s.rd AXS_HOME_HOME_VEL a * (tickK * tickK)
  if step = 1 then .vel (homeDir s a * w) else if step = 3 then .vel (-(homeDir s a) * (w / 8)) else .hold

/-- Step 5 (R167): the position redefined so that the latched point equals HOME_OFFSET; a jump for a Log that the axis feeds. -/
def homeEnd (s : State) (a : Nat) : State :=
  let shift := s.rdS AXS_HOME_OFFSET_OFFSET a - (s.ax a).homeEdge
  let s := s.updAx a fun x => { x with p := x.p + shift * uStep, home := 0 }
  let s := syncQuad (s.wr AXS_MPOS_MPOS (toBits 32 (s.rdS AXS_MPOS_MPOS a + shift)) a) a
  let s := forEach (List.range 4) s fun s n =>
    if s.rd LOG_CFG_SRC n == 3 + a && s.loaded 0 then logJump s n (toBits 48 (logValue s n + shift)) else s
  let s := align (gridRestart (s.wr AXS_STAT_REF 1 a) a) a
  raise (axSync s a) (96 + 4 * a)

/-- The home sequence before the planner's rule of a tick: its step from rest, and the failure by distance (R167, R168). -/
def homeTick (s : State) (a : Nat) : State :=
  let x := s.ax a
  let far : Nat := (let m := s.rd AXS_HOME_MAXDIST a; if m = 0 then 256 else m) * 65536
  if x.home == 1 && decide ((x.p - x.homeFrom).natAbs ≥ far * uStep.natAbs) then homeFail s a
  else if x.home == 2 && x.v == 0 then s.updAx a fun x => { x with home := 3 }
  else if x.home == 4 && x.v == 0 && x.steps == [] then homeEnd s a
  else s

/-! ### Limit stops (R164, R194) -/

/-- A stop at the limit in direction `dir` begins. -/
def limitBegin (s : State) (a : Nat) (dir : Int) : State :=
  let s := if (s.ax a).home != 0 && decide ((s.ax a).home < 4) then homeFail s a else s
  s.updAx a fun x => { x with limStop := 1, limDir := dir, acc := 0 }

/-- A limit stop is at rest (R164, R194): the bit of the limit that stopped the axis, where it is still active. The supervision of this
tick counts no deviation, nor that of the 64 ticks after it (R185). -/
def limitEnd (s : State) (a : Nat) : State :=
  let dir := (s.ax a).limDir
  let s := if dir > 0 && fnActive s a 3 then s.wr AXS_STAT_AT_LIMIT_POS 1 a
    else if dir < 0 && fnActive s a 2 then s.wr AXS_STAT_AT_LIMIT_NEG 1 a else s
  let s := s.updAx a fun x => { x with limStop := 0, noDev := 65 }
  let s := if paceState s a != 0 then (paceLeave s a 0 true true).wr AXS_PACE_STAT_PAGE_END 1 a else s
  raise (setMode s a 0) (97 + 4 * a)

/-- The values of an accepted edge latched (R163). -/
def latchEdge (s : State) (a sw : Nat) (act : Bool) (x : SwSt) : State :=
  let s := s.wr AXS_LATCH_POS_POS (toBits 32 x.pos) a
  let s := s.wr AXS_LATCH_ENC_ENC x.enc a
  let s := s.wr2 AXS_LATCH_TIME_LO_NS AXS_LATCH_TIME_HI_NS x.time a
  let s := if s.flag AXS_LATCH_INFO_VALID a then s.wr AXS_LATCH_INFO_OVER 1 a else s
  ((s.wr AXS_LATCH_INFO_VALID 1 a).wr AXS_LATCH_INFO_SWITCH sw a).wr AXS_LATCH_INFO_EDGE (if act then 0 else 1) a

/-- What an accepted edge of the switch of function `fn` does to the motion (R164, R167); `w` is the latched position. -/
def edgeAct (s : State) (a fn : Nat) (act : Bool) (w : Int) : State :=
  if fn = 1 then
    if act && (s.ax a).home == 1 then s.updAx a fun x => { x with home := 2 }
    else if !act && (s.ax a).home == 3 then s.updAx a fun x => { x with home := 4, homeEdge := w }
    else s
  else
    let dir : Int := if fn = 3 then 1 else -1
    if act then (if axOn s a && sgn (s.ax a).v == dir && (s.ax a).limStop == 0 then limitBegin s a dir else s)
    else if fnActive s a fn then s
    else s.wr (if fn = 3 then AXS_STAT_AT_LIMIT_POS else AXS_STAT_AT_LIMIT_NEG) 0 a

/-- Switch `sw` of axis `a`. -/
def State.sw (s : State) (a sw : Nat) : SwSt := if sw = 0 then (s.ax a).swA else (s.ax a).swB

/-- The state with a switch of axis `a` replaced. -/
def State.setSw (s : State) (a sw : Nat) (x : SwSt) : State := s.updAx a fun y => if sw = 0 then { y with swA := x } else { y with swB := x }

/-- A switch sampled at `level` (R162, R163): the first sample of a new level keeps what a latch takes. Answers whether the level is
accepted with it, after SW_FILT µs, or at once with SW_FILT 0. -/
def switchSample (s : State) (a sw : Nat) (level : Bool) : State × Bool :=
  let x := s.sw a sw
  let x := if level == x.raw then x
    else { x with raw := level, since := s.elapsed, pos := axWhole s a, enc := s.rd AXS_ENC_COUNT a, time := s.chrono }
  let new := x.raw != x.acc && decide (1000 * s.rd AXS_CFG_SW_FILT a ≤ s.elapsed - x.since)
  (s.setSw a sw (if new then { x with acc := x.raw } else x), new)

/-- One sample of the switch inputs of axis `a` (R162 to R164, R166, R167). Of a limit and a HOME edge accepted in it, the latch registers
keep the limit's values, and its stop comes after the home sequence has taken the HOME edge (notes/assumptions/41.md). -/
def switchEdge (s : State) (a : Nat) (la lb : Bool) : State :=
  let x := switchSample s a 0 la
  let y := switchSample x.1 a 1 lb
  let s := y.1
  if !s.loaded 4 then s
  else
    let l := (if x.2 then [0] else []) ++ (if y.2 then [1] else [])
    let homes := l.filter fun sw => swFn s a sw == 1
    let limits := l.filter fun sw => decide (2 ≤ swFn s a sw)
    let act (s : State) (sw : Nat) := swActive s a sw (s.sw a sw).acc
    let s := forEach (if limits == [] then homes else limits) s fun s sw => latchEdge s a sw (act s sw) (s.sw a sw)
    forEach (homes ++ limits) s fun s sw => edgeAct (raise s (97 + 4 * a)) a (swFn s a sw) (act s sw) (s.sw a sw).pos

/-! ### The pacing law (R189, R192) -/

/-- The lines that the axis will still step before rest (R192). -/
def linesToStop (s : State) (a : Nat) : Int :=
  let x := s.ax a
  let m := axMotion s a
  let v : Int := x.v.natAbs
  let pitch := pitch16 s a
  if pitch ≤ 0 then 0
  else if !m.prof1 then -((-(v * v * 65536)) / (2 * m.dmax * (tickK * tickK * tickK * tickK) * pitch))
  else -((-(stopDist m v (sgn x.v * x.acc) * 65536)) / (uStep * pitch))

/-- The drain estimate of this tick (R189). -/
def paceDrain (s : State) (a : Nat) : State :=
  let p := s.paceSt a
  let dr : Int := dist p.nPrev p.nRel
  let r := if paceState s a == 1 then p.r + (dr * 125000 - p.r) / 2 ^ s.rd AXS_PACE_CFG_DRAIN_SHIFT a else p.r
  let s := s.updPaceSt a fun p => { p with r := r, nPrev := p.nRel }
  if paceState s a == 1 then s.wr AXS_PACE_RATE_RATE (min r.toNat (2 ^ 20 - 1)) a else s

/-- Lines in flight of axis `a` (R188), as though at STOP while a PAUSE_SCAN slot holds it (R370). -/
def inflight (s : State) (a : Nat) : Nat :=
  let p := s.paceSt a
  if scanPaused s a then s.rd AXS_PACE_LVL_STOP a else dist p.nRel p.nStart

/-- The velocity goal of RUN (R189), scaled. -/
def paceGoal (s : State) (a : Nat) : Int :=
  let rate := (s.paceSt a).r + ((s.rd AXS_PACE_GAIN_KP a : Int) * (s.rd AXS_PACE_CFG_SETPOINT a - inflight s a)) / 16
  let rate := max 0 (min rate (s.rd AXS_PACE_GAIN_RATE_MAX a))
  min (rate * pitch16 s a / 65536 * (tickK * tickK)) (axMotion s a).vmax

/-- The pacing of a tick before the planner's rule (R189, R192, R195). -/
def paceTick (s : State) (a : Nat) : State :=
  if paceState s a == 0 || s.quiescing 4 then s
  else
    let s := if (s.paceSt a).due && (s.ax a).v == 0 then startBackup s a else s
    let s := if paceState s a == 5 && (s.paceSt a).crossed then
        let r := stitchVel s a / (tickK * tickK) * 65536 / pitch16 s a
        setPace (s.updPaceSt a fun p => { p with r := r, crossed := false }) a 1
      else s
    let s := paceDrain s a
    match paceState s a with
    | 1 =>
      if (inflight s a : Int) + linesToStop s a + 1 ≥ s.rd AXS_PACE_LVL_STOP a then setSeam (setPace s a 2) a true else s
    | 4 =>
      if inflight s a ≤ s.rd AXS_PACE_LVL_RESUME a then setPace s a (if s.flag AXS_PACE_CFG_STITCH_EN a then 5 else 1) else s
    | _ => s

/-- The goal of a paced axis (R189, R192, R195). -/
def pacedGoal (s : State) (a : Nat) : Goal :=
  match paceState s a with
  | 1 => .vel (paceGoal s a)
  | 3 => if (s.paceSt a).due then .hold else .pos (s.paceSt a).back
  | 5 => .vel (stitchVel s a)
  | _ => .hold

/-- The pacing of a tick after the planner's rule: rest (R192 to R195). `was` says whether the axis moved before. -/
def paceRest (s : State) (a : Nat) (was landed : Bool) : State :=
  let st := paceState s a
  if st == 0 || (s.ax a).v != 0 || s.quiescing 4 then s
  else
    let atSoft := match softLimits s a with
      | some (lo, hi) => (s.ax a).p == hi || (s.ax a).p == lo
      | none => false
    if was && atSoft && (st == 1 || st == 2 || st == 5) then
      setMode ((paceLeave s a 0 true false).wr AXS_PACE_STAT_PAGE_END 1 a) a 0
    else if st == 1 && was && paceGoal s a == 0 then startBackup (setSeam s a true) a
    else if st == 2 then startBackup s a
    else if st == 3 && landed then setPace s a 4
    else s

/-! ### DMAX and JMAX (R172) -/

/-- Whether a ramp still holds at motor distance `r` from its target: the rule of R159 may leave it for a tick while it is within two
ticks of travel of the stopping distance. -/
def rampHolds (m : Motion) (x : AxSt) (r : Option Int) : Bool :=
  x.ramp && (match r with
    | some r => withinStop m x.v.natAbs (sgn x.v * x.acc) (r - 3 * (x.v.natAbs : Int))
    | none => false)

/-- DMAX, or JMAX with `jerk`, as it is in force, as it is written, and the written value that a test has already deferred. -/
def rampPar (s : State) (a : Nat) (jerk : Bool) : Nat × Nat × Option Nat :=
  let x := s.ax a
  if jerk then (x.jmax, s.rd AXS_JMAX_JMAX a, x.testedJ) else (x.dmax, s.rd AXS_DMAX_DMAX a, x.tested)

/-- DMAX, or JMAX, put into force at `v` with its deferral `t`. -/
def setRampPar (s : State) (a : Nat) (jerk : Bool) (v : Nat) (t : Option Nat) : State :=
  s.updAx a fun x => if jerk then { x with jmax := v, testedJ := t } else { x with dmax := v, tested := t }

/-- A written DMAX, or JMAX, tested (R172): `r` is the motor distance to the target of a ramp, none where there is none. Out of a ramp it
applies, and JMAX always does under PROFILE 0; a deferred one waits until the ramp, with the cruise of another value's recomputed ramp, is
over. -/
def takeRampPar (s : State) (a : Nat) (r : Option Int) (jerk : Bool) : State :=
  let x := s.ax a
  let (old, new, t) := rampPar s a jerk
  let m := axMotion s a
  let holds := rampHolds m x r
  if new == old then setRampPar s a jerk old none
  else if jerk && !x.prof1 then setRampPar s a jerk new none
  else if x.v == 0 || (!holds && (t.isNone || x.cap.isNone)) then (setRampPar s a jerk new none).updAx a fun x => { x with ramp := false }
  else if t == some new then s
  else
    let m := if jerk then { m with jmax := 256 * max 1 new } else { m with dmax := max 1 new }
    let fits := match r with
      | none => true
      | some r => !withinStop m x.v.natAbs (sgn x.v * x.acc) (r + 1)
    if holds && (decide (old < new) || fits) then
      (setRampPar s a jerk new none).updAx a fun x => { x with ramp := false, cap := some x.v.natAbs }
    else
      raise (((setRampPar s a jerk old (some new)).wr AXS_STAT_ACCEL_DEFERRED 1 a).sat AXS_CNT_DEFERRED 1 a) (98 + 4 * a)

/-- DMAX and JMAX of a tick (R172), each tested with the other in force: an increase of JMAX before DMAX, a decrease of it after. -/
def takeDmax (s : State) (a : Nat) (r : Option Int) : State :=
  let p := rampPar s a true
  let first := decide (p.1 < p.2.1)
  takeRampPar (takeRampPar s a r first) a r (!first)

/-! ### Choppers (R177 to R180) -/

/-- Coil `coil` of axis `a` enters BLANK_ON, with which a chopper cycle begins and waiting trims take force (R408); coil A triggers TSRC 5
(R313). -/
def blankOn (s : State) (a coil : Nat) : State :=
  let s := trimTake s (26 + 2 * a + coil)
  let t := (coilTarget s a coil).natAbs
  let s := s.updCoilSt (2 * a + coil) fun c => { c with st := 1, fast := false, nowT := t }
  if coil = 0 then trigBySource s 5 fun sel => sel % 4 == a else s

/-- Coil `coil` of axis `a` enters BLANK_OFF (R178). -/
def blankOff (s : State) (a coil maxon : Nat) : State :=
  let d := s.rd AXS_CHOP_DECAY a
  let fast := coilTarget s a coil != 0 && (d == 1 || (decide (2 ≤ d) && s.rd AXS_CHOP_TFAST a != 0))
  s.updCoilSt (2 * a + coil) fun c => { c with st := 3, fast := fast, maxon := maxon }

/-- A chopper cycle of coil `coil` ends and the next begins (R177, R181): its T counts in the passage, which ends after 256 cycles while the
axis rests. -/
def cycleEnd (s : State) (a coil : Nat) : State :=
  let rest := (s.ax a).v == 0
  let s := s.updCoilSt (2 * a + coil) fun c =>
    let c := { c with cycles := c.cycles + 1, sumT := c.sumT + c.nowT }
    if rest && decide (256 ≤ c.cycles) then passageEnd c c.quad else c
  blankOn s a coil

/-- The choppers of axis `a` to IDLE: all PWM outputs low. The stay in a quadrant goes on in the present one (R181). -/
def choppersIdle (s : State) (a : Nat) : State :=
  let c : CoilSt := { quad := s.rd AXS_SUP_STAT_QUAD a }
  (s.setCoilSt (2 * a) c).setCoilSt (2 * a + 1) c

/-- The choppers of an axis that is on leave IDLE where nothing holds them there (R177). -/
def wakeCoils (s : State) (a : Nat) : State :=
  if !axOn s a || calHoldsAxes s || s.pwr.d2dDown then s
  else forEach [0, 1] s fun s coil => if (s.coilSt (2 * a + coil)).st == 0 then blankOn s a coil else s

/-! ### The tick (R156 to R161) -/

/-- The goal of axis `a` in this tick. -/
def axGoal (s : State) (a : Nat) : Goal :=
  let x := s.ax a
  if x.limStop != 0 || s.quiescing 4 || calHoldsAxes s then .hold
  else if x.home != 0 then homeGoal s a x.home
  else match s.rd AXS_CTRL_MODE a with
    | 1 => .pos (s.rdS AXS_TARGET_TARGET a * uStep)
    | 2 => .vel (s.rdS AXS_VTARGET_VTARGET a * (tickK * tickK))
    | 3 => pacedGoal s a
    | _ => .hold

/-- The motor distance to the target of the goal, for R172. -/
def goalDist (s : State) (a : Nat) : Goal → Option Int
  | .pos t =>
    let x := s.ax a
    some ((t - x.p).natAbs + takeupAhead x (axBack s a) (s.rd AXS_BACKLASH_BACKLASH a * uStep) (sgn (t - x.p)))
  | .vel w =>
    match softLimits s a with
    | some (lo, hi) => some ((if w > 0 then hi - (s.ax a).p else (s.ax a).p - lo).natAbs : Nat)
    | none => none
  | .hold => none

/-- PHASE shown; a tick of which a part is take-up is one (R169). -/
def axPhase (s : State) (a : Nat) (v0 : Int) (tk : Bool) : Nat :=
  let x := s.ax a
  if tk then 4
  else if x.limStop != 0 then 6
  else if x.home != 0 then 5
  else if x.v = 0 then 0
  else if x.v.natAbs > v0.natAbs then 1
  else if x.v.natAbs < v0.natAbs then 3
  else 2

/-- The plan of a tick (R159, R160, R164, R165). A stop at a limit goes by the DSTOP and DMAX of the tick (R156). -/
def axPlan (s : State) (a : Nat) : Plan :=
  let x := s.ax a
  let m := axMotion s a
  let bl := s.rd AXS_BACKLASH_BACKLASH a * uStep
  if x.limStop != 0 then
    if s.rd AXS_DSTOP_DSTOP a == 0 then ⟨0, 0, 0, false, false⟩
    else let b := brake { m with dmax := max m.dmax (s.rd AXS_DSTOP_DSTOP a), prof1 := false } x.v 0
    ⟨b.1, 0, b.1, false, false⟩
  else
    let soft := softLimits s a
    planGoal m x (axBack s a) bl (soft.map fun p => p.1) (soft.map fun p => p.2) (axGoal s a)

/-- The plan carried out: motion, registers, and the ends of moves (R157, R161, R164, R171). -/
def axMove (s : State) (a : Nat) (pl : Plan) : State :=
  let x0 := s.ax a
  let bl := s.rd AXS_BACKLASH_BACKLASH a * uStep
  let x1 := engage x0 (axBack s a) bl (sgn pl.d)
  let x := moveMotor x1 pl.d
  let tk := x.gap != x1.gap
  let ramp := pl.v != 0 && (pl.ramp || rampHolds (axMotion s a) x0 (goalDist s a (axGoal s a)))
  let cap := if pl.v = 0 then none else x.cap
  let s := s.setAx a { x with v := pl.v, acc := pl.acc, ramp := ramp, cap := cap, holdDue := x.holdDue && pl.d == 0 }
  let s := loadMoved s a x0.p x.p
  let s := axSync s a
  let s := if (s.ax a).limStop != 0 && pl.v = 0 then limitEnd s a else s
  let s := s.wr AXS_STAT_PHASE (axPhase s a x0.v tk) a
  let s := if pl.landed && s.rd AXS_CTRL_MODE a == 1 && (s.ax a).newGoal && (s.ax a).home == 0 then
      raise (s.updAx a fun x => { x with newGoal := false }) (96 + 4 * a) else s
  paceRest s a (x0.v != 0) pl.landed

/-- One planner tick of axis `a` (R156, R176). -/
def axTick (s : State) (a : Nat) : State :=
  let s := if s.loaded 4 then gridTick s a else s
  let s := if (s.ax a).v == 0 && (s.paceSt a).seam then s.updPaceSt a fun p => { p with rested := true } else s
  if !axOn s a then supervise s a
  else
    let s := wakeCoils s a
    let s := if (s.ax a).v == 0 then s.updAx a fun x => { x with prof1 := s.flag AXS_CTRL_PROFILE a } else s
    let s := homeTick s a
    let s := paceTick s a
    let s := takeDmax s a (goalDist s a (axGoal s a))
    let pl := axPlan s a
    let dir := sgn pl.d
    let s :=
      if pl.d != 0 && limitAhead s a dir && (s.ax a).limStop == 0 then
        if (s.ax a).v == 0 then (if (s.ax a).home != 0 then homeFail s a else s)
        else let s := limitBegin s a dir; axMove s a (axPlan s a)
      else if pl.d != 0 && (s.ax a).v == 0 && (s.flag AXS_SUP_STAT_HOLDING a || (s.ax a).holdStep != 0) then
        (setIset s a (s.rd AXS_CUR_IRUN a)).wr AXS_SUP_STAT_HOLDING 0 a |>.updAx a fun x => { x with holdStep := 0, holdDue := false }
      else axMove s a pl
    supervise s a

/-! ### Enabling (R177 to R180) -/

/-- The bridge of an axis at rest goes low where the factory run holds it, or the entry into standby has cleared its EN (R402, R436). -/
def axRest (s : State) (a : Nat) : State :=
  if !s.loaded 4 || (s.ax a).v != 0 then s
  else if calHoldsAxes s then (choppersIdle s a).wr AXS_STAT_REF 0 a
  else if s.flag AXS_CTRL_EN a then s else choppersIdle s a

/-- EN of axis `a` set (R177, R183). -/
def axEnable (s : State) (a : Nat) : State :=
  if s.flag AXS_STAT_CFG_ERR a || s.flag AXS_SUP_STAT_OVERCURRENT a then s
  else
    let s := align (setIset ((s.wr AXS_CTRL_EN 1 a).wr AXS_SUP_STAT_HOLDING 0 a) a (s.rd AXS_CUR_IRUN a)) a
    wakeCoils (s.updAx a fun x => { x with holdStep := 0, holdDue := false }) a

/-- EN of axis `a` cleared: its motion ends and its bridge goes low. -/
def axDisable (s : State) (a : Nat) : State :=
  let s := choppersIdle (axFreeze (s.wr AXS_CTRL_EN 0 a) a) a
  let s := (s.wr AXS_SUP_STAT_HOLDING 0 a).updAx a fun x => { x with holdStep := 0, holdDue := false }
  (setMode s a 0).wr AXS_STAT_PHASE 0 a

/-- A current of coil `coil` above 480 mV (R179), which a blanking interval hides. A bridge whose outputs are low already is not driven. -/
def overcurrent (s : State) (a coil : Nat) : State :=
  let st := (s.coilSt (2 * a + coil)).st
  if st == 0 || st == 1 || st == 3 then s
  else
    let s := choppersIdle ((stallStop s a).wr AXS_CTRL_EN 0 a) a
    raise (s.wr AXS_SUP_STAT_OVERCURRENT 1 a) (99 + 4 * a)

/-- A write of `AXS_CTRL[a]` (R158, R167). -/
def axCtrl (s : State) (a v : Nat) : State :=
  let s := s.wr AXS_CTRL_PROFILE (bitsOf v 25 1) a
  let s := if bit v 31 && !s.flag AXS_CTRL_EN a then axEnable s a
    else if !bit v 31 && s.flag AXS_CTRL_EN a then axDisable s a else s
  let m := if bit v 30 then 0 else bitsOf v 26 2
  let s := if bit v 30 || m != s.rd AXS_CTRL_MODE a || (m == 3 && (s.paceSt a).seam) then modeWrite s a m else s
  if bit v 29 then homeStart s a else s

/-- CFG_ERR of every axis brought up to date; an axis with it is off. -/
def axRefresh (s : State) : State :=
  forEach (List.range 4) s fun s a =>
    let bad := decide (8 < s.rd AXS_CFG_MRES a) || (List.range a).any fun b => s.rd AXS_CFG_BRIDGE b == s.rd AXS_CFG_BRIDGE a
    let s := s.wr AXS_STAT_CFG_ERR (if bad then 1 else 0) a
    let s := s.wr AXS_SUP_STAT_NO_ENC (if s.flag AXS_ENC_CFG_ENC_EN a then 0 else 1) a
    let s := syncQuad s a
    if bad && s.flag AXS_CTRL_EN a then axDisable s a else s

/-- STALL cleared realigns the deviation (R183). -/
def stallClear (s : State) (a : Nat) : State := if s.flag AXS_SUP_STAT_STALL a then align (s.wr AXS_SUP_STAT_STALL 0 a) a else s

/-- A write of `AXS_OFFS_CFG[a]` (R182). -/
def offsCfg (s : State) (a : Nat) (v : Word) : State :=
  let s := s.set (AXS_OFFS_CFG.off a 0) (v &&& 0x80FF000F#32)
  if bit v.toNat 30 then forEach (List.range 8) s fun s k => s.wr AXS_OFFS_OFFS 0 a k else s

/-- The offset of a coil adapted by the passage that has ended (R181); `sumMeas` is the sum of the mean currents measured in its cycles. -/
def adaptEnd (s : State) (a coil : Nat) (sumMeas : Int) : State :=
  match (s.coilSt (2 * a + coil)).ended with
  | none => s
  | some (q, cycles, sumT) =>
    let s := s.updCoilSt (2 * a + coil) fun c => { c with ended := none }
    if !s.loaded 4 || !s.flag AXS_OFFS_CFG_ADAPT_EN a then s
    else
      let k := 4 * coil + q
      let lim : Int := s.rd AXS_OFFS_CFG_OFFS_MAX a
      let step := divNearest (sumMeas - sumT) (cycles * 2 ^ s.rd AXS_OFFS_CFG_GAIN_SHIFT a)
      s.wr AXS_OFFS_OFFS (toBits 16 (max (-lim) (min lim (s.rdS AXS_OFFS_OFFS a k - step)))) a k

/-- The quadrant place of a pair of encoder levels along a forward turn. -/
def quadPlace (p q : Bool) : Nat := if p then (if q then 2 else 1) else (if q then 3 else 0)

/-- A sample of an axis encoder's inputs (R55, R183): the levels accepted under ENC_FILT, and the count with ENC_EN at 1. -/
def axisEncoder (s : State) (a : Nat) (ea eb : Bool) : State :=
  let x := (s.ax a).encIn
  let f := s.rd AXS_ENC_CFG_ENC_FILT a
  let p := sampleInput f x.rawA x.a ea
  let q := sampleInput f x.rawB x.b eb
  let s := s.updAx a fun y => { y with encIn := { x with a := p.2, b := q.2, rawA := p.1, rawB := q.1 } }
  if !s.loaded 4 || !s.flag AXS_ENC_CFG_ENC_EN a then s
  else
    let d := (quadPlace p.2 q.2 + 4 - quadPlace x.a x.b) % 4
    let step : Int := if d = 1 then 1 else if d = 3 then -1 else 0
    let step := if s.flag AXS_ENC_CFG_ENC_INV a then -step else step
    s.wr AXS_ENC_COUNT (toBits 32 (s.rdS AXS_ENC_COUNT a + step)) a

/-- `P4` begins to quiesce: paced axes are HELD (R200). -/
def axesQuiesce (s : State) : State :=
  forEach (List.range 4) s fun s a =>
    let st := paceState s a
    if st == 0 || st == 6 || st == 7 then s
    else
      let s := if st == 1 then setSeam s a true else s
      setPace (s.updPaceSt a fun p => { p with held := st, due := false }) a 7

/-- `P4` released: the held sequences go on, from BACKUP or in WAIT (R200). One whose first new line was stepped as it came to rest ends in
a seam of its own (notes/assumptions/99.md). -/
def axesRelease (s : State) : State :=
  forEach (List.range 4) s fun s a =>
    if paceState s a != 7 then s
    else if (s.paceSt a).held = 4 then setPace s a 4
    else backupDue (if (s.paceSt a).crossed then setSeam s a true else s) a

/-! ### The rows of the table -/

/-- `PLANNER_TICK` (R156): the next multiple of 8,000 ns of the elapsed count, and the tick of the four axes. -/
def execPlannerTick (s : State) : Host.Outcome State Fault Refusal :=
  done (forEach (List.range 4) (s.runTimer 0 8000) fun s a => axRest (axTick s a) a)

/-- `SWITCH_EDGE` (R162, R163): a sample of the two switch inputs of an axis at elapsed count `now`, one with which an edge is accepted or
not. -/
def execSwitchEdge (a : Fin 4) (la lb : Bool) (now : Nat) (s : State) : Host.Outcome State Fault Refusal :=
  done (switchEdge (s.passTo now) a la lb)

/-- `CHOPPER_BLANK_END` (R177). -/
def execChopperBlankEnd (a : Fin 4) (coil : Fin 2) (s : State) : Host.Outcome State Fault Refusal :=
  done (
    let c := s.coilSt (2 * a + coil)
    if c.st == 1 || c.st == 3 then s.setCoilSt (2 * a + coil) { c with st := c.st + 1 } else s)

/-- `CHOPPER_THRESHOLD` (R177). -/
def execChopperThreshold (a : Fin 4) (coil : Fin 2) (s : State) : Host.Outcome State Fault Refusal :=
  done (if (s.coilSt (2 * a + coil)).st == 2 then blankOff s a coil 0 else s)

/-- `CHOPPER_MAXON` (R177, R180). -/
def execChopperMaxon (a : Fin 4) (coil : Fin 2) (s : State) : Host.Outcome State Fault Refusal :=
  done (
    let c := s.coilSt (2 * a + coil)
    if c.st == 1 then (blankOff s a coil 0).updCoilSt (2 * a + coil) fun c => { c with bad := true }
    else if c.st == 2 then
      let n := if 128 ≤ (coilTarget s a coil).natAbs then c.maxon + 1 else 0
      if n < 8 then blankOff s a coil n
      else raise ((blankOff s a coil 0).wr (if coil.val = 0 then AXS_SUP_STAT_OPEN_A else AXS_SUP_STAT_OPEN_B) 1 a) (99 + 4 * a)
    else s)

/-- `CHOPPER_OFF_END` (R177). -/
def execChopperOffEnd (a : Fin 4) (coil : Fin 2) (s : State) : Host.Outcome State Fault Refusal :=
  done (if (s.coilSt (2 * a + coil)).st == 4 then cycleEnd s a coil else s)

/-- `FAST_DECAY_END` (R178). -/
def execFastDecayEnd (a : Fin 4) (coil : Fin 2) (s : State) : Host.Outcome State Fault Refusal :=
  done (s.updCoilSt (2 * a + coil) fun c => { c with fast := false })

/-- `OVERCURRENT` (R179). -/
def execOvercurrent (a : Fin 4) (coil : Fin 2) (s : State) : Host.Outcome State Fault Refusal := done (overcurrent s a coil)

/-- `ADAPT_PASSAGE_END` (R181). -/
def execAdaptPassageEnd (a : Fin 4) (coil : Fin 2) (sumMeas : Int) (s : State) : Host.Outcome State Fault Refusal :=
  done (adaptEnd s a coil sumMeas)

/-- `HOLD_CURRENT_TIMEOUT` (R176, R186). -/
def execHoldCurrentTimeout (a : Fin 4) (s : State) : Host.Outcome State Fault Refusal :=
  done (
    if axOn s a && (s.ax a).v == 0 && s.rd AXS_HOLD_THOLD a != 0 && !s.flag AXS_SUP_STAT_HOLDING a && (s.ax a).holdStep == 0 then
      holdBegin s a
    else s)

/-- `AXIS_ENCODER_EDGE` (R183): a sample of the encoder inputs of an axis at elapsed count `now`, one with which an edge is accepted or
not. -/
def execAxisEncoderEdge (a : Fin 4) (ea eb : Bool) (now : Nat) (s : State) : Host.Outcome State Fault Refusal :=
  done (axisEncoder (s.passTo now) a ea eb)

end Sys2Proof.Machine
end

