-- ==== Sys2Proof/Machine/Histo.lean ====
section
/-! DEFINITION. The analysis of histograms (spec/11_histograms.md, R234 to R240) on plain lists: pile-up correction, floors, peaks, the
choice of the surface and its centroid. -/

namespace Sys2Proof.Machine

/-- The bins of a histogram as an array of 1,024 counts. -/
abbrev Hist := Array Nat

/-- A bin, 0 outside the histogram. -/
def Hist.at (h : Hist) (b : Int) : Nat := if b < 0 then 0 else h.getD b.toNat 0

/-- The sums of the first `k` bins, `k` from 0 to the size. -/
def prefixSums (l : List Nat) : Array Nat := ((l.foldl (fun a x => (a.1.push (a.2 + x), a.2 + x)) ((#[0] : Array Nat), 0))).1

/-- The sum of the bins from `a` up to but not including `b`, both clamped to the histogram. -/
def sumRange (pre : Array Nat) (a b : Int) : Nat :=
  let n : Int := pre.size - 1
  let lo := (max 0 (min n a)).toNat
  let hi := (max 0 (min n b)).toNat
  if hi ≤ lo then 0 else pre.getD hi 0 - pre.getD lo 0

/-- The count of shots whose fourth event fell in a block below block `m` (R234). -/
def satBelow (sat : List (Nat × Nat)) (ch m : Nat) : Nat :=
  (List.range m).foldl (fun n k => n + kvGet (fun _ => 0) sat (32 * ch + k)) 0

/-- The pile-up correction of R234: each bin's corrected count and whether few shots were live. `d` is the bins in 2 ns, `sat b` and
`pre b` the shots made blind at bin `b` by a fourth event and by events before the window. -/
def pileUp (en : Bool) (n d : Nat) (sat pre : Nat → Nat) (h : Hist) : Hist × Array Bool :=
  if !en || n == 0 then (h, Array.replicate 1024 false)
  else
    let ps := prefixSums h.toList
    let one (b : Nat) : Nat × Bool :=
      let live : Int := (n : Int) - (sumRange ps ((b : Int) - d) b + sat b + pre b : Nat)
      let x := h.getD b 0
      if live * 16 < n then (x * 16, true) else ((x * n + live.toNat / 2) / live.toNat, false)
    let r := (List.range 1024).map one
    ((r.map fun a => a.1).toArray, (r.map fun a => a.2).toArray)

/-- A number put in its place in a rising list. -/
def insertUp (x : Nat) : List Nat → List Nat
  | [] => [x]
  | a :: t => if x ≤ a then x :: a :: t else a :: insertUp x t

/-- The sums of the 32 blocks (R235). -/
def blockSums (h : Hist) : List Nat :=
  let ps := prefixSums h.toList
  (List.range 32).map fun (m : Nat) => sumRange ps (32 * (m : Int)) (32 * (m : Int) + 32)

/-- The global ambient in 1/256 count per bin (R235). -/
def ambient (h : Hist) : Nat := (((blockSums h).foldr insertUp []).take 16).sum / 2

/-- The floor at a bin (R235). -/
def floorAt (xt : Bool) (a : Nat) (blk : List Nat) (b : Nat) : Nat :=
  let bm (m : Nat) := 8 * blk.getD m 0
  let m := b / 32
  if !xt then a
  else if m = 0 then max a (bm 1)
  else if m = 31 then max a (bm 30)
  else max a (min (bm (m - 1)) (bm (m + 1)))

/-- The sum of the five bins around `b` (R236). -/
def five (h : Hist) (b : Nat) : Nat :=
  h.at ((b : Int) - 2) + h.at ((b : Int) - 1) + h.at b + h.at ((b : Int) + 1) + h.at ((b : Int) + 2)

/-- The candidate peaks of a histogram over a floor (R236, R239): bin and net in 1/256 count. -/
def candidates (h : Hist) (fl : Nat → Nat) (mincnt par : Nat) : List (Nat × Int) :=
  (List.range 1020).filterMap fun i =>
    let b := i + 2
    let s := five h b
    let net : Int := (256 * s : Nat) - (5 * fl b : Nat)
    if five h (b - 1) < s && five h (b + 1) ≤ s && decide ((256 * mincnt : Nat) ≤ net) && decide ((par * 5 * fl b : Nat) ≤ 16 * net) then
      some (b, net)
    else none

/-- The best candidate by descending net, ties to the lower bin. -/
def bestPeak : List (Nat × Int) → Option (Nat × Int)
  | [] => none
  | a :: t =>
    match bestPeak t with
    | none => some a
    | some b => if b.2 ≤ a.2 then some a else some b

/-- At most `k` kept peaks, `sep` bins apart (R236). -/
def keepPeaks (sep : Nat) : Nat → List (Nat × Int) → List (Nat × Int)
  | 0, _ => []
  | k + 1, l =>
    match bestPeak l with
    | none => []
    | some p => p :: keepPeaks sep k (l.filter fun q => decide (sep ≤ max p.1 q.1 - min p.1 q.1))

/-- The time of a peak in 1/16 LSB (R238). -/
def centroid (h : Hist) (fl wstart w b : Nat) : Nat :=
  let wt (j : Nat) : Nat := 256 * h.at ((b : Int) + j - 2) - fl
  let sw := wt 0 + wt 1 + wt 2 + wt 3 + wt 4
  let sm := (b - 2) * wt 0 + (b - 1) * wt 1 + b * wt 2 + (b + 1) * wt 3 + (b + 2) * wt 4
  16 * wstart + 8 * w + (16 * w * sm + sw / 2) / sw

/-- The distance of two numbers. -/
def gap (a b : Nat) : Nat := max a b - min a b

/-- The peak nearest a place by `key`, ties to the higher net, then to the lower bin (R237, R239). -/
def nearestPeak (key : Nat → Nat) : List (Nat × Int) → Option (Nat × Int)
  | [] => none
  | a :: t =>
    match nearestPeak key t with
    | none => some a
    | some b =>
      if key a.1 < key b.1 || (key a.1 == key b.1 && (decide (b.2 < a.2) || (a.2 == b.2 && decide (a.1 ≤ b.1)))) then some a else some b

/-- The peak with the highest bin. -/
def lastPeak (l : List (Nat × Int)) : Option (Nat × Int) := nearestPeak (fun b => 1023 - b) l

/-- The surface among the kept peaks (R237): `expect` 0 is no expected time. -/
def choosePeak (rule expect : Nat) (time : Nat → Nat) (l : List (Nat × Int)) : Option (Nat × Int) :=
  if rule = 1 || (rule = 2 && expect = 0) then bestPeak l
  else if rule = 2 then nearestPeak (fun b => gap (time b) expect) l
  else lastPeak l

/-- Whether few shots were live at one of the five bins around `b` (R240). -/
def lowAround (low : Array Bool) (b : Nat) : Bool := (List.range 5).any fun j => low.getD (b + j - 2) false

end Sys2Proof.Machine
end

