-- ==== Sys2Proof/Machine/Fixes.lean ====
section
/-! DEFINITION. The fix stage (spec/12_fixes.md): heights, confidence, flags, the profile, the result queue, gap zones, background
calibration and the load envelope. -/

namespace Sys2Proof.Machine

/-- A field as it stood at the START_FRAME of a frame. -/
def FrameSt.rd (f : FrameSt) (g : Fld) (i : Nat := 0) (j : Nat := 0) : Nat :=
  bitsOf (kvGet regReset f.snap (g.off i j)).toNat g.lo g.w

/-! ### Calibration tables (R254 to R256) -/

/-- Whether the table of converter `i` is stale (R256). -/
def tableStale (s : State) (i : Nat) : Bool :=
  !s.flag RGH_CAL_CTRL_EN ||
    decide (max 1 (s.rd RGH_CAL_CTRL_AGE_MAX) * 1000000000 < s.elapsed - kvGet (fun _ => 0) s.fix.made i)

/-- CAL_STALE shown. -/
def staleSync (s : State) : State := s.wr RGH_FIX_STAT_CAL_STALE (if (List.range 65).any (tableStale s) then 1 else 0)

/-- Whether `P13` holds the background calibration (R46): quiesced or swapped, or asked to quiesce with no step in progress. A step is the
hits of one converter. -/
def calHeld (s : State) : Bool := s.quiesced 13 || s.swapping 13 || (s.hrn.asked.contains 13 && s.fix.total == 0)

/-- Whether the background calibration runs (R254, R259, R402). -/
def calRuns (s : State) : Bool :=
  s.loaded 6 && !s.quiescing 6 && !calHeld s && s.flag RGH_CAL_CTRL_EN && !(s.rd CAL_STAT_STATE == 1 && s.rd CAL_STAT_STEP == 2)

/-- SWEEP shown. -/
def sweepSync (s : State) : State := s.wr RGH_CAL_STAT_SWEEP (if calRuns s then 1 else 0)

/-- The elapsed count at which the next slot of a phase starts, if it has a shot left (R204). -/
def nextSlot (f : FrameSt) (p : PhSt) : Option Nat :=
  let t := 10 * f.rd RGE_FP_TIME_SHOT_PER f.prof
  let c := f.rd RGE_FP_SHOTS_SHOTS_C f.prof
  let first := p.t0 + 20 + 10 * max 10 (f.rd RGE_STEER_SETTLE)
  if p.firedC < c then some (first + p.firedC * t)
  else if p.firedZ < f.rd RGE_FP_SHOTS_SHOTS_Z f.prof then some (first + c * t + 2000 + p.firedZ * t)
  else none

/-- Whether a shot measurement is under way, from the start of its slot to its close (R254, R224). -/
def measuring (s : State) : Bool :=
  s.rgh.isOpen || s.rgh.expect ||
    match s.frameNow with
    | none => false
    | some f => ((f.phases.getLast?.bind (nextSlot f)).map fun t => decide (t ≤ s.elapsed)).getD false

/-- Whether converter `i` is dead at `t` LSB: within 2 ns of the last edge that it timestamped (R221). -/
def convDead (s : State) (i t : Nat) : Bool :=
  let last := kvGet (fun _ => 0) s.rgh.deadT i
  last != 0 && decide (t + 1 < last + 512)

/-- Converter `i` has timestamped an edge at `t` LSB. -/
def setDead (s : State) (i t : Nat) : State := { s with rgh := { s.rgh with deadT := kvSet (fun _ => 0) s.rgh.deadT i (t + 1) } }

/-- A calibration hit in a cell at `t` LSB (R254): only outside every measurement and outside the converter's dead time. -/
def calHit (s : State) (cell t : Nat) : State :=
  if calRuns s && !measuring s && !convDead s (s.rd RGH_CAL_STAT_INPUT) t && decide (s.fix.total < 262144) then
    { s with fix := { s.fix with total := s.fix.total + 1,
                                 hits := kvSet (fun _ => 0) s.fix.hits cell (kvGet (fun _ => 0) s.fix.hits cell + 1) } }
  else s

/-- The hits of the present converter start again. -/
def calRestart (s : State) : State := { s with fix := { s.fix with hits := [], total := 0 } }

/-- The boundaries of the cells (R255). -/
def cellTable (hits : List (Nat × Nat)) : List Nat :=
  (List.range 256).map fun j =>
    (256 * ((List.range j).foldl (fun n k => n + kvGet (fun _ => 0) hits k) 0) * 2 + 262144) / 524288

/-- The hits of a converter are complete (R255). -/
def calDone (s : State) : State :=
  if !calRuns s || s.fix.total != 262144 then s
  else
    let i := s.rd RGH_CAL_STAT_INPUT
    let bad := (List.range 256).any fun j => let n := kvGet (fun _ => 0) s.fix.hits j; n == 0 || decide (4096 < n)
    let t := cellTable s.fix.hits
    let s := if bad then raise (s.wr RGH_FIX_STAT_CAL_FAULT 1) 147
      else if s.frameNow.isSome then { s with fix := { s.fix with waiting := s.fix.waiting ++ [(i, t)] } }
      else takeTable s (i, t)
    let s := calRestart s
    if i = 64 then raise (s.wr RGH_CAL_STAT_INPUT 0) 146 else s.wr RGH_CAL_STAT_INPUT (i + 1)

/-! ### The load envelope (R257, R258) -/

/-- Whether converter `i` is in LOAD. -/
def inLoad (s : State) (i : Nat) : Bool := bit (s.rd RGH_LOAD_STAT_LOAD (i / 32)) (i % 32)

/-- An edge timestamped by converter `i` counted (R257). -/
def rateEdge (s : State) (i : Nat) : State :=
  { s with fix := { s.fix with edges := kvSet (fun _ => 0) s.fix.edges i (kvGet (fun _ => 0) s.fix.edges i + 1) } }

/-- A 100 ms bin of the rates ends (R257); one that had begun when the rates restarted shows nothing (R259). -/
def rateBin (s : State) : State :=
  if !s.loaded 6 || !s.powered 22 then s
  else if s.fix.part then { s with fix := { s.fix with edges := [], part := false } }
  else
    let e := s.fix.edges
    let s := forEach (List.range 65) { s with fix := { s.fix with edges := [] } } fun s i =>
      let r := 10 * kvGet (fun _ => 0) e i
      let cal := s.rd RGH_RATE_CAL_RATE i
      let s := s.wr RGH_RATE_RATE (min r (2 ^ 32 - 1)) i
      if !inLoad s i && cal != 0 && decide (4 * cal < r) then raise (s.setBit RGH_LOAD_STAT_LOAD (i % 32) (i / 32)) 145
      else if inLoad s i && decide (r ≤ 3 * cal) then s.clrBit RGH_LOAD_STAT_LOAD (i % 32) (i / 32)
      else s
    s.wr RGH_FIX_STAT_LOAD_ANY (if (List.range 65).any (inLoad s) then 1 else 0)

/-- Whether a fix of input `i` carries LOAD_OUTSIDE_CAL (R258). -/
def loadOutside (s : State) (i : Nat) : Bool := inLoad s i || inLoad s 64 || !s.flag RGH_FIX_STAT_CAL_VALID

/-! ### Fixes (R246 to R248) -/

/-- The height of a result (R246). -/
def fixHeight (f : FrameSt) (n time : Nat) : Int :=
  max 0 (((time * f.rd RGH_FIX_SCALE_SCALE + 2 ^ 23) / 2 ^ 24 : Nat) + sext 32 (f.rd RGH_FIX_ZERO_ZERO n))

/-- The confidence of a result (R247): `w` the bin width of its pass, `flags` as R248. -/
def confidence (net amb w n : Nat) (flags : Nat) : Nat :=
  if bit flags 0 then 0
  else
    let bg := amb * w * n / 51200000
    let c := if net + bg = 0 then 0 else min 255 (8 * net / isqrt (net + bg))
    let c := if bit flags 1 then c * 3 / 4 else c
    let c := if bit flags 3 then min c 64 else c
    if bit flags 2 then min c 32 else c

/-- The height profile of a frame (R250). -/
def profileOf (f : FrameSt) : List ProfEntry :=
  (List.range 256).map fun n => ((f.res.find? fun r => r.ch == n).map fun r => r.ent).getD {}

/-! ### The result queue (R251) -/

/-- The words of a frame's packet (R251). -/
def fixPacket (f : FrameSt) : List Nat :=
  let codes := forEach f.phases 0 fun m p => m ||| 2 ^ p.code
  [f.num * 2 ^ 32 + f.prof * 2 ^ 28 + codes * 2 ^ 24 + 2 ^ 16 + f.res.length, f.logN * 2 ^ 48 + f.logV, f.chrono % 2 ^ 64,
   f.line * 2 ^ 32 + (if f.lineV then 2 ^ 31 else 0)] ++
  f.res.flatMap fun r =>
    [toBits 32 r.ent.height * 2 ^ 32 + r.ent.conf * 2 ^ 24 + r.ch * 2 ^ 16 + r.ent.flags,
     r.net * 2 ^ 48 + r.amb * 2 ^ 32 + r.pass * 2 ^ 30 + r.npeak * 2 ^ 28 + (if r.pass = 2 then r.nz else r.nc) % 2 ^ 12 * 2 ^ 16]

/-- The packet committed, or discarded while `P10` is quiesced (R251, R259). -/
def commitFixes (s : State) (f : FrameSt) : State :=
  if !s.flag RGH_FIX_CFG_QEN || (!s.loaded 10 && !s.swapping 10) then s
  else if s.quiescing 10 || s.swapping 10 then raise (s.sat RGH_FIX_CNT_QDROP) 149
  else qPacket s (s.rd RGH_FIX_CFG_QUEUE) 64 (fixPacket f)

/-! ### Gap zones (R252, R253) -/

/-- The height of a zone's counted members (R252). -/
def zoneHeight (mode : Nat) (l : List Int) : Int :=
  if mode = 1 then divNearest l.sum l.length
  else l.foldl (fun a b => if mode = 2 then max a b else min a b) (l.headD 0)

/-- Zone `z` once its last member fix of a frame is formed (R252, R253). -/
def zoneTake (s : State) (f : FrameSt) (z : Nat) : State :=
  let first := f.rd RGH_ZONE_CFG_FIRST z
  let last := f.rd RGH_ZONE_CFG_LAST z
  let mem := f.res.filter fun r => decide (first ≤ r.ch) && decide (r.ch ≤ last)
  if !f.rd RGH_ZONE_CFG_EN z == 1 || (mem == [] && decide (first ≤ last)) then s
  else
    let cnt := mem.filter fun r =>
      !bit r.ent.flags 0 && decide (f.rd RGH_ZONE_CFG_MINCONF z ≤ r.ent.conf) && !(f.rd RGH_ZONE_CFG_EXCL_LOAD z == 1 && bit r.ent.flags 4)
    let none := cnt == []
    let h := zoneHeight (f.rd RGH_ZONE_CFG_MODE z) (cnt.map fun r => r.ent.height)
    let gap := if none then 0xFFFF else (max 0 (min 0xFFFE (h - f.rd RGH_ZONE_HEAD_HEAD z))).toNat
    let min' := f.rd RGH_ZONE_MIN_GAP_MIN z
    let low := !none && min' != 0 && decide (gap < min')
    let load := mem.any fun r => bit r.ent.flags 4
    let wasLow := s.flag RGH_ZONE_VAL_LOW z
    let wasNone := s.flag RGH_ZONE_VAL_NONE z
    let b (p : Bool) : Nat := if p then 1 else 0
    let s := ((s.wr RGH_ZONE_VAL_GAP gap z).wr RGH_ZONE_VAL_NONE (b none) z).wr RGH_ZONE_VAL_LOW (b low) z
    let s := (s.wr RGH_ZONE_VAL_LOAD (b load) z).wr RGH_ZONE_VAL_FRAME (f.num % 256) z
    raiseIf (raiseIf s (low && !wasLow) (128 + z)) (none && !wasNone) 144

/-- Every zone to GAP 0xFFFF and NONE 1 (R259). -/
def zonesEmpty (s : State) : State :=
  forEach (List.range 16) s fun s z => (s.wr RGH_ZONE_VAL_GAP 0xFFFF z).wr RGH_ZONE_VAL_NONE 1 z

/-! ### The edge profile for a neighbour (R397) -/

/-- Whether the ring carries LOG and EDGE frames: not in standby (R399). -/
def ringFull (s : State) : Bool := !(s.rd PCR_PWR_STAT_STATE == 2)

/-- The payload of EDGE frame `part` of a profile (R397, notes/assumptions/105.md): frame profile, part and frame number; the registration
stamp; the entries as R134 stores them. -/
def edgeBlocks (prof part num stamp : Nat) (ents : List ProfEntry) : List Nat :=
  (prof * 2 ^ 40 + part * 2 ^ 32 + num) :: stamp :: ents.zipIdx.map fun e => entryWord (32 * part + e.2) e.1

/-- The eight EDGE frames of a complete profile to device `dest` (R397). -/
def sendEdge (s : State) (dest : Nat) (f : FrameSt) : State :=
  forEach (List.range 8) s fun s k =>
    ringOwn s (ringPort s) 9 false dest (edgeBlocks f.prof k (f.num % 2 ^ 32) f.chrono (((profileOf f).drop (32 * k)).take 32))

/-- A complete profile sent to the enabled neighbours (R397). -/
def sendEdges (s : State) (f : FrameSt) : State :=
  if ringSends s && ringFull s && bit (s.rd BRD_EDGE_FPMASK) f.prof then
    let s := if s.flag BRD_NBR_LEFT_EN then sendEdge s (s.rd BRD_NBR_LEFT_ID) f else s
    if s.flag BRD_NBR_RIGHT_EN then sendEdge s (s.rd BRD_NBR_RIGHT_ID) f else s
  else s

/-- The complete profile of a frame enters the history while `P3` is loaded (R250, R259). -/
def enterHistory (s : State) (f : FrameSt) : State :=
  if !s.loaded 3 then s
  else
    let x := histEnter s (0x200000 * s.rd IPG_HIST_BASE_BASE + 0x20000 * f.prof) (kvGet (fun _ => []) s.hist f.prof) f.chrono (profileOf f)
    { x.1 with hist := kvSet (fun _ => []) x.1.hist f.prof x.2 }

/-! ### The rows of the table -/

/-- `CAL_HIT` (R254). -/
def execCalHit (cell : Fin 256) (t : Nat) (s : State) : Host.Outcome State Fault Refusal := done (calHit s cell t)

/-- `CAL_CONVERTER_DONE` (R255). -/
def execCalConverterDone (s : State) : Host.Outcome State Fault Refusal := done (calDone s)

/-- `CAL_TABLE_STALE` (R256). -/
def execCalTableStale (i : Fin 65) (s : State) : Host.Outcome State Fault Refusal :=
  done (if s.loaded 6 && tableStale s i then s.wr RGH_FIX_STAT_CAL_STALE 1 else s)

/-- `RATE_BIN_END` (R257). -/
def execRateBinEnd (s : State) : Host.Outcome State Fault Refusal := done (rateBin s)

end Sys2Proof.Machine
end

