-- ==== Sys2Proof/Machine/Frames.lean ====
section
/-! DEFINITION. The emitter (spec/10_emitters.md) and the range frame from its START_FRAME to the delivery of its results
(spec/11_histograms.md). -/

namespace Sys2Proof.Machine

/-! ### Segments, profiles, code (R202, R203, R208) -/

/-- Whether a segment can fire (R202). -/
def segCan (s : State) (g : Nat) : Bool := bit (s.rd RGE_SEG_EN_EN) g && s.rd RGE_SAFE_LIMIT_LIMIT g != 0

/-- A pulse width code as it acts (R205). -/
def effWidth (w : Nat) : Nat := min w 30

/-- The code bits of a profile (R208). -/
def effDbits (d : Nat) : Nat := min d 8

/-- The steering codes of a profile's phase list, in order (R203). -/
def phaseList (seq : Nat) : List Nat := (List.range (bitsOf seq 8 2 + 1)).map fun k => bitsOf seq (16 + 2 * k) 2

/-- Whether profile `f` is invalid (R203). -/
def profileBad (s : State) (f : Nat) : Bool :=
  let per := s.rd RGE_FP_TIME_SHOT_PER f
  let d := effDbits (s.rd RGE_FP_TIME_DBITS f)
  let mask := s.rd RGE_FP_SEQ_LINE_MASK f
  s.rd RGE_FP_SHOTS_SHOTS_C f == 0
    || decide (per < max 50 (s.rd RGE_LIMITS_MIN_PER))
    || decide (effWidth (s.rd RGE_LIMITS_MAXW) < effWidth (s.rd RGE_FP_TIME_WIDTH f))
    || decide (per * 10 < 300 + (2 ^ d - 1) * 4)
    || !((phaseList (s.rd RGE_FP_SEQ f)).any fun k => (bitsList mask 8).any fun l => segCan s (4 * l + k))

/-- One step of the code register (R208, notes/assumptions/27.md). -/
def lfsrStep (r : Nat) : Nat := (2 * r + Nat.xor (bitsOf r 22 1) (bitsOf r 17 1)) % 2 ^ 23

/-- The eight steps before a shot. -/
def lfsr8 (r : Nat) : Nat := (List.range 8).foldl (fun a _ => lfsrStep a) r

/-! ### The frame in progress -/

/-- The newest frame changed by `g`. -/
def updFrame (s : State) (g : FrameSt → FrameSt) : State :=
  match s.rgh.frames.getLast? with
  | none => s
  | some f => { s with rgh := { s.rgh with frames := s.rgh.frames.dropLast ++ [g f] } }

/-- The phase of a frame that runs, or ran last. -/
def FrameSt.now (f : FrameSt) : PhSt := f.phases.getLast?.getD {}

/-- The newest phase of the newest frame changed by `g`. -/
def updPhase (s : State) (g : PhSt → PhSt) : State :=
  updFrame s fun f => { f with phases := f.phases.dropLast ++ (f.phases.getLast?.map g).toList }

/-- The coarse and zoom shots of each phase of a frame. -/
def FrameSt.shotsC (f : FrameSt) : Nat := f.rd RGE_FP_SHOTS_SHOTS_C f.prof

/-- Zoom shots. -/
def FrameSt.shotsZ (f : FrameSt) : Nat := f.rd RGE_FP_SHOTS_SHOTS_Z f.prof

/-- Whether every shot of a phase has been fired. -/
def phaseFired (f : FrameSt) (p : PhSt) : Bool := p.firedC == f.shotsC && p.firedZ == f.shotsZ

/-- The pass that a phase is in: 1 coarse, 2 gap, 3 zoom. -/
def passOf (f : FrameSt) (p : PhSt) : Nat := if p.firedC < f.shotsC then 1 else if p.firedZ = 0 then 2 else 3

/-- PASS and PHASE of RGH shown. -/
def passSync (s : State) : State :=
  match s.frameNow with
  | none => s.wr RGH_STAT_PASS 0
  | some f =>
    let open' := s.rgh.isOpen || s.rgh.expect
    (s.wr RGH_STAT_PASS (if passOf f f.now = 2 && open' then 1 else passOf f f.now)).wr RGH_STAT_PHASE f.now.code

/-- A phase of the frame's list begins (R204, R206, R220, R229): the balls take its code, with odd parity over the three. -/
def phaseBegin (s : State) : State :=
  match s.frameNow with
  | none => s
  | some f =>
    match (phaseList (f.rd RGE_FP_SEQ f.prof))[f.phases.length]? with
    | none => s
    | some k =>
      if f.phases != [] && !phaseFired f f.now then s
      else
        let s := updFrame (clearPhase s f.buf k) fun f => { f with phases := f.phases ++ [{ code := k, t0 := s.elapsed }] }
        passSync { s.wr RGE_STAT_PHASE k with rge := { s.rge with steer := k, par := (k / 2 + k) % 2 == 0 } }

/-- Whether a buffer holds a frame whose results are not yet delivered (R231). -/
def bufPending (s : State) (b : Nat) : Bool := s.rgh.frames.any fun f => f.buf == b && !f.delivered

/-- The buffer that the next frame fills (R229, R231), with the state after the choice: a free one for the first frame. -/
def nextBuf (s : State) : State × Nat :=
  if s.flag RGH_STAT_FROZEN then (s, 1 - s.rd RGH_STAT_FROZEN_BUF)
  else if s.rgh.filled then (s, 1 - s.rd RGH_STAT_FILL_BUF) else (s.used, s.free 1)

/-- A START_FRAME action of profile `f` (R203, R231, R232, R249): the state, and whether it was taken. -/
def startFrame (s : State) (f logN line : Nat) (lineV : Bool) : State × Bool :=
  if s.quiescing 5 || s.flag RGE_STAT_BUSY || !s.flag RGE_STAT_ARMED || s.rge.holdoff || profileBad s f then
    (raise (s.sat RGE_CNT_REFUSED) 116, false)
  else if !s.loaded 5 || !s.loaded 6 || (s.rd CAL_STAT_STATE == 1 && s.rd CAL_STAT_STEP == 2) then (s, false)
  else if s.quiescing 6 then (s.sat RGH_CNT_REFUSED, false)
  else
    let (s, b) := nextBuf s
    if bufPending s b then (raise (s.sat RGH_CNT_REFUSED) 123, false)
    else
      let num := (s.rgh.lastFrame + 1) % 2 ^ 32
      let fr : FrameSt := { num := num, prof := f, buf := b, snap := s.regs, logN := logN, logV := logValue s logN, chrono := s.chrono,
                            line := line % 2 ^ 32, lineV := lineV }
      let s := { s with rgh := { s.rgh with frames := s.rgh.frames ++ [fr], lastFrame := num, filled := true } }
      let s := ((s.wr RGE_STAT_BUSY 1).wr RGE_STAT_PROFILE f).wr RGH_STAT_BUSY 1
      (phaseBegin (s.wr RGH_STAT_FILL_BUF b), true)

/-! ### Steering (R206) -/

/-- An edge of the steering strobe. -/
def steerStrobe (s : State) (level : Bool) : State :=
  if level then
    (if s.flag RGE_STAT_BUSY then ({ s with rge := { s.rge with stb := true } }).out (.strobe s.rge.steer s.rge.par) else s)
  else { s with rge := { s.rge with stb := false } }

/-! ### Exposure accounting (R214) -/

/-- The window sum of a segment. -/
def windowSum (s : State) (g : Nat) : Nat := (kvGet (fun _ => []) s.acct g).sum

/-- SUM of a segment shown. -/
def accSync (s : State) (g : Nat) : State := s.wr RGE_SAFE_ACC_SUM (min (windowSum s g) (2 ^ 32 - 1)) g

/-- A pulse of weight `w` added to a segment's present bin. -/
def accAdd (s : State) (g w : Nat) : State :=
  let l := kvGet (fun _ => []) s.acct g
  accSync { s with acct := kvSet (fun _ => []) s.acct g ((l.headD 0 + w) :: l.drop 1) } g

/-- A 100 ms bin ends. -/
def accBin (s : State) : State :=
  let s := forEach (List.range 32) s fun s g =>
    let l := (0 :: kvGet (fun _ => []) s.acct g).take 51
    accSync { s with acct := kvSet (fun _ => []) s.acct g (if l.sum = 0 then [] else l) } g
  { s with rge := { s.rge with limitedBin := false } }

/-- A pulse of a segment withheld (R214). -/
def withhold (s : State) (g : Nat) : State :=
  let s := updPhase ((s.sat RGE_CNT_WITHHELD).setBit RGE_LIMITED_SEG g) fun p => { p with withheld := true }
  if s.rge.limitedBin then s else raise { s with rge := { s.rge with limitedBin := true } } 115

/-! ### Shots (R205, R208, R214, R223) -/

/-- A start window that ends without a start (R223). -/
def startMiss (s : State) : State :=
  if s.rgh.expect then
    passSync (updFrame ({ (s.sat RGH_CNT_START_MISS) with rgh := { s.rgh with expect := false } }) fun f => { f with miss := true })
  else s

/-- The lines of a shot fired, each whose segment has room; the mask of those fired. -/
def fireLines (s : State) (mask k w : Nat) : State × Nat :=
  forEach (bitsList mask 8) (s, 0) fun a l =>
    let g := 4 * l + k
    if !segCan a.1 g then a
    else if windowSum a.1 g + w ≤ a.1.rd RGE_SAFE_LIMIT_LIMIT g then (logbook (accAdd a.1 g w) (48 + g) 1, a.2 + 2 ^ l)
    else (withhold a.1 g, a.2)

/-- The shot of a slot (R205): refused where the phase has no shot left. -/
def shotFire (s : State) (coarse : State → State) : State :=
  match s.frameNow with
  | none => s
  | some f =>
    if f.phases == [] || phaseFired f f.now then s
    else
      let zoom := f.now.firedC == f.shotsC
      let s := startMiss s
      let s := if zoom && f.now.firedZ == 0 && !f.now.coarseDone then coarse s else s
      let r := lfsr8 s.rge.lfsr
      let s := { s with rge := { s.rge with lfsr := r } }
      let w := effWidth (f.rd RGE_FP_TIME_WIDTH f.prof)
      let c := r % 2 ^ effDbits (f.rd RGE_FP_TIME_DBITS f.prof)
      let (s, lines) := fireLines s (f.rd RGE_FP_SEQ_LINE_MASK f.prof) f.now.code (w + 2)
      let more (l : List (Nat × Nat)) (g : Nat) := kvSet (fun _ => 0) l g (kvGet (fun _ => 0) l g + 1)
      let s := updFrame s fun f => { f with pulses := forEach ((bitsList lines 8).map (4 * · + f.now.code)) f.pulses more }
      let s := updPhase s fun p => if zoom then { p with firedZ := p.firedZ + 1 } else { p with firedC := p.firedC + 1 }
      let s := if lines = 0 then s
        else { s.out (.shot lines w (4 * c)) with rgh := { s.rgh with expect := true } }
      passSync s

/-! ### Events of a shot (R221 to R225) -/

/-- An edge on `TDC_START` at `t` LSB (R221, R257), and the start that it gives the shot (R223, R224). -/
def startEdge (s : State) (t : Nat) : State :=
  if !s.loaded 6 || convDead s 64 t then s
  else
    let s := setDead (rateEdge s 64) 64 t
    if !s.rgh.expect then s
    else
    let s := { s with rgh := { s.rgh with expect := false, start := some t, isOpen := true, edges := [] } }
    match s.frameNow with
    | none => s
    | some f =>
      let zoom := f.now.firedZ != 0
      updPhase { s with rgh := { s.rgh with ref := (f.num, f.phases.length - 1, zoom) } } fun p =>
        if zoom then { p with nZ := p.nZ + 1 } else { p with nC := p.nC + 1 }

/-- A frame in the list changed. -/
def setFrame (s : State) (i : Nat) (f : FrameSt) : State := { s with rgh := { s.rgh with frames := s.rgh.frames.set i f } }

/-- The place of the frame that the shot under measurement belongs to. -/
def refPlace (s : State) : Option Nat := s.rgh.frames.findIdx? fun f => f.num == s.rgh.ref.1

/-- A bin of the histogram store raised by one (R228, R230). -/
def binAdd (s : State) (buf n : Nat) (zoom : Bool) (b : Nat) : State :=
  let off := 0x1800000 + buf * 0x100000 + n * 0x1000 + (if zoom then 0x800 else 0) + b / 2 * 4
  let w := (s.get off).toNat
  let lo := 16 * (b % 2)
  s.set off (BitVec.ofNat 32 (setBits w lo 16 (bitsOf w lo 16 + 1)))

/-- The histogram of a channel. -/
def readHist (s : State) (buf n : Nat) (zoom : Bool) : Hist :=
  let base := 0x1800000 + buf * 0x100000 + n * 0x1000 + (if zoom then 0x800 else 0)
  ((List.range 512).flatMap fun i => let w := (s.get (base + 4 * i)).toNat; [w % 2 ^ 16, w / 2 ^ 16 % 2 ^ 16]).toArray

/-- Whether a return channel is histogrammed (R219). -/
def rcEnabled (s : State) (n : Nat) : Bool := bit (s.rd RGH_RC_EN_EN (n / 32)) (n % 32)

/-- The zoom bin width of a frame (R225). -/
def FrameSt.zoomW (f : FrameSt) : Nat := 2 ^ min 6 (f.rd RGH_FP_WIN_Z f.prof)

/-- Whether a channel has a zoom pass (R227). -/
def zoomOn (f : FrameSt) (c : CoarseRes) : Bool := f.rd RGH_FP_WIN_ZOOM_EN f.prof == 1 && f.shotsZ != 0 && c.surf

/-- The coarse result of a channel in a phase. -/
def PhSt.coarseOf (p : PhSt) (n : Nat) : CoarseRes := kvGet (fun _ => {}) p.coarse n

/-- The bin of an event at `t` LSB in a window. -/
def binOf (t wstart w : Nat) : Option Nat :=
  if t < wstart then none else let b := (t - wstart) / w; if b < 1024 then some b else none

/-- An event of the open measurement binned (R224, R225, R227, R234); `fourth` the fourth of its shot. None is binned once the phase of
its shot has appeared again (R220). -/
def binEvent (s : State) (i t : Nat) (fourth : Bool) : State :=
  match refPlace s with
  | none => s
  | some m =>
    let f := s.rgh.frames.getD m {}
    let j := s.rgh.ref.2.1
    let zoom := s.rgh.ref.2.2
    let p := f.phases.getD j {}
    let n := 64 * p.code + i
    let c := p.coarseOf n
    let b := if !rcEnabled s n || (f.phases.drop (j + 1)).any (fun x => x.code == p.code) then none
      else if zoom then (if zoomOn f c then binOf t c.zstart f.zoomW else none)
      else binOf t (64 * f.rd RGH_FP_WIN_CSTART f.prof) 64
    match b with
    | none => s
    | some b =>
      let s := tagUse (binAdd s f.buf n zoom b)
      let inc (l : List (Nat × Nat)) := kvSet (fun _ => 0) l (32 * n + b / 32) (kvGet (fun _ => 0) l (32 * n + b / 32) + 1)
      if !fourth then s
      else setFrame s m { f with phases := f.phases.set j (if zoom then { p with satZ := inc p.satZ } else { p with satC := inc p.satC }) }

/-- An edge beyond the fourth of a shot (R221): counted, and held against its frame (R245). -/
def edgeOver (s : State) : State :=
  let s := s.sat RGH_EVT_OVER_COUNT
  match if s.rgh.isOpen then refPlace s else s.frameNow.map fun _ => s.rgh.frames.length - 1 with
  | none => s
  | some m => setFrame s m { s.rgh.frames.getD m {} with ovr := true }

/-- A rising edge on timing input `i` at `t` LSB (R221, R224). -/
def timingEdge (s : State) (i t : Nat) : State :=
  if !s.loaded 6 || convDead s i t then s
  else
    let k := kvGet (fun _ => 0) s.rgh.edges i
    if 4 ≤ k then edgeOver s
    else
      let s := setDead (rateEdge s i) i t
      let s := { s with rgh := { s.rgh with edges := kvSet (fun _ => 0) s.rgh.edges i (k + 1) } }
      match s.rgh.start with
      | none => s
      | some t0 => if s.rgh.isOpen && decide (t0 ≤ t) then binEvent s i (t - t0) (k == 3) else s

/-- The measurement closes (R224). -/
def measClose (s : State) : State := passSync { s with rgh := { s.rgh with isOpen := false } }

/-! ### The coarse analysis (R234 to R238) -/

/-- The coarse analysis of channel `n` in phase `p` of frame `f`. -/
def coarseChannel (s : State) (f : FrameSt) (p : PhSt) (n : Nat) : CoarseRes :=
  let k := f.prof
  let cs := 64 * f.rd RGH_FP_WIN_CSTART k
  let (hc, low) := pileUp (f.rd RGH_FP_PROC_PILE_EN k == 1) p.nC 8 (fun b => satBelow p.satC n (b / 32)) (fun _ => 0) (readHist s f.buf n false)
  let a := ambient hc
  let blk := blockSums hc
  let fl := floorAt (f.rd RGH_FP_PROC_XT_EN k == 1) a blk
  let cand := candidates hc fl (f.rd RGH_FP_PEAK_MINCNT k) (f.rd RGH_FP_PEAK_PAR k)
  let kept := keepPeaks (max 2 (f.rd RGH_FP_PEAK_SEP k)) 3 cand
  let time (b : Nat) := centroid hc (fl b) cs 64 b
  let prev := kvGet (fun _ => 0) s.rgh.prev (256 * k + n)
  let expect := if prev != 0 then prev - 1 else f.rd RGH_FP_EXPECT_EXPECT k
  let rule := f.rd RGH_FP_PEAK_RULE k
  let known := prev != 0 || f.rd RGH_FP_EXPECT_EXPECT k != 0
  let surf := if rule = 2 && known then nearestPeak (fun b => gap (time b) expect) kept else choosePeak (if rule = 2 then 1 else rule) 0 time kept
  match surf with
  | none => { amb := a, npeak := 0 }
  | some (b, net) =>
    let tc := time b
    { surf := true, amb := a, npeak := kept.length, tc := tc, net := net.toNat, low := lowAround low b,
      zstart := tc / 16 - 512 * f.zoomW }

/-- The place of the oldest phase that a test selects: the frame's place and the phase's place. -/
def findPhase (s : State) (t : FrameSt → PhSt → Bool) : Option (Nat × Nat) :=
  (List.range s.rgh.frames.length).findSome? fun i =>
    let f := s.rgh.frames.getD i {}
    ((List.range f.phases.length).find? fun j => t f (f.phases.getD j {})).map fun j => (i, j)

/-- The channels histogrammed in phase `k` (R219, R220). -/
def phaseChannels (s : State) (k : Nat) : List Nat := ((List.range 64).map fun i => 64 * k + i).filter (rcEnabled s)

/-! ### Results (R239 to R243, R246 to R248) -/

/-- The zoom analysis of a channel (R239): the time and net of the peak, and whether few shots were live; none out of the zoom. -/
def zoomChannel (s : State) (f : FrameSt) (p : PhSt) (n : Nat) (c : CoarseRes) : Option (Nat × Nat × Bool) :=
  let k := f.prof
  let w := f.zoomW
  let cs : Int := 64 * f.rd RGH_FP_WIN_CSTART k
  let hcc := (pileUp (f.rd RGH_FP_PROC_PILE_EN k == 1) p.nC 8 (fun b => satBelow p.satC n (b / 32)) (fun _ => 0) (readHist s f.buf n false)).1
  let ps := prefixSums hcc.toList
  let pre (b : Nat) : Nat :=
    let idx (x : Int) : Int := (x - cs - 32 + 63) / 64
    (divNearest (p.nZ * sumRange ps (idx ((c.zstart : Int) + b * w - 512)) (idx c.zstart)) (max 1 p.nC)).toNat
  let d := (512 + w - 1) / w
  let (hc, low) := pileUp (f.rd RGH_FP_PROC_PILE_EN k == 1) p.nZ d (fun b => satBelow p.satZ n (b / 32)) pre (readHist s f.buf n true)
  let az := c.amb * w * p.nZ / (64 * max 1 p.nC)
  let edge := max 2 (f.rd RGH_FP_PROC_EDGE k)
  match nearestPeak (fun b => gap b 512) (candidates hc (fun _ => az) (f.rd RGH_FP_PEAK_MINCNT k) (f.rd RGH_FP_PEAK_PAR k)) with
  | none => none
  | some (b, net) =>
    if b < edge || decide (1023 - edge < b) then none
    else some (centroid hc az c.zstart w b, net.toNat, lowAround low b)

/-- The result and fix of a channel (R239, R240, R243, R246 to R248, R258). -/
def resultOfChannel (s : State) (f : FrameSt) (p : PhSt) (n : Nat) : FixRes :=
  let c := p.coarseOf n
  let amb := min 65535 (c.amb * 15625 / max 1 p.nC)
  let amb := if p.nC = 0 then 0 else amb
  let z := if zoomOn f c then zoomChannel s f p n c else none
  let ooz := zoomOn f c && z.isNone
  let (time, net, low, pass) := match z with
    | some (t, net, low) => (t, net, low, 2)
    | none => (c.tc, c.net, c.low, if c.surf then 1 else 0)
  let netc := min 65535 ((net + 128) / 256)
  let h := if c.surf then fixHeight f n time else 0
  let b (x : Bool) (k : Nat) : Nat := if x then 2 ^ k else 0
  let fl := b (!c.surf) 0 + b (c.surf && decide (2 ≤ c.npeak)) 1 + b (c.surf && low) 2 + b ooz 3 + b (loadOutside s (n % 64)) 4
    + b p.withheld 5 + b (c.surf && (decide (h < 3277) || decide (393216 < h))) 6 + b (tableStale s (n % 64) || tableStale s 64) 7
  let cnt := if pass = 2 then p.nZ else p.nC
  let conf := confidence netc amb (if pass = 2 then f.zoomW else 64) cnt fl
  { ch := n, ent := ⟨h, conf, fl⟩, net := if c.surf then netc else 0, amb := amb, pass := pass, npeak := if c.surf then c.npeak else 0,
    nc := p.nC, nz := p.nZ, time := if c.surf then time else 0, tc := if c.surf then c.tc else 0 }

/-- A result placed among those of its frame, in channel order; a later appearance replaces an earlier one (R220, R251). -/
def placeRes (r : FixRes) : List FixRes → List FixRes
  | [] => [r]
  | a :: t => if r.ch < a.ch then r :: a :: t else if r.ch = a.ch then r :: t else a :: placeRes r t

/-- The oldest frame is over once its schedule has ended and its results are delivered: what it ends with is raised (R245, R260). -/
def frameOver (s : State) : State :=
  match s.rgh.frames with
  | [] => s
  | f :: rest =>
    if f.ended && f.delivered then
      let any (k : Nat) : Bool := f.res.any fun r => bit r.ent.flags k
      let s := { s with rgh := { s.rgh with frames := rest } }
      let s := raiseIf (raiseIf (raiseIf s f.miss 120) f.ovr 121) (any 2) 122
      (raiseIf s (any 6) 148).wr RGH_STAT_BUSY (if rest == [] then 0 else 1)
    else s

/-- The results of the oldest frame `f` delivered (R231, R232, R250, R251). -/
def deliver (s : State) (f : FrameSt) : State :=
  let s := setFrame s 0 { f with delivered := true }
  let s := { s with rgh := { s.rgh with
    prev := forEach f.res s.rgh.prev fun l r => kvSet (fun _ => 0) l (256 * f.prof + r.ch) (if bit r.ent.flags 0 then 0 else r.time + 1) } }
  let s := sendEdges (enterHistory (s.wr RGH_FRAME_NUMBER f.num) f) f
  let s := commitFixes s f
  let s := forEach (List.range 16) s fun s z =>
    if decide (f.rd RGH_ZONE_CFG_LAST z < f.rd RGH_ZONE_CFG_FIRST z) then zoneTake s f z else s
  let s := raise s 124
  let s := if s.rgh.freezeReq && !s.flag RGH_STAT_FROZEN then
      let s := { s with rgh := { s.rgh with freezeReq := false } }
      raise (((s.wr RGH_STAT_FROZEN 1).wr RGH_STAT_FROZEN_BUF f.buf).wr RGH_FROZEN_FRAME_NUMBER f.num) 125
    else s
  frameOver s

/-- Whether every phase of a frame has its results. -/
def frameReady (f : FrameSt) : Bool :=
  f.phases.length == (phaseList (f.rd RGE_FP_SEQ f.prof)).length && f.phases.all fun p => p.done

/-- The oldest frame delivered if every phase of it has its results (R250). -/
def deliverReady (s : State) : State :=
  match s.rgh.frames with
  | [] => s
  | f :: _ => if frameReady f && !f.delivered then deliver s f else s

/-- Whether phase place `j` of a frame forms the last member fix of zone `z` (R253): a member is of it, and none of a later phase. -/
def zoneLast (s : State) (f : FrameSt) (j z : Nat) : Bool :=
  let mem (k : Nat) : Bool := (phaseChannels s k).any fun n =>
    decide (f.rd RGH_ZONE_CFG_FIRST z ≤ n) && decide (n ≤ f.rd RGH_ZONE_CFG_LAST z)
  let l := phaseList (f.rd RGE_FP_SEQ f.prof)
  mem (l.getD j 0) && !(l.drop (j + 1)).any mem

/-- The results of phase place `j` of frame place `i` are ready (R241): their fixes are formed, the zones whose last member fix is among
them take their values (R253), and the results of the last phase complete the frame (R250). -/
def phaseDone (s : State) (i j : Nat) : State :=
  let f := s.rgh.frames.getD i {}
  let p := f.phases.getD j {}
  let res := (phaseChannels s p.code).map (resultOfChannel s f p)
  let count (k : Nat) : Nat := (res.filter fun r => bit r.ent.flags k).length
  let f := { f with phases := f.phases.set j { p with done := true }, res := res.foldl (fun l r => placeRes r l) f.res }
  let s := setFrame ((s.sat RGH_SAT_CNT_COUNT (count 2)).sat RGH_FIX_CNT_WINDOW (count 6)) i f
  let s := forEach (List.range 16) s fun s z => if zoneLast s f j z then zoneTake s f z else s
  deliverReady (deliverReady s)

/-- Whether the phases of a frame have a zoom pass (R227, R241). -/
def FrameSt.zoomPass (f : FrameSt) : Bool := f.rd RGH_FP_WIN_ZOOM_EN f.prof == 1 && f.shotsZ != 0

/-- The coarse analysis of a phase completes (R233): its zoom windows are set; without a zoom pass its results are ready (R241). -/
def coarseDone (s : State) : State :=
  match findPhase s fun f p => p.firedC == f.shotsC && !p.coarseDone with
  | none => s
  | some (i, j) =>
    let f := s.rgh.frames.getD i {}
    let p := f.phases.getD j {}
    let res := (phaseChannels s p.code).map fun n => (n, coarseChannel s f p n)
    let s := setFrame s i { f with phases := f.phases.set j { p with coarse := res, coarseDone := true } }
    if f.zoomPass then s else phaseDone s i j

/-- The zoom analysis of a phase completes and its results are ready (R239, R241). -/
def zoomDone (s : State) : State :=
  match findPhase s fun f p => phaseFired f p && p.coarseDone && !p.done with
  | none => s
  | some (i, j) => phaseDone s i j

/-- The schedule of the frame ends (R204): the emitter is free, what waited for the frame's end takes force. -/
def frameEnd (s : State) : State :=
  match s.frameNow with
  | none => s
  | some f =>
    if f.phases.length == (phaseList (f.rd RGE_FP_SEQ f.prof)).length && phaseFired f f.now then
      let s := updFrame (s.wr RGE_STAT_BUSY 0) fun f => { f with ended := true }
      frameOver (betweenFrames (s.wr RGH_STAT_PASS 0))
    else s

/-! ### FREEZE (R231) -/

/-- A write of `RGH_CTRL` (R231). -/
def freezeWrite (s : State) (v : Nat) : State :=
  let on := bit v 31
  let s := s.wr RGH_CTRL_FREEZE (bitsOf v 31 1)
  if on then { s with rgh := { s.rgh with freezeReq := !s.flag RGH_STAT_FROZEN } }
  else { s.wr RGH_STAT_FROZEN 0 with rgh := { s.rgh with freezeReq := false } }

/-! ### Arming (R210 to R213) -/

/-- The first failing condition of ARM, 0 none (R210). -/
def armErr (s : State) : Nat :=
  if !s.loaded 5 then 1
  else if !s.flag RGE_STAT_SAFE_OK then 2
  else if s.flag RGE_STAT_FAULT_IN then 3
  else if s.inhibited then 4
  else if s.flag RGE_STAT_BLACKOUT then 5
  else if (List.range 32).any (segCan s) then 0 else 6

/-- ARM written (R208, R210). -/
def arm (s : State) : State :=
  let e := armErr s
  let s := s.wr RGE_STAT_ARM_ERR e
  if e != 0 || s.flag RGE_STAT_ARMED then s
  else
    raise ({ s.wr RGE_STAT_ARMED 1 with rge := { s.rge with holdoff := true, lfsr := codeSeed (s.rd RGE_CODE_FAMILY) } }) 118

/-- A write of `RGE_CTRL` (R210). -/
def rgeCtrl (s : State) (v : Nat) : State :=
  let s := if bit v 31 then arm s else s
  if bit v 30 then disarmEmitter s else s

/-- A write of `RGE_CODE` (R209). -/
def rgeCode (s : State) (v : Nat) : State := updFamily (s.wr RGE_CODE_LOCAL (v % 2 ^ 11))

/-- `SAFE#` low (R211). -/
def safeLow (s : State) : State := stopEmitter (s.wr RGE_STAT_SAFE_OK 0) RGE_STAT_SAFE_TRIP 112

/-- `EMIT_FAULT#` low (R211); `held` says whether the level stays low. -/
def emitFault (s : State) (held : Bool) : State :=
  stopEmitter (s.wr RGE_STAT_FAULT_IN (if held then 1 else 0)) RGE_STAT_FAULT_TRIP 113

/-! ### The rows of the table -/

/-- `ARM_HOLDOFF_END` (R210). -/
def execArmHoldoffEnd (s : State) : Host.Outcome State Fault Refusal := done { s with rge := { s.rge with holdoff := false } }

/-- `SAFE_OK_TIMER` (R210). -/
def execSafeOkTimer (s : State) : Host.Outcome State Fault Refusal := done (s.wr RGE_STAT_SAFE_OK 1)

/-- `PHASE_START` (R204). -/
def execPhaseStart (s : State) : Host.Outcome State Fault Refusal := done (phaseBegin s)

/-- `STEER_STROBE` (R206). -/
def execSteerStrobe (level : Bool) (s : State) : Host.Outcome State Fault Refusal := done (steerStrobe s level)

/-- `SHOT_FIRE` (R205). -/
def execShotFire (s : State) : Host.Outcome State Fault Refusal := done (shotFire s coarseDone)

/-- `FRAME_END` (R204). -/
def execFrameEnd (s : State) : Host.Outcome State Fault Refusal := done (frameEnd s)

/-- `SAFE_LOW` (R211). -/
def execSafeLow (s : State) : Host.Outcome State Fault Refusal := done (safeLow s)

/-- `EMIT_FAULT_LOW` (R211). -/
def execEmitFaultLow (held : Bool) (s : State) : Host.Outcome State Fault Refusal := done (emitFault s held)

/-- `EXPOSURE_BIN_END` (R214). -/
def execExposureBinEnd (s : State) : Host.Outcome State Fault Refusal := done (accBin s)

/-- `BLACKOUT_END` (R215). -/
def execBlackoutEnd (s : State) : Host.Outcome State Fault Refusal := done (s.wr RGE_STAT_BLACKOUT 0)

/-- `START_EDGE` (R223). -/
def execStartEdge (t : Nat) (s : State) : Host.Outcome State Fault Refusal := done (startEdge s t)

/-- `START_WINDOW_EXPIRY` (R223). -/
def execStartWindowExpiry (s : State) : Host.Outcome State Fault Refusal := done (startMiss s)

/-- `TIMING_EDGE` (R221). -/
def execTimingEdge (i : Fin 64) (t : Nat) (s : State) : Host.Outcome State Fault Refusal := done (timingEdge s i t)

/-- `MEASUREMENT_CLOSE` (R224). -/
def execMeasurementClose (s : State) : Host.Outcome State Fault Refusal := done (measClose s)

/-- `COARSE_ANALYSIS_DONE` (R233). -/
def execCoarseAnalysisDone (s : State) : Host.Outcome State Fault Refusal := done (coarseDone s)

/-- `ZOOM_ANALYSIS_DONE` (R239). -/
def execZoomAnalysisDone (s : State) : Host.Outcome State Fault Refusal := done (zoomDone s)

end Sys2Proof.Machine
end

