-- ==== Sys2Proof/Machine/Ring.lean ====
section
/-! DEFINITION. The bridle ring (spec/19_bridle_ring.md): ports, training and addressing, shared time and position, code families,
tunnelled operations as the lead sends them, forwarded events, edge profiles and fold-back. What a tunnelled request does to its
target stands in Sys2Proof/Machine/Bars.lean. Readings: notes/assumptions/30.md. -/

namespace Sys2Proof.Machine

/-! ### Ports and frames (R384, R387, R398) -/

/-- Whether the device is on the ring (R384). -/
def ringOn (s : State) : Bool := s.loaded 12 && s.flag BRD_CTRL_EN

/-- Whether the ports forward frames: on the ring, or `P12` in its swap (R384). -/
def ringForwards (s : State) : Bool := ringOn s || (s.swapping 12 && s.flag BRD_CTRL_EN)

/-- Whether the device is the lead on the ring. -/
def isLead (s : State) : Bool := ringOn s && s.flag BRD_STAT_LEAD

/-- Whether a port is trained. -/
def portUp (s : State) (p : Nat) : Bool := s.rd BRD_PORT_STAT_STATE p == 4

/-- The port that a frame for port `p` leaves by: the other one where that one is folded (R398). -/
def outPort (s : State) (p : Nat) : Nat := if s.flag BRD_STAT_FOLDED && s.rd BRD_STAT_FOLD_PORT == p then 1 - p else p

/-- A drop counted in BAD (R387). -/
def ringBad (s : State) : State := s.sat BRD_CNT_BAD

/-- The frame as it goes on, with one hop more (R387). -/
def forwarded (s : State) (h : RingHdr) (ty : Nat) (payload : List Nat) : Out :=
  ringFrame (outPort s (1 - h.port)) ty h.bcast h.dest.toNat h.src.toNat (h.hops.toNat + 1) h.seq.toNat payload

/-- A frame forwarded (R387). -/
def ringForward (s : State) (h : RingHdr) (ty : Nat) (payload : List Nat) : State := s.out (forwarded s h ty payload)

/-- Whether the device takes part in the ring under its ID (R389). -/
def ringIdOn (s : State) : Bool := s.ring.idTaken && !s.flag BRD_STAT_ID_CONFLICT

/-- Whether a frame comes from the device's own ID (R387). -/
def ringOwnSrc (s : State) (h : RingHdr) : Bool := ringIdOn s && h.src.toNat == s.rd BRD_STAT_ID

/-- A frame of the device's own ID dropped (R387). The lead learns from the side on which its frames return whether the ring is split
(notes/assumptions/105.md). -/
def ringReturned (s : State) (h : RingHdr) : State :=
  ringBad (if isLead s && h.bcast then { s with ring := { s.ring with broken := h.port == 1 } } else s)

/-- A frame taken, forwarded or dropped (R387): one that would have more than 2,047 hops goes no further. -/
def ringIn (s : State) (h : RingHdr) (ty : Nat) (payload : List Nat) (take : State → State) : State :=
  let alone := ringIdOn s && h.dest.toNat == s.rd BRD_STAT_ID && !h.bcast
  if !ringForwards s || !portUp s h.port then s
  else if ringOwnSrc s h then ringReturned s h
  else if h.hops.toNat == 2047 && !alone then ringBad s
  else
    let s := if ringOn s && (alone || (h.bcast && !s.flag BRD_STAT_ID_CONFLICT)) then take s else s
    if alone then s else ringForward s h ty payload

/-- The state of the ring as the device sees it; a change into or out of UP raises BRD_LINK (R388). -/
def ringState (s : State) (st : Nat) : State :=
  let old := s.rd BRD_STAT_STATE
  raiseIf (s.wr BRD_STAT_STATE st) ((old == 4) != (st == 4)) 282

/-- The state of a port; a change into or out of its trained state raises BRD_LINK (R388). -/
def portState (s : State) (p st : Nat) : State :=
  let old := s.rd BRD_PORT_STAT_STATE p
  raiseIf (s.wr BRD_PORT_STAT_STATE st p) ((old == 4) != (st == 4)) 282

/-- Whether the lead's frames go into two chains: training found the ring open, or a break has split it (notes/assumptions/105.md). -/
def twoChains (s : State) : Bool := (s.ring.isOpen || s.ring.broken) && !s.flag BRD_STAT_FOLDED

/-- The port by which the lead reaches the device at a place of an open ring: upstream for the upstream chain (notes/assumptions/105.md). -/
def leadPort (s : State) (pos : Nat) : Nat :=
  if s.ring.isOpen && !s.flag BRD_STAT_FOLDED && decide (2048 ≤ pos) then 0 else ringPort s

/-- A frame of the lead for every device, into both chains where there are two. -/
def leadCast (s : State) (ty : Nat) (payload : List Nat) : State :=
  let t := ringOwn s (ringPort s) ty true 0 payload
  if twoChains s then t.out (ringFrame 0 ty true 0 (s.rd BRD_STAT_ID) 0 (ringNext s ty) payload) else t

/-- A frame of the lead for the device at a place, by either port where a break has split the ring. -/
def leadSend (s : State) (ty pos dest : Nat) (payload : List Nat) : State :=
  let t := ringOwn s (leadPort s pos) ty false dest payload
  if s.ring.broken && !s.ring.isOpen && !s.flag BRD_STAT_FOLDED then
    t.out (ringFrame 0 ty false dest (s.rd BRD_STAT_ID) 0 (ringNext s ty) payload) else t

/-! ### Code families (R394, R209) -/

/-- The lead assigns the families (R394); a quiesced `P12` sends no CODE frames, which wait for its release (R399). -/
def sendCodes (s : State) : State :=
  let off := s.rd BRD_CODE_OFFSET
  let held := s.quiesced 12
  let s := if held then s else forEach s.ring.ids s fun s d => leadSend s 5 d.1 d.2 [(d.2 + off) % 2048]
  updFamily { s with ring := { s.ring with family := some (off % 2048), codesDue := held } }

/-- The hold of 100 ms after the loss of the path ends, 100 ms after the lead was last heard: the family it assigned is dropped (R394). -/
def codeExpiry (s : State) : State :=
  if isLead s || s.ring.family.isNone then s
  else
    let s := s.passTo (s.ring.heard + 100000000)
    updFamily { s with ring := { s.ring with family := none, path := false } }

/-- The lead is heard in a frame that arrives on a port. -/
def heardLead (s : State) (h : RingHdr) : State :=
  { s with ring := { s.ring with path := true, leadId := h.src.toNat, toLead := h.port, heard := s.elapsed } }

/-- The profiles of the neighbours whose frames arrive by a port of a list: gone with it, so that knots on that side are invalid (R137,
notes/assumptions/30.md). -/
def nbrGone (s : State) (ports : List Nat) : State :=
  let gone (side : Nat) : Bool := ports.contains (kvGet (fun _ => 0) s.ring.nbrPort side)
  { s with nbr := s.nbr.filter fun x => !gone (x.1 / 16), ring := { s.ring with parts := s.ring.parts.filter fun x => !gone (x.1 / 16) } }

/-! ### Training and addressing (R388, R389, R391) -/

/-- What the strap or ROLE makes the device (R385); a Log of the lead with SRC 7 loses its source (R77). -/
def leadSync (s : State) : State :=
  let s := s.wr BRD_STAT_LEAD (if leadRole s then 1 else 0)
  if logsRun s && isLead s then forEach (List.range 4) s fun s n => if s.rd LOG_CFG_SRC n == 7 then leadLost s n else s else s

/-- Training from LINK (R388). The ticks that the lead's Logs still await stay; a port that was folded closes the ring again once it is
trained. -/
def ringTrain (s : State) : State :=
  let s := ringState (leadSync s) 1
  let lead := s.flag BRD_STAT_LEAD
  let refold := if s.flag BRD_STAT_FOLDED then some (s.rd BRD_STAT_FOLD_PORT) else s.ring.refold
  let s := forEach [0, 1] s fun s p => portState s p 1
  let s := forEach [BRD_STAT_FOLDED, BRD_STAT_FOLD_PORT, BRD_STAT_ID_CONFLICT, BRD_STAT_OVERFLOW, BRD_STAT_LEAD_CONFLICT, BRD_STAT_P_EXCEED] s
    fun s f => s.wr f 0
  { s.wr BRD_STAT_ID (if lead && s.flag BRD_CFG_ID_MODE then s.rd BRD_CFG_ID else 0) with
    ring := { s.ring with idTaken := lead, enumSeq := none, isOpen := false, cntD := none, cntU := none, ids := [], lat := [], broken := false,
                          codesDue := false, waiting := if lead then s.ring.waiting else [], toSend := [], restart := false, relock := [],
                          refold := refold } }

/-- Both ports down: the device is off the ring (R384, R399). -/
def ringDown (s : State) : State :=
  let s := ringState s 0
  let s := forEach [0, 1] s fun s p => portState s p 0
  let s := nbrGone s [0, 1]
  { (s.wr BRD_STAT_FOLDED 0).wr BRD_STAT_FOLD_PORT 0 with
    ring := { s.ring with idTaken := false, enumSeq := none, path := false, toSend := [], relock := [], refold := none } }

/-- A write of `BRD_CTRL` (R384, R388). -/
def brdCtrl (s : State) (v : Nat) : State :=
  let was := s.flag BRD_CTRL_EN
  let s := s.wr BRD_CTRL_EN (bitsOf v 31 1)
  if bit v 31 && !was then ringTrain s
  else if !bit v 31 && was then ringDown s
  else if bit v 31 && bit v 30 && isLead s then ringTrain s
  else s

/-- The payload of a MEASURE frame (R391): kind 0 request, 1 echo, 2 report, 3 verdict (notes/assumptions/105.md). -/
def measureBlocks (stamp kind v : Nat) : List Nat := [stamp, kind * 2 ^ 62 + v]

/-- A request to the neighbour at port `p`, where that is trained. -/
def measureAsk (s : State) (p : Nat) : State := if portUp s p then ringOwn s p 2 false 0 (measureBlocks s.chrono 0 0) else s

/-- A follower's report to the lead: the latency of its downstream link, 0 where it has none. -/
def measureReport (s : State) (lat : Nat) : State := ringOwn s (portToLead s) 2 false s.ring.leadId (measureBlocks 0 2 lat)

/-- The device enters MEASURE and measures its downstream link (R388, R391); `both` also wakes the neighbour upstream
(notes/assumptions/105.md). -/
def measureStart (s : State) (both : Bool) : State :=
  let s := ringState s 3
  let s := if portUp s 1 then measureAsk s 1 else if isLead s then s else measureReport s 0
  if both then measureAsk s 0 else s

/-- The second ENUM, upstream, once the ring is found open (R388). -/
def enumOpen (s : State) : State :=
  let s := { s with ring := { s.ring with isOpen := true } }
  if portUp s 0 then ringOwn s 0 1 true 0 [2047]
  else
    let s := { s with ring := { s.ring with cntU := some 0 } }
    if s.ring.cntD.isSome then measureStart s true else s

/-- LINK ends on the lead once each port is trained or folded: ENUM leaves downstream (R388); a lead whose port 1 is folded is itself
the downstream end (notes/assumptions/105.md). -/
def linkDone (s : State) : State :=
  let folded (p : Nat) : Bool := s.flag BRD_STAT_FOLDED && s.rd BRD_STAT_FOLD_PORT == p
  let up (p : Nat) : Bool := portUp s p || folded p
  if s.rd BRD_STAT_STATE == 1 && isLead s && up 0 && up 1 && (portUp s 0 || portUp s 1) then
    let s := ringState s 2
    if folded 1 then enumOpen { s with ring := { s.ring with cntD := some 0 } } else ringOwn s 1 1 true 0 [1]
  else s

/-- The device unfolds (R398). -/
def unfold (s : State) : State := raise ((s.wr BRD_STAT_FOLDED 0).wr BRD_STAT_FOLD_PORT 0) 281

/-- A port is trained (R383, R388, R398). In training a fold beside it ends. On a ring that is UP the device upstream of the link measures
it, and the fold ends once the lead has found its latency within P. -/
def ringPortReady (s : State) (p : Nat) : State :=
  let s := { portState s p 4 with ring := { s.ring with relock := s.ring.relock.filter (· != p) } }
  let s := if s.ring.refold == some p then raise { s with ring := { s.ring with refold := none } } 281 else s
  let s := if s.flag BRD_STAT_FOLDED && s.rd BRD_STAT_FOLD_PORT == p && !s.flag BRD_STAT_P_EXCEED then
      (if s.rd BRD_STAT_STATE != 4 then unfold s else if p = 1 then measureAsk s 1 else s) else s
  linkDone s

/-- A step of a port's training (R102 to R105, R383): CDR, BLOCK and EYESCAN, then UP, or WEAK with too narrow an eye; a scan while UP
gives a new EYE; a port that has lost lock may relock without a scan. -/
def portTrained (s : State) (p : Nat) (e : PortStep) : State :=
  let st := s.rd BRD_PORT_STAT_STATE p
  if !ringForwards s then s
  else match e with
    | .cdrLock => if st = 1 then portState s p 2 else s
    | .blockLock => if st = 2 then portState s p 3 else s
    | .eyeScan eye =>
      if st = 4 then s.wr BRD_PORT_STAT_EYE eye p
      else if st = 3 then
        let s := s.wr BRD_PORT_STAT_EYE eye p
        if Config.portEyeMin ≤ eye then ringPortReady s p else portState s p 5
      else s
    | .relocked => if st = 0 && s.ring.relock.contains p then ringPortReady s p else s

/-- The device folds at port `p` (R398); profiles that come by that port are missed. -/
def foldAt (s : State) (p : Nat) : State :=
  let s := nbrGone s [p]
  if s.flag BRD_STAT_FOLDED && s.rd BRD_STAT_FOLD_PORT == p then s
  else raise ((s.wr BRD_STAT_FOLDED 1).wr BRD_STAT_FOLD_PORT p) 281

/-- A port has lost lock or its neighbour: the device folds (R398), and the port tries to relock (R105). -/
def portLoss (s : State) (p : Nat) : State :=
  if !ringForwards s then s
  else
    let s := if portUp s p then
        { s.sat BRD_PORT_STAT_LOCKLOSS 1 p with ring := { s.ring with relock := p :: s.ring.relock.filter (· != p) } } else s
    let s := foldAt (portState s p 0) p
    if portUp s (1 - p) then linkDone s
    else
      let s := if s.rd BRD_STAT_STATE == 4 then ringState s 1 else s
      nbrGone { s with ring := { s.ring with path := false } } [0, 1]

/-- An ENUM on the lead (R388, R389): from another lead, or its `own`, returned on port `p` after `hops` hops, downstream round the closed
ring to port 0 or folded back. -/
def enumBack (s : State) (p hops : Nat) (own : Bool) : State :=
  let count := some ((hops + 1) / 2)
  if s.rd BRD_STAT_STATE != 2 || !own then s.wr BRD_STAT_LEAD_CONFLICT 1
  else if !s.ring.isOpen then
    if p = 0 then measureStart { s with ring := { s.ring with cntD := some hops, cntU := some 0 } } false
    else { s with ring := { s.ring with cntD := count } }
  else
    let s := { s with ring := if p = 1 then { s.ring with cntD := count } else { s.ring with cntU := count } }
    if s.ring.cntD.isSome && s.ring.cntU.isSome then measureStart s true else s

/-- ENUM on a device that takes its ID from it: the ID it takes and the next one it hands on (R388, R389). A fixed ID is taken already
where it is the lead's or one that ENUM has handed out; a device without an ID takes no part (notes/assumptions/30.md). -/
def enumTake (s : State) (up : Bool) (lead next : Nat) : State × Nat :=
  let s := (s.wr BRD_STAT_ID_CONFLICT 0).wr BRD_STAT_OVERFLOW 0
  let take (s : State) (id : Nat) : State := { s.wr BRD_STAT_ID id with ring := { s.ring with idTaken := true } }
  if s.flag BRD_CFG_ID_MODE then
    let id := s.rd BRD_CFG_ID
    let taken := id == lead || (if up then decide (next < id) else decide (id < next))
    (if taken then s.wr BRD_STAT_ID_CONFLICT 1 else take s id, next)
  else if next = 0 then ((s.wr BRD_STAT_ID_CONFLICT 1).wr BRD_STAT_OVERFLOW 1, next)
  else (take s next, if up then next - 1 else (next + 1) % 2048)

/-- An ENUM frame (R388, R389); `own` tells the lead its own from another lead's. A device whose `P12` is in its swap, or that knows the
frame by its SEQ, forwards it as it is (R384, notes/assumptions/30.md). -/
def enumFrame (s : State) (h : RingHdr) (next : Nat) (own : Bool) : State :=
  if !ringForwards s || !portUp s h.port then s
  else if isLead s then enumBack s h.port h.hops.toNat own
  else if h.hops.toNat == 2047 then ringBad s
  else if !ringOn s || s.ring.enumSeq == some h.seq.toNat then ringForward s h 1 [next]
  else
    let s := heardLead (ringState s 2) h
    let s := { s with ring := { s.ring with idTaken := false, enumSeq := some h.seq.toNat } }
    let (s, next) := enumTake s (h.port == 1) h.src.toNat next
    ringForward s h 1 [next]

/-- ENUM has not returned within 1 ms: the ring is open (R388). -/
def enumTimeout (s : State) : State :=
  if isLead s && s.rd BRD_STAT_STATE == 2 && !s.ring.isOpen then enumOpen s else s

/-! ### Presentation delay (R391) -/

/-- The largest path figure of the followers, in 1/16 ns: of each follower its path latency and 160 ns a hop. The links stand in the order
of the ring from the lead downstream. On a closed ring the paths downstream and upstream of each follower; on an open one the one
path of each, of the first `d` downstream and of the others upstream. -/
def worstPath (closed : Bool) (d : Nat) (lats : List Nat) : Nat :=
  let n := lats.length
  let down (k : Nat) := (lats.take k).sum + 2560 * k
  let up (k : Nat) := (lats.drop (n - k)).sum + 2560 * k
  let most (f : Nat → Nat) (l : List Nat) := l.foldl (fun w k => max w (f k)) 0
  if closed then max (most down (List.range n)) (most up (List.range n))
  else max (most down (List.range (d + 1))) (most up (List.range (n - d + 1)))

/-- P of a set of link latencies, in 10 ns (R391). -/
def presDelay (closed : Bool) (d : Nat) (lats : List Nat) : Nat := (worstPath closed d lats + 3200 + 159) / 160

/-- The links that the lead knows, in the order of the ring. -/
def ringLats (s : State) : List Nat := s.ring.lat.map fun x => x.2

/-- The followers of the ring. -/
def ringCount (s : State) : Nat := s.ring.cntD.getD 0 + s.ring.cntU.getD 0

/-- How many links the ring has: one after each device of a closed one, one less of an open one (R391). -/
def ringLinks (s : State) : Nat := ringCount s + (if s.ring.isOpen then 0 else 1)

/-- The place on the ring of the follower whose report arrives: it has passed the devices nearer to the lead on its side. -/
def ringPlace (s : State) (h : RingHdr) : Nat :=
  if h.port = 1 then h.hops.toNat + 1 else if s.ring.isOpen then 4095 - h.hops.toNat else s.ring.cntD.getD 0 - h.hops.toNat

/-- What the lead's word about a link that has trained again does to a device beside it (R398). -/
def takeVerdict (s : State) (ok : Bool) : State :=
  if !ok then s.wr BRD_STAT_P_EXCEED 1 else if s.flag BRD_STAT_FOLDED then unfold s else s

/-- The lead's word to the devices on both sides of the link behind place `pos` (R398, notes/assumptions/105.md). -/
def sendVerdict (s : State) (pos : Nat) (ok : Bool) : State :=
  let tell (s : State) (d : Nat × Nat) : State := leadSend s 2 d.1 d.2 (measureBlocks 0 3 (if ok then 0 else 1))
  let near := s.ring.ids.filter fun d => d.1 == pos
  let far := (s.ring.ids.filter fun d => decide (pos < d.1)).take 1
  let s := forEach (near ++ far) s tell
  if near == [] || far == [] then takeVerdict s ok else if ok then s else s.wr BRD_STAT_P_EXCEED 1

/-- A ring that training found open, closed: its upstream devices take the places that follow the downstream ones. -/
def ringClosed (s : State) : State :=
  if !s.ring.isOpen then s
  else
    let n := ringCount s
    let place (x : Nat × Nat) : Nat × Nat := (if 2048 ≤ x.1 then n + 1 + x.1 - 4096 else x.1, x.2)
    { s with ring := { s.ring with isOpen := false, cntD := some n, cntU := some 0, ids := s.ring.ids.map place, lat := s.ring.lat.map place } }

/-- The lead takes the report of the device `id` at place `pos`, itself at 0 (R388, R391): with the last one the ring comes up. One that
comes later is of a link that has trained again: it goes back into service where no path then lies beyond P (R398). -/
def leadMeasure (s : State) (pos id lat : Nat) : State :=
  let r := s.ring
  let s' := { s with ring := { r with ids := if pos = 0 then r.ids else kvPut r.ids pos id, lat := if lat = 0 then r.lat else kvPut r.lat pos lat } }
  if s.rd BRD_STAT_STATE == 3 then
    if decide (ringCount s' ≤ s'.ring.ids.length) && decide (ringLinks s' ≤ s'.ring.lat.length) && !s.flag BRD_STAT_LEAD_CONFLICT then
      sendCodes (ringState (s'.wr BRD_PRES_P (min (presDelay (!r.isOpen) (r.cntD.getD 0) (ringLats s')) 0xFFFFF)) 4)
    else s'
  else if s.rd BRD_STAT_STATE == 4 && lat != 0 then
    if s.rd BRD_PRES_P < presDelay true 0 (ringLats s') then sendVerdict s pos false
    else { ringClosed (sendVerdict s' pos true) with ring := { (ringClosed (sendVerdict s' pos true)).ring with broken := false } }
  else s

/-- The latency of the device's downstream link (R391): kept by the lead, reported to it by a follower. -/
def measured (s : State) (lat : Nat) : State := if isLead s then leadMeasure s 0 0 lat else measureReport s lat

/-- A frame with a follower's fixed ID as its source while the ring trains: the ID is already taken (R389, notes/assumptions/30.md). -/
def fixedTwice (s : State) (h : RingHdr) : Bool :=
  ringOwnSrc s h && !isLead s && s.flag BRD_CFG_ID_MODE && (s.rd BRD_STAT_STATE == 2 || s.rd BRD_STAT_STATE == 3)

/-- A device that finds its fixed ID taken goes on without taking part (R389). -/
def fixedYield (s : State) (h : RingHdr) : State := if ringForwards s && portUp s h.port && fixedTwice s h then s.wr BRD_STAT_ID_CONFLICT 1 else s

/-- A MEASURE frame from the neighbour, which goes no further; a device that takes no part forwards it (R386, R389). -/
def ringNear (s : State) (h : RingHdr) (payload : List Nat) (take : State → State) : State :=
  if !ringForwards s || !portUp s h.port then s
  else if ringOwnSrc s h then ringReturned s h
  else if !ringOn s || s.flag BRD_STAT_ID_CONFLICT then (if h.hops.toNat == 2047 then ringBad s else ringForward s h 2 payload)
  else take s

/-- A MEASURE frame (R391): a request is echoed, and a follower in ENUM begins to measure; an echo on port 1 gives the latency of the
downstream link, half the round trip less the turnaround; a report goes to the lead, a verdict to a device beside the link (R398). -/
def measureFrame (s : State) (h : RingHdr) (m : RingMeasure) : State :=
  let s := fixedYield s h
  match m with
  | .request stamp turn =>
    ringNear s h (measureBlocks stamp.toNat 0 0) fun s =>
      let s := ringOwn s h.port 2 false h.src.toNat (measureBlocks stamp.toNat 1 turn.toNat)
      if isLead s || s.rd BRD_STAT_STATE != 2 then s else measureStart s (h.port == 1)
  | .echo turn round =>
    ringNear s h (measureBlocks 0 1 turn.toNat) fun s => if h.port = 1 then measured s ((round - turn.toNat) / 2) else s
  | .report lat =>
    ringIn s h 2 (measureBlocks 0 2 lat.toNat) fun s => if isLead s then leadMeasure s (ringPlace s h) h.src.toNat lat.toNat else s
  | .verdict ok =>
    ringIn s h 2 (measureBlocks 0 3 (if ok then 0 else 1)) fun s => if isLead s then s else takeVerdict s ok

/-! ### Time (R390, R74) -/

/-- The lead sends a TIME frame (R390). -/
def timeSend (s : State) : State :=
  if isLead s && s.rd BRD_STAT_STATE == 4 then leadCast s 3 [s.chrono, 0, s.rd BRD_PRES_P] else s

/-- A correction of a follower's chronometer by `d` ns (R74). One within 1 µs ends a hold and slews (notes/assumptions/94.md). -/
def chronoCorrect (s : State) (d : Int) : State :=
  if d > 1000 then chronoStep { s with slew := 0, hold := 0 } (s.chrono + d).toNat
  else if d < -1000 then { s with slew := 0, hold := d.natAbs }
  else { s with slew := d, hold := 0 }

/-- A TIME frame on a follower (R390): lead time, correction and the latency of the last link, the fractions in 1/16 ns. -/
def timeFrame (s : State) (h : RingHdr) (lead corr latency residence p : Nat) : State :=
  ringIn s h 3 [lead, corr + residence, p] fun s =>
    if isLead s then s
    else
      let s := heardLead s h
      let s := (if s.rd BRD_STAT_STATE == 4 then s else ringState s 4).wr BRD_PRES_P p
      chronoCorrect s ((lead + (corr + latency + 8) / 16 : Nat) - (s.chrono : Int))

/-! ### Position (R77, R78, R392, R393) -/

/-- The ticks of a list of waiting ticks, as one signed move. -/
def netTicks (l : List (Nat × Bool)) : Int := l.foldl (fun n t => if t.2 then n - 1 else n + 1) 0

/-- A tick of the source of Log `n` on a lead that distributes it: it waits for P and goes out in a LOG frame (R392). While the ring trains
again, ticks wait behind those that wait already. -/
def ringDelayed (s : State) (n : Nat) : Bool :=
  isLead s && bit (s.rd BRD_CFG_DIST) n && (s.rd BRD_STAT_STATE == 4 || kvGet (fun _ => []) s.ring.waiting n != [])

/-- That tick queued. -/
def ringDelay (s : State) (n : Nat) (rev : Bool) : State :=
  let add (l : List (Nat × List (Nat × Bool))) := kvSet (fun _ => []) l n (kvGet (fun _ => []) l n ++ [(s.chrono, rev)])
  { s with ring := { s.ring with waiting := add s.ring.waiting, toSend := add s.ring.toSend } }

/-- The payload of a LOG frame (R386, notes/assumptions/105.md): Log number and number of ticks; value; start; the ticks, four to a block. -/
def logBlocks (n value start : Nat) (ticks : List RingTick) : List Nat :=
  let word (k : Nat) : Nat := match ticks[k]? with
    | some t => (if t.reverse then 32768 else 0) + t.offset.toNat
    | none => 0
  (n + ticks.length * 2 ^ 8) :: value :: start :: (List.range ((ticks.length + 3) / 4)).map fun k =>
    word (4 * k) + word (4 * k + 1) * 2 ^ 16 + word (4 * k + 2) * 2 ^ 32 + word (4 * k + 3) * 2 ^ 48

/-- The moment of a tick of a LOG frame in whole nanoseconds of the lead's chronometer. -/
def tickTime (start : Nat) (t : RingTick) : Nat := start + (t.offset.toNat + 15) / 16

/-- A waiting tick as a LOG frame gives it, from the interval's start. -/
def tickOf (start : Nat) (t : Nat × Bool) : RingTick := ⟨t.2, BitVec.ofNat 14 (min (16 * (t.1 - start)) 16383)⟩

/-- The start of the interval of a LOG frame: 1 µs ago, or the first tick that still waits to be sent where that is earlier. -/
def logStart (s : State) (ts : List (Nat × Bool)) : Nat := (ts.head?.map fun t => min (s.chrono - 1000) t.1).getD (s.chrono - 1000)

/-- The ticks that a LOG frame carries: at most 20, each within reach of an offset (R386). -/
def logTicks (start : Nat) (ts : List (Nat × Bool)) : List (Nat × Bool) := (ts.take 20).takeWhile fun t => decide (16 * (t.1 - start) < 2 ^ 14)

/-- The lead sends the LOG frame of each distributed Log (R392): number, value at the interval's start, its time, the ticks. Ticks
beyond those that a frame holds go with the next (notes/assumptions/105.md). -/
def logSend (s : State) : State :=
  if !isLead s || s.rd BRD_STAT_STATE != 4 || !ringFull s then s
  else
    let s := forEach (bitsList (s.rd BRD_CFG_DIST) 4) s fun s n =>
      let ts := kvGet (fun _ => []) s.ring.toSend n
      let ahead := netTicks (kvGet (fun _ => []) s.ring.waiting n) - netTicks ts
      let v := toBits 48 ((logValue s n : Int) + ahead)
      let t0 := logStart s ts
      leadCast s 4 (logBlocks n v t0 ((logTicks t0 ts).map (tickOf t0)))
    let rest (l : List (Nat × Bool)) : List (Nat × Bool) := l.drop (logTicks (logStart s l) l).length
    { s with ring := { s.ring with toSend := (s.ring.toSend.map fun x => (x.1, rest x.2)).filter fun x => x.2 != [] } }

/-- A LOG frame on a follower (R393, R78): its ticks wait for P; a Log that differs takes the value and counts in RESYNC, one that had lost
its source among them. -/
def logFrame (s : State) (h : RingHdr) (n value start : Nat) (ticks : List RingTick) : State :=
  ringIn s h 4 (logBlocks n value start ticks) fun s =>
    let s := if isLead s then s else heardLead s h
    if isLead s || !logsRun s then s
    else forEach (List.range 4) s fun s m =>
      if s.rd LOG_CFG_SRC m != 7 || s.rd LOG_CFG_RING_LOG m != n then s
      else
        let w := kvGet (fun _ => []) s.ring.waiting m
        let lost := s.flag LOG_STAT_SRC_LOST m
        let differs := toBits 48 ((logValue s m : Int) + netTicks w) != value
        let new := ticks.map fun t => (tickTime start t, t.reverse)
        let s := { s with ring := { s.ring with waiting := kvSet (fun _ => []) s.ring.waiting m (if lost || differs then new else w ++ new) } }
        let s := s.wr LOG_STAT_SRC_LOST 0 m
        if differs then logJump (s.sat BRD_CNT_RESYNC) m value else s

/-- A follower's Log has no path to the lead (R78, R393). -/
def logPathLost (s : State) (n : Nat) : State :=
  if s.rd LOG_CFG_SRC n == 7 && !isLead s && logsRun s && !s.flag LOG_STAT_SRC_LOST n then
    raise ({ s.wr LOG_STAT_SRC_LOST 1 n with ring := { s.ring with path := false, waiting := kvSet (fun _ => []) s.ring.waiting n [] } }) (20 + n)
  else s

/-! ### Codes, tunnels, events, edge profiles (R394 to R397) -/

/-- A CODE frame (R394). -/
def codeFrame (s : State) (h : RingHdr) (family : Nat) : State :=
  ringIn s h 5 [family] fun s =>
    if isLead s then s
    else
      let s := heardLead (if s.rd BRD_STAT_STATE == 4 then s else ringState s 4) h
      updFamily { s with ring := { s.ring with family := some family } }

/-- The payload of a TUN_REQ frame (R386, notes/assumptions/105.md): the offset and whether it writes; the data. -/
def tunBlocks (off data : Nat) (write : Bool) : List Nat := [off + (if write then 2 ^ 32 else 0), data]

/-- The payload of a TUN_RSP frame (R386, notes/assumptions/105.md): status and data. -/
def tunAnswer (status data : Nat) : List Nat := [status * 2 ^ 32 + data]

/-- The place of the follower with an ID, 0 where the lead knows none. -/
def devicePlace (s : State) (dest : Nat) : Nat := ((s.ring.ids.find? fun d => d.2 == dest).map fun d => d.1).getD 0

/-- GO in `BRD_TUN_CMD` (R395). -/
def tunCmd (s : State) (v : Nat) : State :=
  if !bit v 31 then s
  else if s.flag BRD_TUN_CMD_BUSY then s.wr BRD_TUN_CMD_ERR 2
  else if !isLead s then s.wr BRD_TUN_CMD_ERR 3
  else if s.rd BRD_TUN_DEST_ID == s.rd BRD_STAT_ID then s.wr BRD_TUN_CMD_ERR 4
  else
    let dest := s.rd BRD_TUN_DEST_ID
    let s := { (s.wr BRD_TUN_CMD_ERR 0).wr BRD_TUN_CMD_BUSY 1 with ring := { s.ring with tunWrite := bit v 30 } }
    if ringSends s then leadSend s 6 (devicePlace s dest) dest (tunBlocks (s.rd BRD_TUN_ADDR_OFFSET) (s.rd BRD_TUN_DATA_DATA) (bit v 30)) else s

/-- A TUN_RSP frame (R395). -/
def tunResponse (s : State) (h : RingHdr) (status data : Word) : State :=
  ringIn s h 7 (tunAnswer status.toNat data.toNat) fun s =>
    if s.flag BRD_TUN_CMD_BUSY then
      let s := s.wr BRD_TUN_CMD_BUSY 0
      if s.ring.tunWrite then s else s.wr BRD_TUN_DATA_DATA data.toNat
    else s

/-- No response within 1 ms (R395). -/
def tunTimeout (s : State) : State :=
  if s.flag BRD_TUN_CMD_BUSY then (s.wr BRD_TUN_CMD_BUSY 0).wr BRD_TUN_CMD_ERR 1 else s

/-- An EVENT frame on the lead (R396). -/
def eventFrame (s : State) (h : RingHdr) (source count chrono : Nat) : State :=
  let words := eventWords h.src.toNat source count chrono
  ringIn s h 8 words fun s => if isLead s && s.flag BRD_FWD_CFG_QEN then qPacket s (s.rd BRD_FWD_CFG_QUEUE) 67 words else s

/-- The side of the neighbour that a frame comes from (R397). -/
def nbrSide (s : State) (src : Nat) : Option Nat :=
  if s.flag BRD_NBR_LEFT_EN && s.rd BRD_NBR_LEFT_ID == src then some 0
  else if s.flag BRD_NBR_RIGHT_EN && s.rd BRD_NBR_RIGHT_ID == src then some 1
  else none

/-- An EDGE frame (R397): a profile is kept once its eight parts are there, in the region's domain (R461). -/
def edgeFrame (s : State) (h : RingHdr) (f part frame stamp : Nat) (ents : List ProfEntry) : State :=
  ringIn s h 9 (edgeBlocks f part frame stamp ents) fun s =>
    match nbrSide s h.src.toNat with
    | none => ringBad s
    | some side =>
      if !s.domain 4 then s
      else
        let s := { s with ring := { s.ring with nbrPort := kvSet (fun _ => 0) s.ring.nbrPort side h.port } }
        let k := 16 * side + f
        let old := kvGet (fun _ => {}) s.ring.parts k
        let base := if old.frame == frame && old.stamp == stamp then old.parts else []
        let parts := kvPut base part ((ents ++ List.replicate 32 ({} : ProfEntry)).take 32)
        if parts.length = 8 then
          let x := histEnter s (0x400000 * s.rd BRD_NBR_BASE_BASE + 0x20000 * k) (kvGet (fun _ => []) s.nbr k) stamp
            (parts.flatMap fun x => x.2)
          { x.1 with nbr := kvSet (fun _ => []) x.1.nbr k x.2, ring := { x.1.ring with parts := kvDel x.1.ring.parts k } }
        else { s with ring := { s.ring with parts := kvPut s.ring.parts k ⟨frame, stamp, parts⟩ } }

/-! ### Panel `P12` (R384, R399) -/

/-- `P12` released: training from LINK where its identity changed, or where it was not on the ring; CODE frames that were withheld go out. -/
def ringRelease (s : State) : State :=
  if s.flag BRD_CTRL_EN && (s.ring.restart || s.rd BRD_STAT_STATE == 0) then ringTrain s
  else
    let s := leadSync s
    if s.ring.codesDue && isLead s && s.rd BRD_STAT_STATE == 4 then sendCodes s else s

/-! ### The rows of the table -/

/-- `RING_PORT_TRAINED` (R383). -/
def execRingPortTrained (p : Fin 2) (step : PortStep) (s : State) : Host.Outcome State Fault Refusal := done (portTrained s p step)

/-- `RING_PORT_LOSS` (R398). -/
def execRingPortLoss (p : Fin 2) (s : State) : Host.Outcome State Fault Refusal := done (portLoss s p)

/-- A port that is down or WEAK trains again, from CDR (R102, R105, R383). -/
def portRetry (s : State) (p : Nat) : State :=
  if ringForwards s && (s.rd BRD_PORT_STAT_STATE p == 0 || s.rd BRD_PORT_STAT_STATE p == 5) then
    portState { s with ring := { s.ring with relock := s.ring.relock.filter (· != p) } } p 1
  else s

/-- `RING_PORT_RETRY` (R383). -/
def execRingPortRetry (p : Fin 2) (s : State) : Host.Outcome State Fault Refusal := done (portRetry s p)

/-- `ENUM_FRAME` (R388). -/
def execEnumFrame (h : RingHdr) (next : BitVec 11) (own : Bool) (s : State) : Host.Outcome State Fault Refusal :=
  done (enumFrame s h next.toNat own)

/-- `ENUM_TIMEOUT` (R388). -/
def execEnumTimeout (s : State) : Host.Outcome State Fault Refusal := done (enumTimeout s)

/-- `MEASURE_FRAME` (R391). -/
def execMeasureFrame (h : RingHdr) (m : RingMeasure) (s : State) : Host.Outcome State Fault Refusal := done (measureFrame s h m)

/-- `TIME_FRAME` (R390). -/
def execTimeFrame (h : RingHdr) (lead : BitVec 64) (corr latency residence : Nat) (p : BitVec 20) (s : State) :
    Host.Outcome State Fault Refusal := done (timeFrame s h lead.toNat corr latency residence p.toNat)

/-- `TIME_SEND` (R390): the next multiple of 1 ms of the elapsed count. -/
def execTimeSend (s : State) : Host.Outcome State Fault Refusal := done (timeSend (s.runTimer 1 1000000))

/-- `LOG_FRAME` (R393). -/
def execLogFrame (h : RingHdr) (log : Fin 4) (value : BitVec 48) (start : Nat) (ticks : List RingTick) (s : State) :
    Host.Outcome State Fault Refusal := done (logFrame s h log value.toNat start ticks)

/-- `LOG_FRAME_SEND` (R392): the next multiple of 1 µs of the elapsed count. -/
def execLogFrameSend (s : State) : Host.Outcome State Fault Refusal := done (logSend (s.runTimer 2 1000))

/-- `LOG_PATH_TIMEOUT` (R393). -/
def execLogPathTimeout (n : Fin 4) (s : State) : Host.Outcome State Fault Refusal := done (logPathLost s n)

/-- `CODE_FRAME` (R394). -/
def execCodeFrame (h : RingHdr) (family : BitVec 11) (s : State) : Host.Outcome State Fault Refusal := done (codeFrame s h family.toNat)

/-- `CODE_HOLD_EXPIRY` (R394). -/
def execCodeHoldExpiry (s : State) : Host.Outcome State Fault Refusal := done (codeExpiry s)

/-- `TUN_RSP_FRAME` (R395). -/
def execTunRspFrame (h : RingHdr) (status data : Word) (s : State) : Host.Outcome State Fault Refusal :=
  done (tunResponse s h status data)

/-- `TUN_TIMEOUT` (R395). -/
def execTunTimeout (s : State) : Host.Outcome State Fault Refusal := done (tunTimeout s)

/-- `EVENT_FRAME` (R396). -/
def execEventFrame (h : RingHdr) (source : Fin 288) (count : Word) (chrono : BitVec 64) (s : State) : Host.Outcome State Fault Refusal :=
  done (eventFrame s h source count.toNat chrono.toNat)

/-- `EDGE_FRAME` (R397). -/
def execEdgeFrame (h : RingHdr) (f : Fin 16) (part : Fin 8) (frame : Word) (stamp : BitVec 64) (entries : List ProfEntry) (s : State) :
    Host.Outcome State Fault Refusal := done (edgeFrame s h f part frame.toNat stamp.toNat entries)

/-- `RING_FRAME_BAD` (R387). -/
def execRingFrameBad (h : RingHdr) (s : State) : Host.Outcome State Fault Refusal :=
  done (if ringForwards s && portUp s h.port then ringBad s else s)

end Sys2Proof.Machine
end

