-- ==== Sys2Proof/Machine/Trim.lean ====
section
/-! DEFINITION. What the steps of a factory run choose, compute and show of their measurements (spec/20_calibration_logbook.md, R401,
R404 to R406; notes/assumptions/104.md). -/

namespace Sys2Proof.Machine

/-! ### Least and greatest -/

/-- The first place of a list at which `f` is least, 0 of an empty one. -/
def leastAt {α : Type} (f : α → Nat) : List α → Nat
  | [] => 0
  | [_] => 0
  | x :: y :: t =>
    let i := leastAt f (y :: t)
    match (y :: t)[i]? with
    | some z => if f x ≤ f z then 0 else i + 1
    | none => 0

/-- The greatest of a list, 0 of none. -/
def greatest (l : List Nat) : Nat := l.foldl max 0

/-- The least of a list, 0 of none. -/
def leastOf : List Nat → Nat
  | [] => 0
  | x :: t => t.foldl min x

/-- A number entered into a rising list. -/
def enterSorted (x : Nat) : List Nat → List Nat
  | [] => [x]
  | y :: t => if x ≤ y then x :: y :: t else y :: enterSorted x t

/-! ### References (R400, R401) -/

/-- Whether `v` lies within 2 % of `nominal`. -/
def near2 (v nominal : Nat) : Bool := decide (100 * v ≤ 102 * nominal) && decide (98 * nominal ≤ 100 * v)

/-- The step that a measurement is one of. -/
def measureStep : CalMeasure → Nat
  | .lanes => 1
  | .timing _ _ => 2
  | .ladder _ _ => 3
  | .excitation _ _ _ _ => 4
  | .sinks _ _ => 5
  | .chopper _ _ => 6

/-- The references as a step measured them: 0 the voltage, 1 the resistance, 2 the period. -/
def refRead : CalMeasure → List (Nat × Nat)
  | .lanes => []
  | .timing ps _ => [(2, ps)]
  | .excitation mohm uv _ _ => [(0, uv), (1, mohm)]
  | .ladder uv _ | .sinks uv _ | .chopper uv _ => [(0, uv)]

/-- The references that the fixture applies, of those that step `k` measures first (R401). -/
def stepRefs (s : State) (k : Nat) : List (Nat × Nat) :=
  match k with
  | 2 => [(2, s.board.refPs)]
  | 4 => [(0, s.board.refUv), (1, s.board.refMohm)]
  | 3 | 5 | 6 => [(0, s.board.refUv)]
  | _ => []

/-- A reference as declared at START. -/
def CalRun.ref (r : CalRun) (k : Nat) : Nat := match k with | 0 => r.uv | 1 => r.mohm | _ => r.ps

/-- Whether references as measured lie within 2 % of their declared values (R401). -/
def refOk (s : State) (l : List (Nat × Nat)) : Bool := l.all fun p => near2 p.2 (s.cal.run.ref p.1)

/-! ### TIMING (R404, R405) -/

/-- Twice the median of the widths of a line's cells. -/
def medianTwice (l : List Nat) : Nat :=
  let t := l.foldr enterSorted []
  t.getD ((l.length - 1) / 2) 0 + t.getD (l.length / 2) 0

/-- The cells kept of the 288 of a line: the 32 furthest from the median are excluded, the higher of two as far (R404). -/
def cellsKept (wide : List Nat) : List Bool :=
  let m := medianTwice wide
  let far (j : Nat) : Nat := (2 * wide.getD j 0 - m) + (m - 2 * wide.getD j 0)
  (List.range 288).map fun j =>
    decide (32 ≤ ((List.range 288).filter fun k => decide (far j < far k) || (far k == far j && decide (j < k))).length)

/-- The boundaries of the cells by code density over `n` hits: `round (256 × hits below / n)` (R255). -/
def densityTable (n : Nat) (hits : List Nat) : List Nat :=
  (List.range 256).map fun j => (256 * (hits.take j).sum * 2 + n) / (2 * n)

/-- The DNL of a line in 0.01 ps: the greatest distance of a cell's width from the 256th part of a nanosecond (R406). -/
def lineDnl (kept : List Nat) : Nat :=
  greatest (kept.map fun (h : Nat) => (divNearest (((h : Int) - 4096).natAbs * 100000) 1048576).natAbs)

/-- The INL of a line in 0.01 ps: the greatest distance, over its cells, of the mean deviation of the timing pulses that fell in a
cell from that of all; the deviation of pulse `n` is its time by the cell table less `n` declared periods (R404, R406). -/
def lineInl (ps : Nat) (table : List Nat) (pulses : List (Nat × Fin 256)) : Nat :=
  let devs := pulses.zipIdx.map fun p => (p.1.2.val, ((1000 * (256 * p.1.1 + table.getD p.1.2 0) : Nat) : Int) - ((256 * p.2 * ps : Nat) : Int))
  let all := (devs.map (·.2)).sum
  greatest ((List.range 256).map fun j =>
    let c := (devs.filter (·.1 == j)).map (·.2)
    if c == [] then 0
    else (divNearest ((c.sum * devs.length - all * c.length).natAbs * 100) (256 * c.length * devs.length)).natAbs)

/-- The 65 lines of a TIMING measurement in converter order: five groups of 13 (R405). -/
def timingLines (groups : List (List LineHits)) : List LineHits := groups.flatten

/-- How long the two measurements of each group last, in ns: 1,048,576 hits per line at the calibration load (R405). -/
def timingTime (groups : List (List LineHits)) (load : Nat) : Nat := groups.length * 2 * 1048576 * 1000000000 / load

/-- A cell map: a bit for each cell, set where it is kept. -/
def mapBytes (kept : List Bool) : List Byte :=
  leBytes 36 (kept.foldr (fun b n => 2 * n + (if b then 1 else 0)) 0)

/-! ### Trims as the bytes of their section of a record (R410) -/

/-- The ladder tap that brings the 5.000 V reading on RANGE 1 closest to its declared value (R404). -/
def ladderTap (declared : Nat) (c : LadderRead) : Nat :=
  leastAt (fun (k : Int) => (k * 5120000 - declared * 4194304).natAbs) c.taps

/-- The residual of a converter in 0.01 ppm of span, at -5 V, 0 V, +2.5 V and +5 V (R404, R406). -/
def ladderResidual (declared : Nat) (c : LadderRead) : Nat :=
  let want : List Int := [-(2 * declared : Nat), 0, declared, (2 * declared : Nat)]
  greatest ((c.resid.zip want).map fun p =>
    (divNearest ((p.1 * 2 * 5120000 - p.2 * 4194304).natAbs * 100000000) (2 * 5120000 * 4194304)).natAbs)

/-- The spread between the four sources of one combination of idle groups, at the worse of the two currents (R404). -/
def comboSpread (r : List Nat) : Nat :=
  let spread (l : List Nat) := greatest l - leastOf l
  max (spread (r.take 4)) (spread (r.drop 4))

/-- The spread of a list over its mean, in parts of `unit`. -/
def mismatch (unit : Nat) (l : List Nat) : Nat :=
  if l.sum = 0 then 0 else (divNearest ((greatest l - leastOf l) * l.length * unit) l.sum).natAbs

/-- The code at which a sink's replica comes nearest to 200 µA, in nA (R404). -/
def sinkCode (r : List Nat) : Nat := leastAt (fun n => (n - 200000) + (200000 - n)) r

/-- The offset selection of a comparator that changes nearest 0 V (R404). -/
def offsetCode (r : List Int) : Nat := leastAt Int.natAbs r

/-- The fine trim at which a source comes nearest to its declared 100 µA, in nA (R404). -/
def fineCode (r : List Nat) : Nat := leastAt (fun n => (n - 100000) + (100000 - n)) r

/-- The gain error that remains at a tap: the reading less the declared voltage, in codes of RANGE 1 (R404). -/
def gainError (declared : Nat) (c : LadderRead) (tap : Nat) : Int := c.taps.getD tap 0 - divNearest (declared * 4194304) 5120000

/-- The trims of a step as the bytes that enter the record (R404, R410). -/
def stepTrims (s : State) : CalMeasure → List Byte
  | .lanes => []
  | .timing _ groups =>
    let l := timingLines groups
    l.flatMap (fun x => mapBytes (cellsKept x.wide)) ++ l.flatMap fun x => (densityTable 1048576 x.kept).flatMap (leBytes 2)
  | .ladder _ conv => conv.flatMap fun c =>
    let tap := ladderTap s.cal.run.uv c
    leBytes 4 tap ++ leBytes 4 (toBits 32 (gainError s.cal.run.uv c tap)) ++ leBytes 4 (toBits 32 c.short) ++ leBytes 52 0
  | .excitation _ _ combos fine =>
    let best := leastAt comboSpread combos
    (List.range 4).flatMap fun i => leBytes 4 (best / 4 ^ i % 4) ++ leBytes 4 (fineCode (fine.getD i [])) ++ leBytes 8 0
  | .sinks _ codes => codes.flatMap fun r => leBytes 4 (sinkCode r)
  | .chopper _ offs => offs.flatMap fun r => leBytes 2 (offsetCode r)

/-- The figures that a step's measurements give (R406). -/
def stepFigs (s : State) : CalMeasure → List (Nat × Nat)
  | .lanes => []
  | .timing _ groups =>
    let l := timingLines groups
    [(0, greatest (l.map fun x => lineInl s.cal.run.ps (densityTable 1048576 x.kept) x.pulses)), (1, greatest (l.map fun x => lineDnl x.kept))]
  | .ladder _ conv => [(2, greatest (conv.map (ladderResidual s.cal.run.uv)))]
  | .excitation _ _ _ fine => [(3, mismatch 100000 (fine.map fun r => r.getD (fineCode r) 0))]
  | .sinks _ codes => [(4, mismatch 10000 (codes.map fun r => r.getD (sinkCode r) 0))]
  | .chopper _ offs => [(5, greatest (offs.map fun r => (r.getD (offsetCode r) 0).natAbs))]

end Sys2Proof.Machine
end

