-- ==== Sys2Proof/WellFormed.lean ====
section
/-! DEFINITION. Which command terms name a command of the hardware: the conditions that the types of Sys2Proof/Syntax.lean leave open. -/

namespace Sys2Proof

/-- A profile entry fits its fields (R250). -/
def ProfEntry.wf (e : ProfEntry) : Bool :=
  decide (-2147483648 ≤ e.height) && decide (e.height < 2147483648) && decide (e.conf < 256) && decide (e.flags < 65536)

/-- The hits of a delay line are as many as R404 and R405 have measured. -/
def LineHits.wf (l : LineHits) : Bool :=
  l.wide.length == 288 && l.wide.sum == 1048576 && l.kept.length == 256 && l.kept.sum == 1048576 && l.pulses.length == 262144

/-- A measurement has what its step measures (R404, R405). -/
def CalMeasure.wf : CalMeasure → Bool
  | .lanes => true
  | .timing _ groups => groups.length == 5 && groups.all fun g => g.length == 13 && g.all LineHits.wf
  | .ladder _ conv => conv.length == 2 && conv.all fun c => c.taps.length == 64 && c.resid.length == 4
  | .excitation _ _ combos fine => combos.length == 256 && combos.all (·.length == 8) && fine.length == 4 && fine.all (· != [])
  | .sinks _ codes => codes.length == 24 && codes.all (·.length == 256)
  | .chopper _ offs => offs.length == 16 && offs.all (·.length == 64)

/-- Whether a command term is one of the hardware's. -/
def Instr.wf : Instr → Bool
  | .bar2Write addr data => data != [] && decide (addr.toNat + data.length ≤ 2 ^ 34)
  | .bar2Read addr len => decide (0 < len) && decide (addr.toNat + len ≤ 2 ^ 34)
  | .encoderSample _ _ _ _ now | .switchEdge _ _ _ now | .axisEncoderEdge _ _ _ now => now % 5 == 0
  | .mainsEdge period => decide (0 < period)
  | .logFrame _ _ _ _ ticks => decide (ticks.length ≤ 20)
  | .edgeFrame _ _ _ _ _ entries => entries.length == 32 && entries.all ProfEntry.wf
  | .dramTrainingDone rate => decide (0 < rate)
  | .calStepDone m => m.wf
  | _ => true

end Sys2Proof
end

