-- ==== Sys2Proof/Machine/Calib.lean ====
section
/-! DEFINITION. Factory trim, records and the logbook (spec/20_calibration_logbook.md): the factory run, the commit protocol of
MRAM records, the incident log, the calendar, and what a boot takes from MRAM. -/

namespace Sys2Proof.Machine

/-! ### The incident log (R418) and the calendar (R417) -/

/-- The calendar's seconds (R417). -/
def calSeconds (s : State) : Nat := s.rtc / 1000000000 % 2 ^ 32

/-- An entry written into the incident log (R418). -/
def incident (s : State) (code data : Nat) : State :=
  let e := s.rd LGB_INC_HEAD_NEXT
  let ws := [calSeconds s, code * 2 ^ 16 + data % 2 ^ 16, s.chrono % 2 ^ 32]
  let s := forEach [0, 1, 2] s fun s i => s.set (0xF88000 + 16 * e + 4 * i) (BitVec.ofNat 32 (ws.getD i 0))
  (s.set (0xF88000 + 16 * e + 12) (BitVec.ofNat 32 (crc32c (ws.flatMap (blockBytes 4))))).wr LGB_INC_HEAD_NEXT (e + 1)

/-- A write of `LGB_RTC_SEC` (R417). -/
def rtcWrite (s : State) (v : Word) : State := { s.wr LGB_STAT_RTC_VALID 1 with rtc := v.toNat * 1000000000 }

/-- The crystal stops, or every supply is lost (R417). -/
def rtcLost (s : State) : State := { s.wr LGB_STAT_RTC_VALID 0 with rtc := 0, cal := { s.cal with rtcLost := true } }

/-! ### Records (R410 to R412) -/

/-- The commit word of a generation (R410). -/
def commitWord (gen : Nat) : Nat := Nat.xor (gen % 2 ^ 32) 0xA5C35A3C

/-- The magic of a kind of record (1 logbook, 2 calibration), "HNLB" or "HNCR". -/
def recMagic (kind : Nat) : Nat := leNat (asciiBytes (if kind = 1 then "HNLB" else "HNCR"))

/-- The length of header and payload of a kind of record (R410). -/
def recLength (kind : Nat) : Nat := if kind = 1 then 1088 else 0x8EC8

/-- The header of a record (R410). -/
def recHeader (r : Rec) : List Byte :=
  leBytes 4 r.magic ++ leBytes 2 r.version ++ leBytes 2 r.kind ++ leBytes 4 r.length ++ leBytes 4 r.gen ++ leBytes 4 r.secs ++ leBytes 4 r.fw
    ++ leBytes 8 r.serial

/-- The payload of a record (R410): counters, calendar and identity index, or the sections of a calibration. A record without an identity
index has ones in its place (notes/assumptions/29.md). -/
def recPayload (kind : Nat) (r : Rec) : List Byte :=
  let num (k : Nat) : Nat := kvGet (fun _ => 0) r.nums k
  let sec (k n : Nat) : List Byte := let l := kvGet (fun _ => []) r.sections k; l.take n ++ leBytes (n - l.length) 0
  if kind = 1 then
    (List.range 128).flatMap (fun i => leBytes 8 (num i)) ++ leBytes 8 (num 128) ++ (if num 129 = 0 then List.replicate 24 0xFF else leBytes 24 (num 92))
  else sec 0 64 ++ sec 2 35620 ++ (List.range 65).flatMap (fun i => leBytes 4 (num (100 + i))) ++ sec 3 128 ++ sec 4 64 ++ sec 5 96 ++ sec 6 32
    ++ (List.range 8).flatMap (fun k => leBytes 4 (num k)) ++ leBytes 4 (num 16)
    ++ sec 11 10 ++ sec 12 130 ++ sec 13 4 ++ sec 14 8 ++ sec 15 48 ++ sec 16 20

/-- Header and payload of a record as they stand in its slot. -/
def recBytes (kind : Nat) (r : Rec) : List Byte := recHeader r ++ recPayload kind r

/-- The CRC-32C that belongs to a record (R410). -/
def recCrc (kind : Nat) (r : Rec) : Nat := crc32c ((recBytes kind r).map BitVec.toNat)

/-- Whether a slot holds a valid record of a kind (R412). -/
def Rec.valid (kind : Nat) (r : Rec) : Bool :=
  r.magic == recMagic kind && r.kind == 3 - kind && r.version == 1 && r.length == recLength kind && r.commit == commitWord r.gen
    && r.crc == recCrc kind r

/-- Whether generation `a` is newer than `b` (R412). -/
def newer (a b : Nat) : Bool := let d := (a + 2 ^ 32 - b) % 2 ^ 32; decide (1 ≤ d) && decide (d < 2 ^ 31)

/-- The newest valid record of a pair of slots of a kind, with its slot (R412). -/
def newestRec (kind : Nat) (a b : Rec) : Option (Nat × Rec) :=
  match a.valid kind, b.valid kind with
  | true, true => if newer b.gen a.gen then some (1, b) else some (0, a)
  | true, false => some (0, a)
  | false, true => some (1, b)
  | false, false => none

/-- The slot of a kind of record (1 logbook, 2 calibration). -/
def getSlot (c : CalSt) (kind slot : Nat) : Rec := if kind = 1 then (if slot = 0 then c.lgbA else c.lgbB) else (if slot = 0 then c.calA else c.calB)

/-- A slot replaced. -/
def setSlot (c : CalSt) (kind slot : Nat) (r : Rec) : CalSt :=
  if kind = 1 then (if slot = 0 then { c with lgbA := r } else { c with lgbB := r })
  else (if slot = 0 then { c with calA := r } else { c with calB := r })

/-- The newest valid record of a kind. -/
def newestOf (s : State) (kind : Nat) : Option (Nat × Rec) := newestRec kind (getSlot s.cal kind 0) (getSlot s.cal kind 1)

/-- Lifetime counter `i` (R414). -/
def lgbCtr (s : State) (i : Nat) : Nat := s.rd2 LGB_CTR_LO_COUNT LGB_CTR_HI_COUNT i

/-- SAVE_BUSY shown. -/
def saveSync (s : State) : State := s.wr LGB_STAT_SAVE_BUSY (if s.cal.writing = 0 then 0 else 1)

/-- The MRAM offset of a slot (R410). -/
def recBase (kind slot : Nat) : Nat := if kind = 1 then 0x20000 + 0x4000 * slot else 0x10000 * slot

/-- Steps 1 to 3 of the write of a record (R411): 0 to the commit word, header and payload, CRC-32C. -/
def recWrite (s : State) (kind slot : Nat) (r : Rec) : State :=
  let b := recBytes kind r
  let a := recBase kind slot
  ((s.out (.mram (a + b.length + 4) (leBytes 4 0))).out (.mram a b)).out (.mram (a + b.length) (leBytes 4 r.crc))

/-- Step 5 of the write: the commit word (R411). -/
def recCommit (s : State) (kind slot : Nat) (r : Rec) : State :=
  s.out (.mram (recBase kind slot + (recBytes kind r).length + 4) (leBytes 4 (commitWord r.gen)))

/-- A record of generation `gen` with its header and CRC-32C, not committed (R410). -/
def sealRec (s : State) (kind gen : Nat) (r : Rec) : Rec :=
  let r := { r with magic := recMagic kind, version := 1, kind := 3 - kind, length := recLength kind, gen := gen, secs := calSeconds s,
                    fw := s.sec.fwVersion, serial := s.board.serial, commit := 0 }
  { r with crc := recCrc kind r }

/-- The write of a record of a kind begins: its target slot holds it without a commit word (R411). -/
def beginWrite (s : State) (kind : Nat) (r : Rec) : State :=
  let n := newestOf s kind
  let t := match n with | some (0, _) => 1 | _ => 0
  let g := match n with | some (_, x) => (x.gen + 1) % 2 ^ 32 | none => 1
  let r := sealRec s kind g r
  saveSync { recWrite s kind t r with cal := { setSlot s.cal kind t r with writing := kind, target := t, retry := false, draft := r } }

/-- The contents of a logbook record (R410): the counters, the calendar, and whether it holds the identity index (R426). -/
def logbookRec (s : State) : Rec :=
  { nums := ((List.range 128).map fun i => (i, lgbCtr s i)).filter (fun p => p.2 != 0) ++ [(128, calSeconds s)]
      ++ if s.flag SEC_STAT_IDX_LOST then [] else [(129, 1)] }

/-- A save asked for: at once, or held one deep behind the write that runs (R415). -/
def saveAsk (s : State) : State :=
  if s.cal.writing = 0 then beginWrite s 1 (logbookRec s) else { s with cal := { s.cal with saveHeld := true } }

/-- A periodic save that fell due during a COMMIT runs when that has ended (R415). -/
def saveAfter (s : State) : State :=
  if s.cal.saveDue && s.rd CAL_STAT_STATE != 2 then saveAsk { s with cal := { s.cal with saveDue := false } } else s

/-- The held save runs (R415). -/
def saveNext (s : State) : State :=
  if s.cal.saveHeld then beginWrite { s with cal := { s.cal with saveHeld := false, pfw := if s.cal.pfw = 2 then 1 else s.cal.pfw } } 1 (logbookRec s)
  else s

/-! ### The factory run (R400 to R408) -/

/-- Whether a run is in progress. -/
def calRunning (s : State) : Bool := s.rd CAL_STAT_STATE == 1 || s.rd CAL_STAT_STATE == 2

/-- Whether the declared references are taken (R400). -/
def declaredOk (s : State) : Bool :=
  near2 (s.rd CAL_REF_V_UV) 5000000 && near2 (s.rd CAL_REF_R_MOHM) 10000000 && near2 (s.rd CAL_REF_T_PS) 100000
    && s.rd CAL_REF_PIN_VPIN != s.rd CAL_REF_PIN_RPIN

/-- The calibration load in events/s, within its range. -/
def calLoad (s : State) : Nat := max 1000000 (min 10000000 (s.rd CAL_LOAD_RATE))

/-- The bytes of the trims that a step leaves in the record (R410). -/
def trimLen (k : Nat) : Nat := match k with | 2 => 35620 | 3 => 128 | 4 => 64 | 5 => 96 | 6 => 32 | _ => 0

/-- The limit of figures 0 to 5 and 7 (R406). -/
def figLimit (k : Nat) : Nat := [400, 150, 50, 100, 50, 2000, 0, 16].getD k 0

/-- The upstream lanes that are UP. -/
def lanesUp (s : State) : List Nat := (List.range 8).filter fun l => s.rd SNS_LANE_STAT_STATE l == 4

/-- The ring ports that are UP. -/
def portsUp (s : State) : List Nat := [0, 1].filter fun p => s.rd BRD_PORT_STAT_STATE p == 4

/-- The figures of step LANES (R404, R406). -/
def laneFigures (s : State) : List (Nat × Nat) :=
  [(6, leastOf ((lanesUp s).map fun l => s.rd SNS_LANE_STAT_EYE l)), (7, leastOf ((portsUp s).map fun p => s.rd BRD_PORT_STAT_EYE p))]

/-- Whether figure `k` breaks its limit (R406). -/
def figFails (s : State) (k v : Nat) : Bool :=
  if k = 6 then (lanesUp s).any fun l => s.rd SNS_LANE_STAT_EYE l == v && decide (v < s.rd SNS_LANE_CTRL_EYE_MIN l)
  else if k = 7 then portsUp s != [] && decide (v < figLimit 7)
  else decide (figLimit k < v)

/-- The end of a run without a record (R407); axes that step CHOPPER held are driven again (R402). -/
def calEnd (s : State) (code : Nat) : State :=
  let wr2 := s.cal.writing == 2
  let held := calHoldsAxes s
  let s := { s with cal := { s.cal with left := [], trial := [], figs := [], started := none, writing := if wr2 then 0 else s.cal.writing } }
  let s := (s.wr CAL_STAT_STATE 4).wr CAL_STAT_ERR code
  let s := raise (incident s 3 (s.rd CAL_STAT_STEP * 256 + code)) 284
  let s := sweepSync (saveSync s)
  let s := if held then forEach (List.range 4) s wakeCoils else s
  saveAfter (if wr2 then saveNext s else s)

/-- What step CHOPPER does to an axis (R402). -/
def calStopAxis (s : State) (a : Nat) : State :=
  let s := setMode (s.updAx a fun x => { x with home := 0 }) a 0
  if (s.ax a).v = 0 then (choppersIdle s a).wr AXS_STAT_REF 0 a else s

/-- The record of a run (R403, R406): sections and figures of the steps done, the rest from the record in force. -/
def calRec (s : State) : Rec :=
  let base := ((newestOf s 2).map fun p => p.2).getD {}
  let old (k : Nat) : Nat := kvGet (fun _ => 0) base.nums k
  let did (k : Nat) : Bool := s.cal.figs.any fun p => p.1 == k
  let fig (k : Nat) : Nat := if did k then kvGet (fun _ => 0) s.cal.figs k else old k
  let fails := (List.range 8).foldl (fun n k => if (if did k then kvGet (fun _ => 0) s.cal.figs (8 + k) == 1 else bit (old 16) k) then n + 2 ^ k else n) 0
  let timing := s.cal.trial.any fun p => p.1 == 2
  let rates := (List.range 65).map fun i => (100 + i, if timing then s.cal.run.load else old (100 + i))
  { sections := (List.range 17).map fun k => (k, if s.cal.trial.any (fun p => p.1 == k) then kvGet (fun _ => []) s.cal.trial k
                                                 else kvGet (fun _ => []) base.sections k),
    nums := ((List.range 8).map fun k => (k, fig k)) ++ [(16, fails)] ++ rates }

/-- The run descriptor (R410): declared and measured references, the calibration load, STEPS and the calendar at START. -/
def runDescriptor (s : State) : List Byte :=
  let m (k : Nat) : Nat := kvGet (fun _ => 0) s.cal.meas k
  let r := s.cal.run
  ([r.uv, r.mohm, r.ps, m 0, m 1, m 2, r.load, r.steps, r.secs].flatMap (leBytes 4)) ++ leBytes 28 0

/-- Whether the step in progress may have run (R402): its blocks are at rest. -/
def calReady (s : State) : Bool :=
  match s.rd CAL_STAT_STEP with
  | 2 => s.frameNow.isNone
  | 3 | 4 => (s.cvSt 0).phase == 0 && (s.cvSt 1).phase == 0
  | 6 => (List.range 4).all fun a => (s.ax a).v == 0
  | _ => true

/-- The next step of a run begins, where its blocks are at rest with the check of its references, or its COMMIT (R401, R402, R406, R408). -/
def calNext (s : State) : State :=
  match s.cal.left with
  | [] =>
    let s : State := { s with cal := { s.cal with trial := kvPut s.cal.trial 0 (runDescriptor s) } }
    let r := calRec s
    let s := forEach (List.range 8) ((s.wr CAL_STAT_STATE 2).wr CAL_STAT_STEP 7) fun s k => s.wr CAL_QF_VALUE (kvGet (fun _ => 0) r.nums k) k
    let s := (sweepSync s).wr CAL_STAT_QFAIL (kvGet (fun _ => 0) r.nums 16)
    let s := { s with cal := { s.cal with started := some 7 } }
    if s.cal.writing = 0 then beginWrite s 2 r else s
  | k :: rest =>
    let s := sweepSync ((s.wr CAL_STAT_STATE 1).wr CAL_STAT_STEP k)
    let s := { s with cal := { s.cal with left := rest, started := some k, since := s.elapsed } }
    let s := if k = 3 || k = 4 then cvQuiesce s else if k = 6 then forEach (List.range 4) s calStopAxis else s
    if calReady s && !refOk s (stepRefs s k) then calEnd s 1 else s

/-- What START fixes for the run (R400, R410). -/
def startRun (s : State) : CalRun :=
  { uv := s.rd CAL_REF_V_UV, mohm := s.rd CAL_REF_R_MOHM, ps := s.rd CAL_REF_T_PS, load := calLoad s, steps := s.rd CAL_CTRL_STEPS,
    secs := calSeconds s }

/-- START in `CAL_CTRL` (R400, R402). -/
def calStart (s : State) : State :=
  let steps := s.rd CAL_CTRL_STEPS
  if calRunning s then s.wr CAL_STAT_ERR 7
  else if !declaredOk s then s.wr CAL_STAT_ERR 10
  else if steps != 0x3F && (newestOf s 2).isNone then s.wr CAL_STAT_ERR 6
  else
    let s := incident (s.wr CAL_STAT_ERR 0) 1 steps
    calNext { s with cal := { s.cal with run := startRun s, left := (bitsList steps 6).map (· + 1), trial := [], figs := [], meas := [] } }

/-- A write of `CAL_CTRL` (R402, R407). -/
def calCtrl (s : State) (v : Nat) : State :=
  let s := s.wr CAL_CTRL_STEPS (v % 64)
  let s := if bit v 31 then calStart s else s
  if bit v 30 && calRunning s then calEnd s 2 else s

/-- The machine moved on to the moment at which a step's measurements can have ended: those of TIMING last as long as their hits take
at the calibration load (R405). -/
def stepTime (s : State) : CalMeasure → State
  | .timing _ groups => s.passTo (s.cal.since + timingTime groups s.cal.run.load)
  | _ => s

/-- The bytes of the per-element figures of each step, in the order of the steps (notes/assumptions/104.md). -/
def elemLen (k : Nat) : Nat := [0, 10, 130, 4, 8, 48, 20].getD k 0

/-- The per-element figures of a step: of LANES the eye of each lane and port that is UP (R404), of the others free bytes
(notes/assumptions/104.md). -/
def stepElems (s : State) (k : Nat) : State × List Byte :=
  if k = 1 then
    (s, ((List.range 8).map fun l => BitVec.ofNat 8 (if (lanesUp s).contains l then s.rd SNS_LANE_STAT_EYE l else 0))
      ++ [0, 1].map fun p => BitVec.ofNat 8 (if (portsUp s).contains p then s.rd BRD_PORT_STAT_EYE p else 0))
  else freeBytes (elemLen k) s

/-- A step of the run ends with what it measured (R401, R404, R406); a measurement of another step is none of its own. -/
def calStep (s : State) (m : CalMeasure) : State :=
  let k := s.rd CAL_STAT_STEP
  if s.rd CAL_STAT_STATE != 1 || !calReady s || measureStep m != k then s
  else if !refOk s (refRead m) then calEnd s 1
  else
    let figs := if k = 1 then laneFigures s else stepFigs s m
    let marks := figs.map fun p => (8 + p.1, if figFails s p.1 p.2 then 1 else 0)
    let put (l : List (Nat × Nat)) (ps : List (Nat × Nat)) := ps.foldl (fun l p => kvPut l p.1 p.2) l
    let e := stepElems s k
    let s := { e.1 with cal := { s.cal with figs := put s.cal.figs (figs ++ marks), meas := put s.cal.meas (refRead m),
                                            trial := kvPut (kvPut s.cal.trial k (stepTrims s m)) (10 + k) e.2 } }
    let s := stepTime s m
    let s := if k = 6 then forEach (List.range 4) s fun s a => (choppersIdle s a).wr AXS_STAT_REF 0 a else s
    let s := calNext s
    if k = 6 then forEach (List.range 4) s wakeCoils else s

/-- The boundaries of the delay-line tables in a TIMING section (R410): after 65 masks of 36 bytes, 65 tables of 256 halfwords. -/
def timingTables (l : List Byte) : List (Nat × List Nat) :=
  let a := l.toArray
  (List.range 65).map fun i =>
    (i, (List.range 256).map fun j => let o := 2340 + 512 * i + 2 * j; (a.getD o 0).toNat + 256 * (a.getD (o + 1) 0).toNat)

/-- The trims of a record by element (R408, R410), as `nominalTrim` numbers them. -/
def recTrims (r : Rec) : List (Nat × List Byte) :=
  let sec (k at_ n : Nat) : List Byte := ((kvGet (fun _ => []) r.sections k).drop at_).take n
  (List.range 34).map fun e =>
    (e, if e < 2 then sec 3 (64 * e) 64 ++ sec 4 0 64 else if e < 26 then sec 5 (4 * (e - 2)) 4 else sec 6 (4 * (e - 26)) 4)

/-- The delay-line tables of a TIMING section, and the cells chosen with them, put in force: between frames (R408). -/
def forceTables (s : State) (timing : List Byte) : State :=
  let ts := timingTables timing
  let cells := some (timing.take 2340)
  if s.frameNow.isSome then { s with fix := { s.fix with waiting := s.fix.waiting ++ ts, cellsWait := cells } }
  else let s := forEach ts s takeTable; { s with fix := { s.fix with cells := cells } }

/-- The calibration record shown in the registers (R412, R413). -/
def showCalRec (s : State) (slot : Nat) (r : Rec) : State :=
  let s := ((s.wr LGB_STAT_CAL_SLOT slot).wr LGB_CAL_GEN_GEN r.gen).wr RGH_FIX_STAT_CAL_VALID 1
  let s := forEach (List.range 8) s fun s k => s.wr CAL_QF_VALUE (kvGet (fun _ => 0) r.nums k) k
  forEach (List.range 65) s fun s i => s.wr RGH_RATE_CAL_RATE (kvGet (fun _ => 0) r.nums (100 + i)) i

/-- The calibration record of a run is committed and its trims apply, each at its moment (R408). -/
def calCommitted (s : State) (slot : Nat) (r : Rec) : State :=
  let timing := s.cal.trial.any fun p => p.1 == 2
  let s := logbook (incident s 2 r.gen) 91 1
  let s := { s with cal := { s.cal with trimWait := recTrims r, trial := [], figs := [], started := none } }
  let s := showCalRec s slot r
  let s := if timing then forceTables s (kvGet (fun _ => []) r.sections 2) else s
  let s := forEach [0, 1] s fun s cv => if (s.cvSt cv).phase == 0 then trimTake s cv else s
  raise ((calRestart s).wr RGH_CAL_STAT_INPUT 0 |>.wr CAL_STAT_STATE 3) 283

/-- The signature that waits for its index is released for signing by a committed record, or lost by a failed one (R425, R428). -/
def quoteRecord (s : State) (r : Rec) (ok : Bool) : State :=
  match s.sec.quote with
  | some (i, body) =>
    if s.sec.committed || !decide (i < kvGet (fun _ => 0) r.nums 92) then s
    else if ok then
      { s with sec := { s.sec with committed := true, quote := some (i, body.take 0xC0 ++ (blockBytes 4 r.gen).map (BitVec.ofNat 8) ++ body.drop 0xC4) } }
    else ({ s with sec := { s.sec with quote := none } }.wr SEC_STAT_BUSY 0).wr SEC_STAT_ERR 4
  | none => s

/-- The save of a `PFW#` ends: its entry carries the time it took, a free value of at most 450 µs (R415, R418). -/
def pfwEntry (s : State) : State :=
  if s.cal.pfw = 1 then incident ({ s with cal := { s.cal with pfw := 0 } }.used) 7 (s.free 16 % 451) else s

/-- The write and read-back of a record end (R411); of one whose read-back fails twice, the slot's CRC-32C does not match. -/
def recordDone (s : State) (ok : Bool) : State :=
  let k := s.cal.writing
  let t := s.cal.target
  let r := s.cal.draft
  if k = 0 then s
  else if ok then
    let r := { r with commit := commitWord r.gen }
    let s := saveSync { recCommit s k t r with cal := { setSlot s.cal k t r with writing := 0 } }
    let s := if k = 2 then calCommitted s t r
      else quoteRecord (pfwEntry ((s.wr LGB_STAT_LGB_SLOT t).wr LGB_GEN_GEN r.gen)) r true
    calWait (saveAfter (saveNext s))
  else if !s.cal.retry then { recWrite s k t r with cal := { s.cal with retry := true } }
  else
    let s := saveSync { s with cal := { setSlot s.cal k t { r with crc := Nat.xor r.crc 1 } with writing := 0 } }
    let s := if k = 2 then calEnd s 8
      else quoteRecord (pfwEntry (raise (incident (s.wr LGB_STAT_SAVE_FAIL 1) 6 t) 285)) r false
    calWait (saveNext s)
where
  /-- A COMMIT that waited for a logbook save begins its write. -/
  calWait (s : State) : State := if s.cal.writing = 0 && s.rd CAL_STAT_STATE == 2 then beginWrite s 2 (calRec s) else s

/-- `PFW#` asserted (R407, R415, R428). -/
def pfw (s : State) : State :=
  let s := raise s 286
  let s := match s.sec.quote with
    | some _ => if s.sec.committed then s else ({ s with sec := { s.sec with quote := none } }.wr SEC_STAT_BUSY 0).wr SEC_STAT_ERR 5
    | none => s
  let s := if calRunning s then calEnd s 3 else s
  let busy := s.cal.writing != 0
  saveAsk { s with cal := { s.cal with pfw := if busy then 2 else 1 } }

/-! ### The boot (R409, R412, R413) -/

/-- Whether the failing slot of a pair raises LGB_SAVE (R412). -/
def slotFault (kind : Nat) (a b : Rec) : Bool :=
  (!a.valid kind && b.valid kind && (newer a.gen b.gen || a.gen == b.gen)) || (!b.valid kind && a.valid kind && (newer b.gen a.gen || a.gen == b.gen))

/-- A run cut short by a reset (R409). -/
def calResetEnd (s : State) : State :=
  match s.cal.started with
  | none => s
  | some k => raise ((incident { s with cal := { s.cal with started := none } } 4 k).wr CAL_STAT_ERR 9) 284

/-- The logbook core's boot: the newest valid records chosen and shown (R409, R412, R413, R417). -/
def bootRecords (s : State) : State :=
  let s := raiseIf s (slotFault 2 s.cal.calA s.cal.calB) 285
  let s := raiseIf s (slotFault 1 s.cal.lgbA s.cal.lgbB) 285
  let s := match newestOf s 2 with
    | some (t, r) =>
      let s := forEach (recTrims r) { showCalRec s t r with cal := { s.cal with trimWait := recTrims r } } fun s e => trimTake s e.1
      forceTables s (kvGet (fun _ => []) r.sections 2)
    | none => s
  let s := match newestOf s 1 with
    | some (t, r) =>
      forEach (List.range 128) ((s.wr LGB_STAT_LGB_SLOT t).wr LGB_GEN_GEN r.gen) fun s i =>
        s.wr2 LGB_CTR_LO_COUNT LGB_CTR_HI_COUNT (kvGet (fun _ => 0) r.nums i) i
    | none => raise (incident s 5 0) 285
  let s := if s.cal.rtcLost then incident { s with cal := { s.cal with rtcLost := false } } 8 0 else s
  calResetEnd s

/-! ### The rows of the table -/

/-- `CAL_STEP_DONE` (R404): a term without the measurements of its step names no command (notes/assumptions/12.md). -/
def execCalStepDone (m : CalMeasure) (s : State) : Host.Outcome State Fault Refusal :=
  if m.wf then done (calStep s m) else .fault .illFormed

/-- `RECORD_WRITE_DONE` (R411). -/
def execRecordWriteDone (ok : Bool) (s : State) : Host.Outcome State Fault Refusal := done (recordDone s ok)

/-- `LOGBOOK_PERIODIC_SAVE` (R415): the next multiple of 10 minutes of the elapsed count; one due in a COMMIT waits for its end. -/
def execLogbookPeriodicSave (s : State) : Host.Outcome State Fault Refusal :=
  let s := s.runTimer 3 600000000000
  done (if s.rd CAL_STAT_STATE == 2 then { s with cal := { s.cal with saveDue := true } } else saveAsk s)

/-- `PFW_ASSERT` (R415). -/
def execPfwAssert (s : State) : Host.Outcome State Fault Refusal := done (pfw s)

/-- `RTC_STOP` (R417). -/
def execRtcStop (s : State) : Host.Outcome State Fault Refusal := done (rtcLost s)

end Sys2Proof.Machine
end

