-- ==== Sys2Proof/Machine/Security.lean ====
section
/-! DEFINITION. Signed images, identity and attestation (spec/21_security.md): signature blocks and roots, the firmware boot, the
identity index, quotes, and the debug unlock. -/

namespace Sys2Proof.Machine

/-! ### Bytes -/

/-- The bytes of a list of words, low byte first. -/
def bytesOfWords (l : List Nat) : List Byte := (l.flatMap (blockBytes 4)).map (BitVec.ofNat 8)

/-- The little-endian number that `n` bytes from `o` hold. -/
def leAt (l : Array Byte) (o n : Nat) : Nat := (List.range n).foldl (fun a i => a + 256 ^ i * (l.getD (o + i) 0).toNat) 0

/-- Bytes `o` to `o + n - 1`. -/
def sliceAt (l : Array Byte) (o n : Nat) : List Byte := (List.range n).map fun i => l.getD (o + i) 0

/-- The bytes of a window of BAR0. -/
def windowBytes (s : State) (off words : Nat) : List Byte := bytesOfWords ((List.range words).map fun i => (s.get (off + 4 * i)).toNat)

/-- `n` bytes of flash from `a`; an unlisted byte is erased. -/
def flashBytes (s : State) (a n : Nat) : List Byte := (List.range n).map fun i => kvGet (fun _ => 0xFF) s.board.flash (a + i)

/-- Bytes written to a window of BAR0, as words. -/
def setWindow (s : State) (off : Nat) (l : List Byte) : State :=
  let a := l.toArray
  forEach (List.range ((l.length + 3) / 4)) s fun s i => s.set (off + 4 * i) (BitVec.ofNat 32 (leAt a (4 * i) 4))

/-! ### Roots and signature blocks (R419 to R422, R460) -/

/-- The length of a signature block (R420). -/
def sigLen : Nat := 2836

/-- The Koryr root's public key (R460). -/
def koryrKey : List Byte := bytesOfWords ((List.range 17).map fun n => (koryrWord n).toNat)

/-- The customer root's public key (R422). -/
def customerKey (s : State) : List Byte := bytesOfWords (s.sec.otpRoot.map fun w => w.toNat)

/-- Whether a signature block over a message verifies under a key (R420). -/
def sigOk (key msg block : List Byte) : Bool :=
  let b := block.toArray
  block.length == sigLen && block.take 4 == asciiBytes "HNSG" && leAt b 4 4 == 0x12 && leAt b 8 4 == 2820
    && xmssVerify 20 key msg (block.drop 16)

/-- The result of a command in SEC_STAT.ERR. -/
def secErr (s : State) (e : Nat) : State := s.wr SEC_STAT_ERR e

/-- REG_ROOT (R422); `otpOk` is the read-back of the programmed key. -/
def regRoot (s : State) (otpOk : Bool) : State :=
  let key := (List.range 17).map fun n => s.get (SEC_ROOT_STAGE.off n 0)
  if s.flag SEC_STAT_ROOT_SET || key.head? != some 0x12#32 || !otpOk then secErr s 8
  else (secErr { s with sec := { s.sec with otpRoot := key } } 0).wr SEC_STAT_ROOT_SET 1

/-- LOCK_KORYR (R422): accepted only once a root is registered; the manual names no code for its refusal, which is a free value. -/
def lockKoryr (s : State) : State :=
  if s.flag SEC_STAT_ROOT_SET then (secErr s 0).wr SEC_STAT_KORYR_OFF 1 else secErr s.used (s.free 4)

/-! ### Firmware (R423, R424) -/

/-- The header of a firmware image (notes/assumptions/29.md): version, security version and signature offset, where it is one. -/
def fwHeader (l : List Byte) : Option (Nat × Nat × Nat) :=
  let a := l.toArray
  let off := leAt a 0x14 4
  if l.take 4 == asciiBytes "HNFW" && leAt a 4 2 == 1 && leAt a 6 2 == 64 && leAt a 8 4 == off + sigLen && leAt a 0x18 4 == sigLen
      && decide (leAt a 0x10 4 ≤ 32) && decide (64 ≤ off) && decide (off + sigLen ≤ 0x80000) then
    some (leAt a 0x0C 4, leAt a 0x10 4, off)
  else none

/-- Firmware taken from `read`, which gives the first bytes of its source: run where it verifies (R421, R423). -/
def runFirmware (s : State) (src : Nat) (read : Nat → List Byte) : Option State :=
  match fwHeader (read 64) with
  | none => none
  | some (ver, svn, off) =>
    let img := read (off + sigLen)
    if decide (svn < s.rd SEC_STAT_SVN) || !sigOk koryrKey (img.take off) (img.drop off) then none
    else
      let s := setWindow s (SEC_FW_HASH.off 0 0) (shake256 (img.take off))
      some ({ s with sec := { s.sec with fwVersion := ver, fwSvn := svn } }.wr SEC_STAT_FW src)

/-- FW_LOAD (R423). -/
def fwLoad (s : State) : State :=
  match runFirmware s 3 fun n => (windowBytes s 0x1008000 ((n + 3) / 4)).take n with
  | some s => secErr s 0
  | none => secErr s 9

/-- The boot ROM (R423): the slot with the higher version first, F0 where they are equal. -/
def bootFirmware (s : State) : State :=
  let s := { s with sec := { s.sec with fwVersion := 0, fwSvn := 0 } }.wr SEC_STAT_FW 0
  let ver (a : Nat) : Nat := match fwHeader (flashBytes s a 64) with | some (v, _, _) => v + 1 | none => 0
  let order := if ver 0 < ver 0x200000 then [(2, 0x200000), (1, 0)] else [(1, 0), (2, 0x200000)]
  (order.findSome? fun p => runFirmware s p.1 fun n => flashBytes s p.2 n).getD s

/-- SVN_COMMIT (R424). -/
def svnCommit (s : State) : State := secErr (s.wr SEC_STAT_SVN (max (s.rd SEC_STAT_SVN) s.sec.fwSvn)) 0

/-! ### Identity and quotes (R425 to R428) -/

/-- The identity index brought from its counter to the registers; SEC_IDX_LOW once at 64,512 (R426). -/
def idxSync (s : State) : State :=
  let i := lgbCtr s 92
  let s := s.wr SEC_IDX_NEXT i
  if decide (64512 ≤ i) && !s.sec.lowRaised then raise { s with sec := { s.sec with lowRaised := true } } 8 else s

/-- The body of a quote (R427): 208 bytes, the logbook serial still to come. -/
def quoteBody (s : State) : List Byte :=
  let w (f : Fld) (n : Nat) : List Nat := (List.range n).map fun i => (s.get (f.off i 0)).toNat
  asciiBytes "HNAQ" ++ bytesOfWords (
    [1 + 208 * 65536, s.board.serial % 2 ^ 32, s.board.serial / 2 ^ 32, s.sec.fwVersion, s.rd HRN_VERSION_VERSION, s.rd GLB_PANEL_STAT,
      s.rd SEC_STAT_DEBUG + 2 * s.rd SEC_STAT_ROOT_SET + 4 * s.rd SEC_STAT_KORYR_OFF]
    ++ w SEC_FW_HASH 8 ++ w HRN_HASH 8 ++ w HRN_PANEL_VER 16 ++ w SEC_NONCE 8
    ++ [0, calSeconds s, s.chrono % 2 ^ 32, s.chrono / 2 ^ 32])

/-- QUOTE (R425 to R427). -/
def quote (s : State) : State :=
  let i := lgbCtr s 92
  if s.flag SEC_STAT_BUSY then secErr s 1
  else if s.flag SEC_STAT_IDX_LOST then secErr s 3
  else if decide (65536 ≤ i) then secErr s 2
  else
    let body := quoteBody s
    let s := idxSync (s.wr2 LGB_CTR_LO_COUNT LGB_CTR_HI_COUNT (i + 1) 92)
    saveAsk ((secErr { s with sec := { s.sec with quote := some (i, body), committed := false } } 0).wr SEC_STAT_BUSY 1)

/-- The signed quote is released (R425, R427). -/
def quoteOut (s : State) : State :=
  match s.sec.quote with
  | some (i, body) =>
    if s.sec.committed then
      let s := setWindow s 0x1001000 (body ++ identitySign i body)
      raise (({ s with sec := { s.sec with quote := none, committed := false } }.wr SEC_STAT_BUSY 0).wr SEC_STAT_QUOTE_READY 1) 7
    else s
  | none => s

/-- The identity at boot: the index of the newest logbook record, or IDX_LOST where none is valid or it holds no index, as one saved after
the loss does not (R426). An index that is already at 64,512 was announced as it reached it (notes/assumptions/106.md). -/
def secBoot (s : State) : State :=
  if (newestOf s 1).any fun p => kvGet (fun _ => 0) p.2.nums 129 == 1 then idxSync { s with sec := { s.sec with lowRaised := decide (64512 ≤ lgbCtr s 92) } }
  else s.wr SEC_STAT_IDX_LOST 1

/-! ### Debug (R429) -/

/-- CHAL: 32 random bytes, free values. -/
def chal (s : State) : State :=
  let s := forEach (List.range 8) s fun s n => (s.set (SEC_DBG_CHAL.off n 0) (BitVec.ofNat 32 (s.free 32))).used
  secErr { s with sec := { s.sec with chalLive := true } } 0

/-- The token that the present challenge asks for, without its signature block. -/
def tokenBody (s : State) : List Byte :=
  asciiBytes "HNDU" ++ bytesOfWords ([s.board.serial % 2 ^ 32, s.board.serial / 2 ^ 32]
    ++ (List.range 8).map fun n => s.rd SEC_DBG_CHAL_CHAL n)

/-- UNLOCK. -/
def unlock (s : State) : State :=
  if s.rd SEC_STAT_FAILS == 3 then secErr s 7
  else
    let tok := windowBytes s 0x1003000 720
    let body := tokenBody s
    let block := tok.drop 44
    let good := s.sec.chalLive && tok.take 44 == body
      && (sigOk koryrKey body block || (s.flag SEC_STAT_ROOT_SET && sigOk (customerKey s) body block))
    let s := { s with sec := { s.sec with chalLive := false } }
    raise (if good then (secErr s 0).wr SEC_STAT_DEBUG 1 else (secErr s 6).sat SEC_STAT_FAILS) 6

/-- A write of `SEC_CTRL`: the commands that it names, from the highest bit down. -/
def secCtrl (s : State) (v : Nat) (otpOk : Bool) : State :=
  let s := onlyIf (bit v 31) quote s
  let s := onlyIf (bit v 30) chal s
  let s := onlyIf (bit v 29) unlock s
  let s := onlyIf (bit v 28) (regRoot · otpOk) s
  let s := onlyIf (bit v 27) lockKoryr s
  let s := onlyIf (bit v 26) fwLoad s
  onlyIf (bit v 25) svnCommit s

/-! ### The row of the table that is no write -/

/-- `QUOTE_READY` (R425). -/
def execQuoteReady (s : State) : Host.Outcome State Fault Refusal := done (quoteOut s)

end Sys2Proof.Machine
end

