-- ==== Sys2Proof/Machine/Image.lean ====
section
/-! DEFINITION. Harness images (spec/02_harness.md): the format (R33, R34, R462), the reflex and domain records (R369, R432), and
the verification checks in the order of their table (R36 to R38, R463). -/

namespace Sys2Proof.Machine

/-! ### The map of panels (R29, R32) -/

/-- The panel that owns a BAR0 offset: 16 for a resident block, 17 for a reserved range (R29, R32). -/
def panelOf (off : Nat) : Nat :=
  match off / 0x100000 with
  | 0 | 1 | 16 | 17 => 16
  | 15 => if off < 0xF80000 then 13 else 16
  | 18 | 19 => 17
  | 20 | 21 | 22 | 23 => 2
  | 24 | 25 => 6
  | 26 => if off < 0x1A40000 then 10 else 17
  | k => if k < 15 then k - 2 else 17

/-- Whether a window word stands at an offset (R116, R228, R335, R358, R418 and spec/21_security.md). -/
def windowWord (off : Nat) : Bool :=
  let within (lo n : Nat) : Bool := decide (lo ≤ off) && decide (off < lo + n)
  within 0x1400000 0x400000 || within 0x1800000 0x200000 || (within 0x1A00000 0x40000 && decide (off % 0x1000 < 16))
    || within 0x1108000 0x400 || within 0x1109000 8 || within 0xF88000 0x8000 || within 0x1001000 2900 || within 0x1002000 2912
    || within 0x1003000 2880 || within 0x1008000 0x80000

/-- Whether a register or window word stands at an offset (R35). -/
def hasWord (off : Nat) : Bool := off % 4 == 0 && ((regRow off).isSome || windowWord off)

/-- The power domains that the block of a panel requires (R461). -/
def panelDomains : Nat → List Nat
  | 0 => [19]
  | 1 => [13]
  | 2 => [14, 15, 16]
  | 3 => [4, 14, 15]
  | 4 => [24, 25, 30, 31]
  | 5 => [23]
  | 6 => [20, 21, 22]
  | 7 => [25, 26, 31]
  | 8 | 9 => [25, 28, 29, 31]
  | 10 => [17]
  | 11 | 15 => [18]
  | 12 => [3]
  | 13 => [0, 2]
  | _ => []

/-! ### The format (R33, R462) -/

/-- A section of an image. -/
structure Section where
  panel : Nat := 0
  ver : Nat := 0
  mask : Nat := 0
  deps : List (Nat × Nat) := []
  words : List Nat := []
  off : Nat := 0
  len : Nat := 0
  bad : Bool := false
  deriving DecidableEq, Repr

/-- Whether `n` bytes from `o` are zero. -/
def zeros (a : Array Byte) (o n : Nat) : Bool := (List.range n).all fun i => a.getD (o + i) 0 == 0

/-- The section at an offset: `none` where its lengths are malformed or it overruns `stop`; `bad` where another of its fields breaks
R462. -/
def sectionAt (a : Array Byte) (o stop : Nat) : Option Section :=
  let nd := leAt a (o + 0x38) 1
  let plen := leAt a (o + 0x3C) 4
  let slen := leAt a (o + 4) 4
  let deps := (List.range nd).map fun k => (leAt a (o + 80 + 8 * k) 1, leAt a (o + 84 + 8 * k) 4)
  let p0 := o + 80 + 8 * nd
  if decide (o + 80 > stop) || decide (15 < nd) || plen % 4 != 0 || slen != 80 + 8 * nd + (plen + 7) / 8 * 8 || decide (o + slen > stop) then none
  else some {
    panel := leAt a (o + 1) 1, ver := leAt a (o + 0x30) 4, mask := leAt a (o + 0x34) 4, deps := deps,
    words := (List.range (plen / 4)).map fun i => leAt a (p0 + 4 * i) 4, off := o, len := slen,
    bad := leAt a o 1 != 0x50 || !zeros a (o + 2) 2 || !zeros a (o + 0x28) 8 || !zeros a (o + 0x39) 3 || !zeros a (o + 0x40) 16
      || deps.any (fun d => decide (15 < d.1)) || !((List.range nd).all fun k => zeros a (o + 81 + 8 * k) 3)
      || !zeros a (p0 + plen) (o + slen - p0 - plen) }

/-- As many sections from an offset as the header counts, and whether they end at `stop`; fewer where `stop` comes first. What stands
behind the last section counted belongs to none (R463). -/
def sectionsFrom (a : Array Byte) (stop : Nat) : Nat → Nat → List Section × Bool
  | 0, o => ([], o == stop)
  | n + 1, o =>
    if o == stop then ([], true)
    else match sectionAt a o stop with
      | none => ([{ panel := leAt a (o + 1) 1, bad := true }], true)
      | some x => let r := sectionsFrom a stop n (o + x.len); (x :: r.1, r.2)

/-- The panel number of a section where it is one. -/
def Section.named (x : Section) : List Nat := if x.panel < 16 then [x.panel] else []

/-- The panels of sections that are malformed, or repeated or out of order. -/
def badSections : Option Nat → List Section → List Section
  | _, [] => []
  | last, x :: t =>
    let wrong := x.bad || decide (15 < x.panel) || (match last with | some p => decide (x.panel ≤ p) | none => false)
    if wrong then x :: badSections (some x.panel) t else badSections (some x.panel) t

/-- An image with its sections. -/
structure Image where
  bytes : Array Byte
  version : Nat
  root : Nat
  full : Bool
  ingest : Nat
  sigOff : Nat
  sigN : Nat
  minFw : Nat
  count : Nat
  secs : List Section
  ends : Bool

/-- The image that bytes hold. -/
def imageOf (l : List Byte) : Image :=
  let a := l.toArray
  let sigOff := leAt a 0x1C 4
  let r := sectionsFrom a sigOff (min (leAt a 0x0E 2) 17) 128
  { bytes := a, version := leAt a 0x10 4, root := leAt a 0x14 1, full := leAt a 0x15 1 % 2 == 1, ingest := leAt a 0x18 4,
    sigOff := sigOff, sigN := leAt a 0x20 4, minFw := leAt a 0x24 4, count := leAt a 0x0E 2, secs := r.1, ends := r.2 }

/-- Whether a header fails BAD_MAGIC (R462). -/
def badMagic (a : Array Byte) : Bool :=
  sliceAt a 0 4 != asciiBytes "HNHI" || leAt a 4 2 != 1 || leAt a 6 2 != 128 || leAt a 0x0C 2 != 0x7484 || leAt a 0x16 2 != 0
    || decide (2 ≤ leAt a 0x15 1) || !zeros a 0x48 56

/-! ### Payloads (R34, R35, R369, R432) -/

/-- The writes of a register program in payload order, where it is well formed. -/
def payloadWrites : Nat → List Nat → Option (List (Nat × Nat))
  | 0, _ => none
  | n + 1, ws =>
    match ws with
    | [w] => if w == 0xF0000000 then some [] else none
    | w :: v :: rest =>
      let off := w % 2 ^ 25
      if bitsOf w 25 3 != 0 then none
      else if w / 2 ^ 28 == 1 then (payloadWrites n rest).map fun l => (off, v) :: l
      else if w / 2 ^ 28 == 2 && decide (1 ≤ v) && decide (v ≤ 65536) && decide (v ≤ rest.length) then
        (payloadWrites n (rest.drop v)).map fun l => ((List.range v).zip (rest.take v)).map (fun x => (off + 4 * x.1, x.2)) ++ l
      else none
    | [] => none

/-- Whether a word describes a table entry (R369). -/
def entryOk (w : Nat) : Bool :=
  let arg := w % 2 ^ 28
  match w / 2 ^ 28 with
  | 0 | 8 => arg == 0
  | 1 | 2 | 6 | 7 => decide (arg < 16)
  | 3 => arg &&& 0x33 == arg && arg % 4 != 3
  | 4 => decide (arg < 4)
  | 5 => decide (arg < 32) && decide (arg % 16 < 12)
  | _ => false

/-- Whether a word describes a command slot (R369). -/
def slotOk (w : Nat) : Bool :=
  let target := bitsOf w 24 4
  w % 2 ^ 24 == 0 && decide (w / 2 ^ 28 < 9)
    && (w / 2 ^ 28 == 7 || (w / 2 ^ 28 == 1 && decide (target < 4)) || target == 0)

/-- Whether the payload of a section passes the OFFSET check (R34, R35, R369, R432). -/
def payloadOk (x : Section) : Bool :=
  if x.panel = 14 then
    match x.words with
    | [w0, 0, 0, 0] => w0 % 16 == 15
    | _ => false
  else if x.panel = 15 then
    x.words.length == 272 && (x.words.take 256).all entryOk && (x.words.drop 256).all slotOk
  else match payloadWrites (x.words.length + 1) x.words with
    | some l => l.all fun w => panelOf w.1 == x.panel && hasWord w.1
    | none => false

/-- The register writes of a section. -/
def Section.writes (x : Section) : List (Nat × Nat) :=
  if x.panel < 14 then (payloadWrites (x.words.length + 1) x.words).getD [] else []

/-! ### What a commit would leave (R37) -/

/-- A register with a written value in the fields that a payload sets (R35, R466). -/
def storeMasked (s : State) (off v : Nat) : State :=
  match regRow off with
  | some r =>
    let m := r.rw ||| r.rwl
    s.set off (BitVec.ofNat 32 (((s.get off).toNat &&& (m ^^^ 0xFFFFFFFF)) ||| (v &&& m)))
  | none => s

/-- The register state that a commit of the image would leave (R37). -/
def afterCommit (s : State) (m : Image) : State :=
  forEach (m.secs.flatMap Section.writes) s fun s w => storeMasked s w.1 w.2

/-- Whether a panel would be loaded after a commit of the image. -/
def Image.loadedAfter (m : Image) (s : State) (p : Nat) : Bool := m.secs.any (·.panel == p) || (!m.full && s.loaded p)

/-- The dependencies that a panel would have after a commit. -/
def Image.depsAfter (m : Image) (s : State) (p : Nat) : List (Nat × Nat) :=
  match m.secs.find? (·.panel == p) with
  | some x => x.deps
  | none => kvGet (fun _ => []) s.hrn.deps p

/-- The version that a panel would have after a commit. -/
def Image.verAfter (m : Image) (s : State) (p : Nat) : Nat :=
  match m.secs.find? (·.panel == p) with
  | some x => x.ver
  | none => s.rd HRN_PANEL_VER_VERSION p

/-- The panels reached from a list in at most 16 steps of `next`. -/
def closure (next : Nat → Nat → Bool) : Nat → List Nat → List Nat
  | 0, l => l
  | n + 1, l => closure next n ((List.range 16).filter fun p => l.contains p || l.any fun q => next q p)

/-- Whether panel `p` depends on `q` directly or through other panels. -/
def leads (dep : Nat → Nat → Bool) (p q : Nat) : Bool := (closure dep 16 ((List.range 16).filter fun r => dep p r)).contains q

/-- Whether panel `p` lies in a cycle of `dep`. -/
def inCycle (dep : Nat → Nat → Bool) (p : Nat) : Bool := leads dep p p

/-! ### Budgets (R20, R22, R25) -/

/-- Whether the template of channel `c` breaks R84's slot conditions, or the rate or PIXELS condition of R85. PIXPER 0, its value after
reset, stands for no template (notes/assumptions/35.md). -/
def templateBreaks (s : State) (c : Nat) : Bool :=
  let pixper := s.rd SNS_TPL_CFG_PIXPER c
  let outs := 2 ^ s.rd SNS_TPL_CFG_OUTPUTS c
  if pixper = 0 then false
  else
    !slotsOk pixper none ((List.range (s.rd SNS_TPL_CFG_SLOTS c + 1)).map fun k => s.rd SNS_TPL_PIX_OFFSET c k)
      || decide ((s.rd SNS_TPL_CFG_COLOURS c + 1) * outs * 1000000000 > 1100000000 * pixper)
      || (s.rd SNS_TPL_PIXELS_PIXELS c + 1) % outs != 0

/-- Whether the channels of lane `l` exceed its payload (R20): the sum of S × B against 15.515 Gbit/s, each term a fraction over a
common denominator. A channel with PIXPER 0 has no peak rate, and PACK 3 costs 16 bits a sample (notes/assumptions/35.md). -/
def laneBreaks (s : State) (l : Nat) : Bool :=
  let terms := ((List.range 12).filter fun c => s.rd SNS_CH_MAP_LANE c == l && s.rd SNS_TPL_CFG_PIXPER c != 0).map fun c =>
    let px := s.rd SNS_TPL_PIXELS_PIXELS c + 1
    ((s.rd SNS_TPL_CFG_COLOURS c + 1) * 2 ^ s.rd SNS_TPL_CFG_OUTPUTS c * 1000000000
        * (192 + (px * packWidth (s.rd SNS_TPL_CFG_PACK c) + 63) / 64 * 64), s.rd SNS_TPL_CFG_PIXPER c * px)
  let sum := terms.foldl (fun (a : Nat × Nat) t => (a.1 * t.2 + t.1 * a.2, a.2 * t.2)) (0, 1)
  decide (15515000000 * sum.2 < sum.1)

/-- The memory-path limit in Msample/s at a data rate in MT/s (R22). -/
def memLimit (rate : Nat) : Nat := min 8400 ((6 * rate - 14000) / 4)

/-- The DRAM regions in use by loaded panels, as half-open spans (R467). -/
def dramRegions (s : State) : List (Nat × Nat) :=
  let hist := if s.loaded 3 then [(s.rd IPG_HIST_BASE_BASE * 0x200000, 0x200000)] else []
  let zones := if s.loaded 3 then (List.range 12).map fun c => (zoneBase s c, (backlogLim s c + 2) * slotBytes s c) else []
  let spill := if s.loaded 10 then (List.range 64).map fun q =>
      (s.rd QUE_SPILL_BASE_BASE q * 0x10000, s.rd QUE_SPILL_SIZE_SPILL q * 0x10000) else []
  let nbr := if s.loaded 12 then [(s.rd BRD_NBR_BASE_BASE * 0x400000, 0x400000)] else []
  ((hist ++ zones ++ spill ++ nbr).filter fun r => r.2 != 0).map fun r => (r.1, r.1 + r.2)

/-- The active producers of a register state, each with its queue and its panel (R327). -/
def activeProds (s : State) (on : Nat → Bool) : List (Nat × Nat) :=
  let views := if on 3 then ((List.range 64).filter (viewWritten s)).map fun v => (s.rd IPG_VIEW_CFG_QUEUE v, 3) else []
  let fix := if on 6 && s.flag RGH_FIX_CFG_QEN then [(s.rd RGH_FIX_CFG_QUEUE, 6)] else []
  let cv := if on 9 then ((List.range 2).filter fun c => s.flag CNV_QCFG_QEN c).map fun c => (s.rd CNV_QCFG_QUEUE c, 9) else []
  let fwd := if on 12 && s.flag BRD_FWD_CFG_QEN && leadRole s then [(s.rd BRD_FWD_CFG_QUEUE, 12)] else []
  views ++ fix ++ cv ++ fwd

/-- The panels of producers that share a queue. -/
def prodConflicts : List (Nat × Nat) → List Nat
  | [] => []
  | x :: t => let same := t.filter (·.1 == x.1)
              (if same == [] then [] else x.2 :: same.map (·.2)) ++ prodConflicts t

/-! ### The checks in order (R36, R463) -/

/-- A failed check: its code, and the lowest of the panels concerned. -/
def concern (code : Nat) (l : List Nat) : Nat × Option Nat :=
  (code, l.foldl (fun m p => match m with | none => some p | some q => some (min q p)) none)

/-- The check `code` on panels: failed by any of them. -/
def checkPanels (code : Nat) (l : List Nat) : Option (Nat × Option Nat) := if l == [] then none else some (concern code l)

/-- A check that concerns no panel. -/
def checkThat (code : Nat) (ok : Bool) : Option (Nat × Option Nat) := if ok then none else some (code, none)

/-- DIRECTORY (R462): the panels of malformed sections, else a fault outside every section. -/
def checkDirectory (m : Image) : Option (Nat × Option Nat) :=
  let bad := badSections none m.secs
  if bad != [] then some (concern 6 (bad.flatMap Section.named))
  else checkThat 6 (m.ends && decide (1 ≤ m.count) && decide (m.count ≤ 16) && m.secs.length == m.count
    && shake256 (m.secs.flatMap fun x => sliceAt m.bytes x.off 80) == sliceAt m.bytes 0x28 32)

/-- The panels of sections that fail a test. -/
def secPanels (m : Image) (bad : Section → Bool) : List Nat := (m.secs.filter bad).map (·.panel)

/-- The panels after the commit that fail a test. -/
def afterPanels (m : Image) (s : State) (bad : Nat → Bool) : List Nat := (List.range 16).filter fun p => m.loadedAfter s p && bad p

/-- The first failing check of an image of `fetched` bytes (R36 to R38, R463): its code and the panel concerned. With no panel loaded a
partial image passes the VERSION check whatever HRN_VERSION holds (notes/assumptions/108.md). -/
def verifyImage (s : State) (l : List Byte) (fetched : Nat) : Option (Nat × Option Nat) :=
  let m := imageOf l
  let len := leAt m.bytes 8 4
  let dep (p q : Nat) : Bool := m.loadedAfter s p && (m.depsAfter s p).any (·.1 == q)
  let t := afterCommit s m
  let use := match m.secs.find? (·.panel == 14) with
    | some x => x.words.headD 0
    | none => if !m.full && s.loaded 14 then s.hrn.domains else 0xFFFFFFFF
  checkThat 1 (!badMagic m.bytes)
  <|> checkThat 2 (decide (len ≤ 0x400000) && len == fetched && decide (128 ≤ m.sigOff) && m.sigOff + m.sigN == len)
  <|> checkThat 3 (decide (m.minFw ≤ s.sec.fwVersion))
  <|> checkThat 4 (if m.root = 0 then !s.flag SEC_STAT_KORYR_OFF else m.root == 1 && s.flag SEC_STAT_ROOT_SET)
  <|> checkThat 5 (sigOk (if m.root = 0 then koryrKey else customerKey s) (sliceAt m.bytes 0 m.sigOff) (sliceAt m.bytes m.sigOff m.sigN))
  <|> checkDirectory m
  <|> checkPanels 7 (secPanels m fun x => shake256 (sliceAt m.bytes (x.off + 48) (x.len - 48)) != sliceAt m.bytes (x.off + 8) 32)
  <|> checkPanels 8 (secPanels m fun x => x.mask != if x.panel < 14 then 2 ^ (x.panel + 2) else 0)
  <|> checkPanels 9 (secPanels m fun x => !payloadOk x)
  <|> checkPanels 10 (afterPanels m s fun p => (m.depsAfter s p).any fun d => !m.loadedAfter s d.1)
  <|> checkPanels 11 (afterPanels m s fun p => (m.depsAfter s p).any fun d => decide (m.verAfter s d.1 < d.2))
  <|> checkPanels 12 (afterPanels m s (inCycle dep))
  <|> checkPanels 13 (if m.loadedAfter s 1 && ((List.range 8).any (laneBreaks t) || (List.range 12).any (templateBreaks t)) then [1] else [])
  <|> checkThat 14 (decide (m.ingest ≤ memLimit s.board.dramRate))
  <|> checkPanels 15 (if m.loadedAfter s 3 && decide (4032 < ((List.range 12).map (backlogLim t)).sum) then [3] else [])
  <|> checkPanels 16 (afterPanels m s fun p => (panelDomains p).any fun d => !bit use d)
  <|> checkThat 17 (!((dramRegions s).any fun r => decide (s.hrn.stageLo < r.2) && decide (r.1 < s.hrn.stageHi)))
  <|> checkThat 18 (m.full || s.rd GLB_PANEL_STAT_LOADED == 0 || m.version / 2 ^ 24 == s.rd HRN_VERSION_VERSION / 2 ^ 24)
  <|> checkPanels 20 (prodConflicts (activeProds t (m.loadedAfter s)))

end Sys2Proof.Machine
end

