-- ==== Sys2Proof/Machine/Panels.lean ====
section
/-! DEFINITION. Panels (spec/02_harness.md): the orders of quiesce and release (R42, R45, R49), quiesce points (R46), what a panel's
unloading, loading and PANEL_RESET change in its blocks (R464, R466), and the power domains of the plan (R431, R432). -/

namespace Sys2Proof.Machine

/-! ### Orders (R42, R45) -/

/-- Whether panel `p` declares a dependency on `q`. -/
def State.dependsOn (s : State) (p q : Nat) : Bool := (kvGet (fun _ => []) s.hrn.deps p).any (·.1 == q)

/-- Panels in ascending order brought into dependency order: each after those that it depends on, lower numbers first. -/
def orderUp (dep : Nat → Nat → Bool) : Nat → List Nat → List Nat
  | 0, l => l
  | n + 1, l =>
    match l.find? fun p => l.all fun q => !dep p q with
    | some p => p :: orderUp dep n (l.erase p)
    | none => l

/-- Panels in descending order brought into the order of a quiesce: each after those that depend on it, higher numbers first. -/
def orderDown (dep : Nat → Nat → Bool) (n : Nat) (l : List Nat) : List Nat := orderUp (fun p q => dep q p) n l

/-- The panels with a property, ascending. -/
def panelsWith (f : Nat → Bool) : List Nat := (List.range 16).filter f

/-- The loaded panels outside `l` that depend on a panel of it, in the order of step 1 of R45. -/
def dependentsOf (s : State) (l : List Nat) : List Nat :=
  let up := closure (fun q p => s.dependsOn p q) 16 l
  orderDown (leads s.dependsOn) 16 ((panelsWith fun p => s.loaded p && up.contains p && !l.contains p).reverse)

/-- Whether every panel that `p` depends on, directly or through others, is loaded (R49). -/
def wholeDeps (s : State) (p : Nat) : Bool := (closure s.dependsOn 16 [p]).all fun q => q == p || s.loaded q

/-! ### Quiesce points (R46) -/

/-- Whether panel `p` stands at its quiesce point. -/
def atPoint (s : State) (p : Nat) : Bool :=
  match p with
  | 1 => (List.range 12).all fun c => !(s.chan c).busy
  | 4 => (List.range 4).all fun a => (s.ax a).v == 0
  | 5 | 6 => s.rgh.frames == []
  | 7 => ((List.range 16).all fun e => !peActive s e || (s.peSt e).held) && ([0, 1].all fun ch => chainIdle s ch)
  | 8 | 9 => [0, 1].all fun cv => (s.cvSt cv).phase == 0
  | 10 => (List.range 64).all fun q => !(s.q q).isOpen
  | 13 => s.fix.total == 0 || !calRuns s
  | _ => true

/-- Whether panel `p` quiesces at once. -/
def atOnce (p : Nat) : Bool := p == 11 || p == 14 || p == 15

/-- The panels whose blocks step `k` of a factory run interrupts (R402). -/
def stepPanels (k : Nat) : List Nat :=
  match k with
  | 2 => [5, 6]
  | 3 | 4 => [8, 9]
  | 5 => [7]
  | 6 => [4]
  | _ => []

/-- Whether panel `p` quiesces as a target: of the commit, or of the PANEL_RESET. -/
def asTarget (s : State) (p : Nat) : Bool := s.hrn.resetting == some p || (s.hrn.resetting.isNone && s.hrn.targets.contains p)

/-- Panel `p` has reached its quiesce point. -/
def reachPoint (s : State) (p : Nat) : State :=
  let s := s.setBit GLB_PANEL_STAT_QUIESCED p
  if p == 0 then logQuiesce s else if p == 15 then reflexSnap s else s

/-- Panel `p` begins to quiesce (R46, R132, R145, R149, R200, R323, R349, R402). -/
def askPanel (s : State) (p : Nat) : State :=
  let target := asTarget s p
  let s := { s with hrn := { s.hrn with asked := p :: s.hrn.asked, quiTarget := if target then p :: s.hrn.quiTarget else s.hrn.quiTarget } }
  let s := if s.rd CAL_STAT_STATE == 1 && (stepPanels (s.rd CAL_STAT_STEP)).contains p then calEnd s 5 else s
  let s := match p with
    | 2 => inlineSync (capFail s 7)
    | 3 => forEach (List.range 64) (inlineSync s) fun s v => if target then viewFinish s v else s
    | 4 => axesQuiesce s
    | 6 | 13 => sweepSync s
    | 8 | 9 => cvQuiesce s
    | _ => s
  let s := if p == 3 && !target then viewsAbort s else s
  if atOnce p then reachPoint s p else s

/-- The next panels of the order asked, up to the first that does not quiesce at once; one already held is passed over (R45). -/
def askNext : List Nat → State → State
  | [], s => { s with hrn := { s.hrn with order := [] } }
  | p :: t, s =>
    if s.quiesced p then
      askNext t (if asTarget s p then { s with hrn := { s.hrn with quiTarget := p :: s.hrn.quiTarget } } else s)
    else if s.hrn.asked.contains p then { s with hrn := { s.hrn with order := t } }
    else if atOnce p then askNext t (askPanel s p)
    else askPanel { s with hrn := { s.hrn with order := t } } p

/-! ### Release (R46, R62, R132, R149, R200, R287, R379) -/

/-- Every enabled pending source acts under the matrix (R379), and a message that is due on a vector out of holdoff goes out (R380). -/
def askPending (s : State) : State :=
  let s := forEach (List.range 288) s fun s n => if s.isPend n then askVector s n else s
  forEach (List.range 64) s fun s v =>
    if s.flag EVT_VSTAT_DUE v && !s.flag EVT_VSTAT_HOLDOFF v then { s.wr EVT_VSTAT_DUE 0 v with vecReq := v :: s.vecReq } else s

/-- Panel `p` resumes at its resumption point. -/
def resumePanel (s : State) (p : Nat) : State :=
  match p with
  | 0 => logRelease s
  | 2 => forEach (List.range 12) s warmRestartCh
  | 4 => axesRelease s
  | 6 => sweepSync (calRestart s)
  | 7 => iluRelease (if s.hrn.shortDue then shortStart s else s)
  | 8 | 9 => forEach [0, 1] s cvGo
  | 10 => qReleaseHeld s
  | 11 => askPending s
  | 12 => ringRelease s
  | 13 => sweepSync (if s.frameNow.isNone then takeTables s else s)
  | _ => s

/-- Panel `p` no longer asked or quiesced. -/
def clearQuiesce (s : State) (p : Nat) : State :=
  let s := s.clrBit GLB_PANEL_STAT_QUIESCED p
  { s with hrn := { s.hrn with asked := s.hrn.asked.filter (· != p), quiTarget := s.hrn.quiTarget.filter (· != p) } }

/-- Panel `p` released, whether or not it has reached its quiesce point; a `P0` that has not reached it has no advance to count
(R62). -/
def releasePanel (s : State) (p : Nat) : State :=
  if p == 0 && !s.quiesced 0 then clearQuiesce s 0 else resumePanel (clearQuiesce s p) p

/-- Every panel asked to quiesce released unchanged, in dependency order (R46). -/
def releaseAsked (s : State) : State :=
  let l := orderUp (leads s.dependsOn) 16 (panelsWith fun p => s.hrn.asked.contains p)
  forEach l { s with hrn := { s.hrn with order := [] } } releasePanel

/-- The panels that still have to reach their points. -/
def notReached (s : State) : List Nat := (panelsWith fun p => (s.hrn.asked.contains p && !s.quiesced p) || s.hrn.order.contains p)

/-! ### Power domains (R431, R432, R461) -/

/-- CFG_ERR of every queue brought up to date (R330), and the producers with it. -/
def qCfgSync (s : State) : State :=
  refreshAllProds (forEach (List.range 64) s fun s q => s.wr QUE_STAT_CFG_ERR (if qCfgErr s q then 1 else 0) q)

/-- Each lane off where EN or its domain is missing, and training where both came (R102, R430, R461). -/
def lanesSync (s : State) : State :=
  forEach (List.range 8) s fun s l =>
    let on := s.flag SNS_LANE_CTRL_EN l && s.powered (5 + l)
    let st := s.rd SNS_LANE_STAT_STATE l
    let relock := (s.laneSt l).relock
    if !on && (st != 0 || relock) then laneOff s l else if on && st == 0 && !relock then laneTrain s l else s

/-- Both chains idle. -/
def chainsIdle (s : State) : State := forEach [0, 1] { s with chain := [] } fun s ch => s.wr ILU_SW_STAT_STATE 0 ch

/-- The words of BAR0 offsets in `[lo, hi)` returned to their reset values. -/
def clearRange (s : State) (lo hi : Nat) : State :=
  { s with regs := s.regs.filter fun kv => !(decide (lo ≤ kv.1) && decide (kv.1 < hi)) }

/-- The contents of the histogram store lost with its domain (R430). -/
def histLost (s : State) : State :=
  let s := clearRange s 0x1800000 0x1A00000
  { s with rgh := { s.rgh with lost := List.range 8 } }

/-- The contents of the shading store lost with its domain (R430): each word holds a free value until it is written. -/
def shadeLose (s : State) : State :=
  { clearRange s 0x1400000 0x1800000 with shadeLost := some (s.fresh, []), fresh := s.fresh + 0x100000, badPar := [] }

/-- The contents of the queue store lost with its domain (R430): every queue is empty. -/
def queuesLose (s : State) : State :=
  forEach (List.range 64) s fun s q =>
    let st := s.q q
    qPut s q { (({} : QSt)) with rel := st.wr, rd := st.wr, cmt := st.wr, wr := st.wr, prods := st.prods, pop := st.pop }

/-- What the stores of a domain that powers down lose (R430): DRAM, shading, queue and histogram store. -/
def domainLose (s : State) (d : Nat) : State :=
  match d with
  | 4 => { s with dram := [] }
  | 16 => shadeLose s
  | 17 => queuesLose s
  | 22 => histLost s
  | _ => s

/-- The domains that are on shown: those that the plan uses, and in standby those of them that it leaves on (R430, R431). -/
def showDomains (s : State) : State :=
  s.wr PCR_PD_STAT_ON (((List.range 32).filter s.powered).foldl (fun m d => m + 2 ^ d) 0)

/-- The use mask of the plan in force (R431, R432): domains that it drops power down. -/
def setDomains (s : State) (mask : Nat) : State :=
  let s := forEach ((List.range 32).filter fun d => s.domain d && !bit mask d) s domainLose
  let s := showDomains { s with hrn := { s.hrn with domains := mask } }
  let s := if bit mask 27 then s else chainsIdle s
  lanesSync (qCfgSync s)

/-! ### Unloading (R51, R213, R244, R323, R466) -/

/-- Fields kept across a clearing `g`. -/
def keepFields (fs : List (Fld × Nat)) (g : State → State) (s : State) : State :=
  forEach fs (g s) fun t f => t.wr f.1 (s.rd f.1 f.2) f.2

/-- Registers returned to their reset values. -/
def resetRegs (s : State) (l : List Nat) : State := forEach l s fun s off => s.set off (regReset off)

/-- The exposures of channel `c` that are pending discarded (R51, R88, R367; notes/assumptions/33.md). -/
def discardExposures (s : State) (c : Nat) : State :=
  let x := s.chan c
  let one (s : State) (f : Fld) (held : Option Nat) (force : Nat) : State :=
    if held.isSome || (x.on && s.rd f c != force) then (s.sat HRN_REJ_SWAP_DISCARD).wr f force c else s
  (one (one s SNS_EXP_LONG_EXP x.holdL x.forceL) SNS_EXP_SHORT_EXP x.holdS x.forceS).updChan c fun x => { x with holdL := none, holdS := none }

/-- The ranging store, FREEZE, the previous results, the frame number, rates and zones cleared (R244, R259). -/
def rangingClear (s : State) : State :=
  let s := { s with regs := s.regs.filter fun kv => !(decide (0x1800000 ≤ kv.1) && decide (kv.1 < 0x1A00000)) }
  let s := takeTables s
  let s := { s with rgh := { (({} : RghSt)) with filled := s.rgh.filled }, fix := { s.fix with hits := [], total := 0, waiting := [], edges := [] } }
  let s := ((s.wr RGH_CTRL_FREEZE 0).wr RGH_STAT_FROZEN 0).wr RGH_STAT_BUSY 0
  let s := resetRegs (s.wr RGH_STAT_PASS 0) ((List.range 3).map (RGH_LOAD_STAT.off · 0) ++ (List.range 65).map (RGH_RATE.off · 0))
  zonesEmpty (s.wr RGH_FIX_STAT_LOAD_ANY 0)

/-- The converters' results, pass numbers, comparators and counters returned to reset (R323). -/
def convertersClear (s : State) : State :=
  let per := [0, 1].flatMap fun cv => [CNV_STAT.off cv 0, CNV_PASS.off cv 0, CNV_CNT.off cv 0]
    ++ (List.range 36).flatMap fun e => [CNV_RES_CODE.off cv e, CNV_RES_FLAG.off cv e]
  let keep := [(CNV_STAT_ENTRY, 0), (CNV_STAT_ENTRY, 1), (CNV_WIN_EVT_LEFT, 0)]
  let s := keepFields keep (fun s => resetRegs s (per ++ [CNV_PLAUS_CNT.off 0 0, CNV_WIN_STAT.off 0 0, CNV_WIN_EVT.off 0 0])) s
  forEach [0, 1] s fun s cv => s.setCvSt cv { entry := (s.cvSt cv).entry }

/-- Panel `p` unloaded: what that changes in its blocks. -/
def unloadPanel (s : State) (p : Nat) : State :=
  let swap := s.swapping p
  let s := clearQuiesce (s.clrBit GLB_PANEL_STAT_LOADED p) p
  let s := { s.wr HRN_PANEL_VER_VERSION 0 p with hrn := { s.hrn with deps := kvDel s.hrn.deps p } }
  match p with
  | 1 => forEach (List.range 12) s discardExposures
  | 2 => inlineSync (discardPend s 0x400000 0x500000)
  | 3 => { viewsAbort (inlineSync (discardPend s 0x500000 0x600000)) with hist := [] }
  | 5 => disarmEmitter s
  | 6 => rangingClear s
  | 9 => convertersClear s
  | 12 => if swap then s else ringDown s
  | 15 => { s with reflex := { s.reflex with slots := [], snap := if swap then s.reflex.snap else [] } }
  | _ => s

/-! ### Loading -/

/-- Panel `p` loaded, with its version and dependencies; `fresh` where it was not loaded before the commit. -/
def loadPanel (s : State) (p ver : Nat) (deps : List (Nat × Nat)) (fresh : Bool) : State :=
  let s := (s.setBit GLB_PANEL_STAT_LOADED p).wr HRN_PANEL_VER_VERSION ver p
  { s with hrn := { s.hrn with deps := kvPut s.hrn.deps p deps } } |> fun s =>
  match p with
  | 0 =>
    let s := forEach (List.range 4) s fun s n => if s.rd LOG_CFG_SRC n == 7 then leadLost s n else s
    if fresh then forEach (List.range 4) s fun s n => if srcCounts (s.rd LOG_CFG_SRC n) then logEnable s n else s else s
  | 1 => viewCheck (chRefresh (lanesSync s))
  | 3 => viewCheck (forEach (List.range 12) s mapCheck)
  | 4 => axRefresh s
  | 5 => updFamily s
  | 6 => staleSync { s with fix := { s.fix with part := true } }
  | 7 => { s with hrn := { s.hrn with shortDue := true } }
  | 8 => { s.wr AFE_TS_STAT_SAFE_ACT 0xFFFF with afe := { s.afe with heldLines := 0, heldPins := 0 } }
  | 10 => qCfgSync (if fresh then forEach (List.range 64) s fun s q => s.wr QUE_SEQ_NEXT 0 q else s)
  | _ => s

/-! ### PANEL_RESET (R118, R215, R259, R349, R379, R464) -/

/-- The block of panel `p` returned to its reset values. -/
def resetBlock (s : State) (p : Nat) : State :=
  let base := 0x100000 * (p + 2)
  let clear (s : State) : State := clearRange s base (base + 0x100000)
  match p with
  | 0 => { clear s with logs := [], wpLo := [] }
  | 1 =>
    let s := forEach (List.range 12) s fun s c => if (s.chan c).on then channelOff s c else s
    let s := forEach (List.range 8) s laneOff
    forEach (List.range 12) { clear s with lane := [] } fun s c =>
      (newRun s c).updChan c fun x => { x with exps := [], forceL := 0, forceS := 0, holdL := none, holdS := none, lastDel := none }
  | 2 =>
    { storeInit (clear s) with
      cap := {}, warm := [], hrn := { s.hrn with storeBusy := true }
      pend := s.pend.filter fun kp => !(decide (0x400000 ≤ kp.1 / 32) && decide (kp.1 / 32 < 0x500000)) }
  | 3 =>
    let pend := s.pend.filter fun kp => !(decide (0x500000 ≤ kp.1 / 32) && decide (kp.1 / 32 < 0x600000))
    forEach (List.range 12) { clear s with view := [], hist := [], pend := pend } fun s c =>
      s.updChan c fun x => { x with landed := [], inl := [], dropped := 0, high := false }
  | 4 =>
    forEach (List.range 4) { clear s with coil := [], pace := [] } fun s a =>
      s.updAx a fun x => { (({} : AxSt)) with swA := x.swA, swB := x.swB, encIn := x.encIn }
  | 5 =>
    let keep := [(RGE_STAT_BLACKOUT, 0), (RGE_STAT_SAFE_OK, 0), (RGE_STAT_FAULT_IN, 0), (RGE_STAT_INHIBIT_IN, 0)]
      ++ (List.range 32).map fun g => (RGE_SAFE_ACC_SUM, g)
    { keepFields keep clear (disarmEmitter s) with
      rge := { (({} : RgeSt)) with steer := s.rge.steer, par := s.rge.par, inhib := s.rge.inhib } }
  | 6 =>
    let s := rangingClear s
    let keep := [(RGH_FIX_STAT_CAL_VALID, 0)] ++ (List.range 65).map fun i => (RGH_RATE_CAL_RATE, i)
    staleSync (sweepSync (zonesEmpty (keepFields keep clear s)))
  | 7 => { clear s with sink := [], conv := {}, pe := [], chain := [], diss := [], hrn := { s.hrn with shortDue := false } }
  | 8 =>
    let lines := tsLines s
    let pins := tsPins s
    { clear s with su := [], afe := { s.afe with poly := [], periods := [], good := 0, tsCnt := [], tsHeld := [], heldLines := lines, heldPins := pins } }
  | 9 => { clear s with cv := [] }
  | 10 =>
    let s := forEach (List.range 8) s fun s ch =>
      if dmaState s ch == 1 then forEach (s.dmaCh ch).descs s fun s d => dmaComplete s ch d 4 0
      else s.updDmaCh ch fun c => { c with descs := c.descs.map fun d => { d with got := 0, npk := 0 } }
    qCfgSync (forEach (List.range 64) (clear s) qClear)
  | 11 => keepFields [(EVT_HAL_INH_LINES, 0)] clear s
  | 12 => { clear (ringDown s) with ring := { (({} : RingSt)) with strapLead := s.ring.strapLead, family := s.ring.family } }
  | 13 => clearRange s 0xF00000 0xF80000
  | 14 => setDomains s 0xFFFFFFFF
  | _ => { s with reflex := {} }

/-- The end of a PANEL_RESET whose panels have all reached their points (R464): the panel unloaded, its blocks at their reset
values, its dependents held. -/
def panelResetEnd (s : State) (p : Nat) : State :=
  let s := resetBlock (if s.loaded p then unloadPanel s p else s) p
  refreshAllProds { s with hrn := { s.hrn with
    resetting := none, asked := if s.rd PCR_PWR_STAT_STATE == 1 then s.hrn.asked.filter (· != p) else [] } }

end Sys2Proof.Machine
end

