-- ==== Sys2Proof/Machine/Load.lean ====
section
/-! DEFINITION. Loading a harness up to the swap (R39 to R49, R463 to R465): the commands of `HRN_CMD`, fetch, verification, the
quiesce of a commit and of a PANEL_RESET, and the boot load (R44). -/

namespace Sys2Proof.Machine

/-! ### The load state -/

/-- The load state. -/
def loadState (s : State) : Nat := s.rd HRN_STAT_STATE

/-- Whether a load is in progress (R39). -/
def loadRuns (s : State) : Bool := decide (1 ≤ loadState s) && decide (loadState s ≤ 6)

/-- An error code with the panel concerned, if any (R463). -/
def hrnErr (s : State) (code : Nat) (p : Option Nat) : State :=
  ((s.wr HRN_STAT_ERR_CODE code).wr HRN_STAT_ERR_PANEL (p.getD 0)).wr HRN_STAT_ERR_PANEL_V (if p.isSome then 1 else 0)

/-- A load taken from source `src` with staging range `[lo, lo + len)` (R39, R465). -/
def startLoad (s : State) (src lo len : Nat) : State :=
  { (hrnErr s 0 none).wr HRN_STAT_STATE 1 with hrn := { s.hrn with image := [], src := src, stageLo := lo, stageHi := lo + len, targets := [], drops := [] } }

/-- The boot load tries its next slot, or ends with none valid (R44). -/
def bootNext (s : State) : State :=
  match s.hrn.bootSlots with
  | [] => { s.wr HRN_STAT_BOOT 3 with hrn := { s.hrn with boot := false } }
  | k :: t => startLoad { s with hrn := { s.hrn with bootSlots := t } } k 0 0x400000

/-- The load enters FAILED (R43); a boot load goes on to the other slot (R44). -/
def failLoad (s : State) (e : Nat × Option Nat) : State :=
  let s := { (hrnErr s e.1 e.2).wr HRN_STAT_STATE 7 with hrn := { s.hrn with image := [], targets := [] } }
  let s := raise s 1
  if s.hrn.boot then bootNext s else s

/-- The boot ended by ABORT (R44). -/
def bootAborted (s : State) : State :=
  if s.hrn.boot then { s.wr HRN_STAT_BOOT 5 with hrn := { s.hrn with boot := false, bootSlots := [] } } else s

/-- A command refused with BUSY (R40). -/
def hrnBusy (s : State) : State := hrnErr s 0x20 none

/-! ### Fetch and verification (R39, R465, R36) -/

/-- The start of a flash slot (1 A, 2 B). -/
def slotBase (k : Nat) : Nat := 0x400000 * k

/-- The image fetched; verification follows. -/
def fetched (s : State) (l : List Byte) : State := { (dramUse s).wr HRN_STAT_STATE 2 with hrn := { s.hrn with image := l } }

/-- The fetch ends (R465); `flashOk` says that flash was read without error. -/
def fetchDone (s : State) (flashOk : Bool) : State :=
  let lo := s.hrn.stageLo
  let beyond := decide (s.board.dramSize < s.hrn.stageHi)
  if loadState s != 1 then s
  else if s.hrn.src = 0 then
    if beyond then failLoad s (0x13, none) else fetched s (s.bytes lo (s.hrn.stageHi - lo))
  else if s.hrn.src = 3 || !flashOk then failLoad s (0x13, none)
  else
    let hdr := (flashBytes s (slotBase s.hrn.src) 128).toArray
    let len := leAt hdr 8 4
    if badMagic hdr then failLoad s (1, none)
    else if decide (0x400000 < len) then failLoad s (2, none)
    else if beyond then failLoad s (0x13, none)
    else
      let l := flashBytes s (slotBase s.hrn.src) len
      fetched (s.setBytes lo l) l

/-! ### Commit and PANEL_RESET up to the swap (R45 to R47, R464) -/

/-- The panels that a standby entry quiesces (R436). -/
def standbyPanels : List Nat := [0, 1, 2, 3, 4, 5, 6, 7, 8, 9, 10, 13]

/-- Whether a standby entry runs, which quiesces panels of its own. -/
def inEntry (s : State) : Bool := s.rd PCR_PWR_STAT_STATE == 1

/-- The panels whose points a PANEL_RESET in progress, or a commit, waits for. -/
def waitsFor (s : State) : List Nat :=
  match s.hrn.resetting with
  | some p => p :: dependentsOf s [p]
  | none => panelsWith fun _ => true

/-- The swap begins: the target panels are unloaded (R45). -/
def swapBegin (s : State) : State := forEach s.hrn.targets (s.wr HRN_STAT_STATE 5) unloadPanel

/-- What follows once every panel asked has reached its point: the end of a PANEL_RESET, or the swap. -/
def proceed (s : State) : State :=
  if s.hrn.order != [] || s.hrn.asked.any (fun p => (waitsFor s).contains p && !s.quiesced p) then s
  else match s.hrn.resetting with
    | some p => panelResetEnd s p
    | none => if loadState s == 4 then swapBegin s else s

/-- A commit begins (R45 to R47): refused while a factory run is in progress and `P13` is involved. The quiesce orders the targets
by the records of the panels as they are loaded, not by those of the image (notes/assumptions/89.md). -/
def commitStart (s : State) : State :=
  let m := imageOf s.hrn.image
  let named := m.secs.map (·.panel)
  let tgt := panelsWith fun p => s.loaded p && (m.full || named.contains p)
  let deps := dependentsOf s tgt
  if calRunning s && (named.contains 13 || tgt.contains 13 || deps.contains 13) then hrnErr s 0x21 (some 13)
  else
    let s := { s.wr HRN_STAT_STATE 4 with hrn := { s.hrn with targets := tgt, drops := tgt.filter (!named.contains ·), resetting := none } }
    proceed (askNext (deps ++ orderDown (leads s.dependsOn) 16 tgt.reverse) s)

/-- The verification checks end (R36, R46). -/
def verifyDone (s : State) : State :=
  if loadState s != 2 then s
  else match verifyImage s s.hrn.image s.hrn.image.length with
    | some e => failLoad s e
    | none =>
      let s := s.wr HRN_STAT_STATE 3
      if s.hrn.boot || s.flag HRN_CTRL_AUTO_COMMIT then commitStart s else s

/-- LOAD (R40). -/
def loadCmd (s : State) : State :=
  if !(loadState s == 0 || loadState s == 7) || s.hrn.resetting.isSome then hrnBusy s
  else
    let src := s.rd HRN_CTRL_SRC
    startLoad s src (s.rd HRN_SRC_ADDR_LO_ADDR * 64 + 2 ^ 32 * s.rd HRN_SRC_ADDR_HI_ADDR) (if src = 0 then s.rd HRN_SRC_LEN_LEN else 0x400000)

/-- COMMIT: in READY only. -/
def commitCmd (s : State) : State := if loadState s == 3 then commitStart s else s

/-- ABORT (R41, R44). -/
def abortCmd (s : State) : State :=
  let st := loadState s
  if decide (1 ≤ st) && decide (st ≤ 3) then
    bootAborted { s.wr HRN_STAT_STATE 0 with hrn := { s.hrn with image := [] } }
  else if st == 4 then failLoad (bootAborted (releaseAsked s)) (0x23, none)
  else s

/-- PANEL_RESET of panel `p` (R464). -/
def panelResetCmd (s : State) (p : Nat) : State :=
  if loadState s != 0 || s.hrn.resetting.isSome then hrnBusy s
  else
    let s := if p == 13 && calRunning s then calEnd s 5 else s
    let s := { s with hrn := { s.hrn with resetting := some p, targets := [] } }
    proceed (askNext (dependentsOf s [p] ++ if s.loaded p then [p] else []) s)

/-- CLEAR_ERROR (R40). -/
def clearErrorCmd (s : State) : State :=
  let s := hrnErr s 0 none
  if loadState s == 7 then s.wr HRN_STAT_STATE 0 else s

/-- A write of `HRN_CMD`. -/
def hrnCmd (s : State) (v : Nat) : State :=
  match v % 256 with
  | 1 => loadCmd s
  | 2 => commitCmd s
  | 3 => abortCmd s
  | 4 => panelResetCmd s (bitsOf v 8 4)
  | 5 => clearErrorCmd s
  | _ => s

/-- Panel `p` reaches its quiesce point: the next panel of the order begins, or what follows the last one (R45). The panels of a standby
entry are not in an order (R436). -/
def panelQuiesced (s : State) (p : Nat) : State :=
  if s.hrn.asked.contains p && !s.quiesced p && atPoint s p then
    let s := reachPoint s p
    if inEntry s && s.hrn.resetting.isNone then s else proceed (askNext s.hrn.order s)
  else s

/-- `HRN_QTIMEOUT` passes (R46, R464): the panels asked are released, and the load fails. Those that a standby entry asks too stay asked. -/
def quiesceTimeout (s : State) : State :=
  if s.hrn.resetting.isNone && loadState s != 4 then s
  else
    let late := (notReached s).filter (waitsFor s).contains
    let kept := if inEntry s then s.hrn.asked.filter standbyPanels.contains else []
    let s := { s with hrn := { s.hrn with asked := s.hrn.asked.filter fun p => !kept.contains p } }
    let s := releaseAsked s
    let s := { s with hrn := { s.hrn with asked := s.hrn.asked ++ kept } }
    failLoad { s with hrn := { s.hrn with resetting := none } } (concern 0x22 late)

/-- The boot load begins (R44): both headers read, the slot with the higher version first. -/
def bootHarness (s : State) : State :=
  let ver (k : Nat) : Nat :=
    let h := (flashBytes s (slotBase k) 128).toArray
    if badMagic h then 0 else leAt h 0x10 4 + 1
  bootNext { s.wr HRN_STAT_BOOT 4 with hrn := { s.hrn with boot := true, bootSlots := if ver 1 < ver 2 then [2, 1] else [1, 2] } }

/-! ### The rows of the table that are no writes -/

/-- `FETCH_DONE` (R39). -/
def execFetchDone (flashOk : Bool) (s : State) : Host.Outcome State Fault Refusal := done (fetchDone s flashOk)

/-- `VERIFY_DONE` (R36). -/
def execVerifyDone (s : State) : Host.Outcome State Fault Refusal := done (verifyDone s)

/-- `PANEL_QUIESCED` (R46). -/
def execPanelQuiesced (p : Fin 16) (s : State) : Host.Outcome State Fault Refusal := done (panelQuiesced s p)

/-- `QUIESCE_TIMEOUT` (R46). -/
def execQuiesceTimeout (s : State) : Host.Outcome State Fault Refusal := done (quiesceTimeout s)

end Sys2Proof.Machine
end

