-- ==== Sys2Proof/Machine/Link.lean ====
section
/-! DEFINITION. The host link (spec/17_host.md): DMA channels (R354 to R357), the MSI-X table (R358), the state of the link (R470),
`PERST#` and link down (R440). -/

namespace Sys2Proof.Machine

/-! ### DMA channels -/

/-- FETCHED of a channel follows. -/
def dmaSync (s : State) (ch : Nat) : State := s.wr PCR_DMA_STAT_FETCHED (s.dmaCh ch).descs.length ch

/-- The read position of queue `q` brought back over the words that uncompleted descriptors of channel `ch` hold (R356). -/
def dmaRewind (s : State) (ch q : Nat) : State :=
  let n := (((s.dmaCh ch).descs.filter fun d => d.q == q).map fun d => d.got / 8).sum
  let st := s.q q
  if n = 0 then s else qPut s q { st with rd := if n ≤ dist st.rel st.rd then (st.rd + 2 ^ 32 - n) % 2 ^ 32 else st.rel }

/-- The entries whose fetch has not been answered given up: HEAD stands at the first of them again (R354; notes/assumptions/108.md). -/
def dmaUnask (s : State) (ch : Nat) : State :=
  match (s.dmaCh ch).asked with
  | [] => s
  | i :: _ => (s.wr PCR_DMA_HEAD_HEAD i ch).updDmaCh ch fun c => { c with asked := [] }

/-- The fetched descriptors of a channel dropped without completion (R356, R440). -/
def dmaDrop (s : State) (ch : Nat) : State :=
  let s := forEach (((s.dmaCh ch).descs.map (·.q)).eraseDups) (dmaUnask s ch) fun s q => dmaRewind s ch q
  dmaSync (s.setDmaCh ch {}) ch

/-- Every fetched descriptor of a channel completed with the data that it holds and FLUSHED (R357). -/
def dmaFlushAll (s : State) (ch : Nat) : State :=
  let s := forEach (s.dmaCh ch).descs (dmaUnask s ch) fun s d => dmaComplete (dmaRelease s d) ch d 4 0
  dmaSync s ch

/-- A channel comes to IDLE: its descriptors complete under R357, or are dropped where it is halted (R356). -/
def dmaStop (s : State) (ch : Nat) : State :=
  (if dmaState s ch == 1 then dmaFlushAll s ch else dmaDrop s ch).wr PCR_DMA_STAT_STATE 0 ch

/-- A channel halted (R356). -/
def dmaHalt (s : State) (ch err : Nat) : State :=
  raise (dmaUnask ((s.wr PCR_DMA_STAT_STATE 2 ch).wr PCR_DMA_STAT_ERR err ch) ch) 3

/-- A write of `PCR_DMA_CTRL[ch]` (R354 to R357). -/
def dmaCtrl (s : State) (ch v : Nat) : State :=
  let was := s.flag PCR_DMA_CTRL_EN ch
  let s := ((s.wr PCR_DMA_CTRL_VEC (bitsOf v 16 6) ch).wr PCR_DMA_CTRL_SIZE (v % 16) ch).wr PCR_DMA_CTRL_EN (bitsOf v 31 1) ch
  if bit v 31 && !was then
    let s := s.wr PCR_DMA_STAT_ERR 0 ch
    if decide (s.rd PCR_DMA_CTRL_SIZE ch < 3) then dmaHalt s ch 5 else s.wr PCR_DMA_STAT_STATE 1 ch
  else if !bit v 31 && was then
    dmaStop s ch
  else s

/-- A descriptor fetched ahead (R355): the entry at HEAD. The pool of descriptors keeps its high-water count (R26). -/
def dmaFetch (s : State) (ch : Nat) : State :=
  let n := 2 ^ s.rd PCR_DMA_CTRL_SIZE ch
  let head := s.rd PCR_DMA_HEAD_HEAD ch % n
  let c := s.dmaCh ch
  if dmaState s ch != 1 || head == s.rd PCR_DMA_TAIL_TAIL ch % n || decide (512 ≤ c.descs.length + c.asked.length) then s
  else
    let ring := s.rd PCR_DMA_BASE_LO_BASE ch * 64 + 2 ^ 32 * s.rd PCR_DMA_BASE_HI ch
    let s := (s.out (.dmaFetch (ring + 32 * head))).wr PCR_DMA_HEAD_HEAD ((head + 1) % n) ch
    let s := s.updDmaCh ch fun c => { c with asked := c.asked ++ [head] }
    let n := ((List.range 8).map fun ch => (s.dmaCh ch).descs.length + (s.dmaCh ch).asked.length).sum
    { s with pool := { s.pool with descs := max s.pool.descs n } }

/-- Whether queue `q` is bound to channel `ch` (R344). -/
def dmaBound (s : State) (ch q : Nat) : Bool := s.flag QUE_CFG_DMA_EN q && s.rd QUE_CFG_DCH q == ch

/-- A fetched descriptor arrives (R345): one that names a queue of another channel or an invalid length completes with ERR. -/
def dmaFetched (s : State) (ch : Nat) (w0 w1 : Nat) : State :=
  match (s.dmaCh ch).asked with
  | [] => s
  | i :: t =>
    let len := bitsOf w1 0 25
    let q := bitsOf w1 32 6
    let err := !dmaBound s ch q || len % 64 != 0 || decide (len < 64) || decide (16777216 < len)
    let d : Desc := { idx := i, addr := w0, len := len, q := q, irq := bit w1 39, err := err }
    let s := dmaSync (s.updDmaCh ch fun c => { c with asked := t, descs := c.descs ++ [d] }) ch
    if err then dmaComplete s ch d 0 0 else s

/-- The descriptors of channel `ch` for queue `q` completed with ERR, as the queue leaves the channel (R373); a halted channel completes
none (R356). -/
def dmaUnbind (s : State) (ch q : Nat) : State :=
  let s := dmaRewind s ch q
  if dmaState s ch == 2 then dmaSync (s.updDmaCh ch fun c => { c with descs := c.descs.filter fun d => d.q != q }) ch
  else forEach ((s.dmaCh ch).descs.filter fun d => d.q == q) s fun s d => dmaComplete s ch { d with err := true, got := 0, seq := 0, npk := 0 } 0 0

/-- A descriptor of queue `q` completes with `flags` and padding, its packets released (R346, R347). -/
def dmaEnd (s : State) (ch : Nat) (d : Desc) (flags pad : Nat) : State :=
  dmaComplete (dmaRelease s d) ch d flags pad

/-- The full descriptor of queue `q` completes (R346). -/
def dmaFull (s : State) (ch q : Nat) : State :=
  match (s.dmaCh ch).descs.find? fun d => d.q == q && d.got == d.len with
  | some d => if dmaState s ch == 1 then dmaEnd s ch d 0 0 else s
  | none => s

/-- DEADLINE passes for the descriptor of queue `q` being filled (R347). -/
def dmaDeadline (s : State) (ch q : Nat) : State :=
  match (s.dmaCh ch).descs.find? fun d => d.q == q && decide (0 < d.got) && decide (d.got < d.len) with
  | some d =>
    if dmaState s ch != 1 || s.rd QUE_CFG_DEADLINE q == 0 then s
    else
      let pad := (64 - d.got % 64) % 64
      let idle := s.rd2 QUE_IDLE_LO QUE_IDLE_HI q
      let s := if pad = 0 then s else s.out (.dmaWrite (d.addr + d.got) (List.replicate (pad / 8) idle) (s.flag QUE_CFG_RELAXED q))
      dmaEnd s ch d 2 pad
  | none => s

/-- A write of `QUE_CFG[q]` that the queue takes (R344, R373). -/
def queCfg (s : State) (q : Nat) (v : Word) : State :=
  let ch := s.rd QUE_CFG_DCH q
  let was := s.flag QUE_CFG_DMA_EN q
  let keep := was && bit v.toNat QUE_CFG_DMA_EN.lo && bitsOf v.toNat QUE_CFG_DCH.lo QUE_CFG_DCH.w == ch
  let s := if was && !keep then dmaUnbind s ch q else s
  s.set (QUE_CFG.off q 0) v

/-! ### MSI-X (R358) -/

/-- The message that a vector owes goes out once neither mask bit is 1. -/
def vectorUnmask (s : State) (v : Nat) : State :=
  let owes := bit (s.get (0x1109000 + 4 * (v / 32))).toNat (v % 32)
  if owes && !s.masked v then emitMsix (setPba s v false) v else s

/-- A word of the MSI-X table written; bits [31:1] of a vector control word read 0. -/
def msixWrite (s : State) (off : Nat) (v : Word) : State :=
  if off % 16 == 12 then vectorUnmask (s.set off (v &&& 1#32)) ((off - 0x1108000) / 16) else s.set off v

/-- The Function Mask bit written. -/
def functionMask (s : State) (b : Bool) : State := forEach (List.range 64) { s with funcMask := b } vectorUnmask

/-! ### The link (R470), `PERST#` and link down (R440) -/

/-- The state of the link; a change of UP, WIDTH or SPEED is an event. -/
def linkSet (s : State) (up l1 : Bool) (width speed : Nat) : State :=
  let changed := s.flag PCR_LINK_UP != up || s.rd PCR_LINK_WIDTH != width || s.rd PCR_LINK_SPEED != speed
  let s := (s.wr PCR_LINK_UP (if up then 1 else 0)).wr PCR_LINK_L1 (if l1 then 1 else 0)
  raiseIf ((s.wr PCR_LINK_WIDTH width).wr PCR_LINK_SPEED speed) changed 5

/-- `PERST#`, hot reset or link down (R440): PCR, the MSI-X table and the DMA channels, whose descriptors are dropped. What shows the
state of a part that the reset does not reach is kept (notes/assumptions/36.md). -/
def perst (s : State) : State :=
  let s := forEach (List.range 8) (s.wr GLB_RST_CAUSE_PERST 1) dmaDrop
  let s := linkSet s false false 0 0
  let keep := [(PCR_PWR_STAT_STATE, 0), (PCR_PWR_STAT_WAKE_SRC, 0), (PCR_PD_STAT_ON, 0), (PCR_THERM_HOT, 0), (PCR_THERM_TJ_FIELD, 0), (PCR_THERM_TJ_CORE, 0)]
  { keepFields keep (fun s => clearRange s 0x1100000 0x1200000) s with funcMask := false, pcie := {} }

/-- A change of the link (R470): a fall of UP is a link down. In standby the link trains at 2.5 GT/s ×1 (R430, R443). -/
def linkChange (s : State) (up l1 : Bool) (width speed : Nat) : State :=
  if up then if s.rd PCR_PWR_STAT_STATE = 2 then linkSet s up l1 1 1 else linkSet s up l1 width speed
  else if s.flag PCR_LINK_UP then perst s else s

/-! ### The rows of the table -/

/-- `DMA_DESC_FETCH` (R355). -/
def execDmaDescFetch (ch : Fin 8) (s : State) : Host.Outcome State Fault Refusal := done (dmaFetch s ch)

/-- `DMA_DESC_FETCHED` (R345). -/
def execDmaDescFetched (ch : Fin 8) (w0 w1 : BitVec 64) (s : State) : Host.Outcome State Fault Refusal := done (dmaFetched s ch w0.toNat w1.toNat)

/-- The code of a fetch error. -/
def fetchErrCode : FetchErr → Nat
  | .ur => 1
  | .ca => 2
  | .timeout => 3
  | .poison => 4

/-- `DMA_FETCH_ERROR` (R356): of a fetch that the channel has made. -/
def execDmaFetchError (ch : Fin 8) (e : FetchErr) (s : State) : Host.Outcome State Fault Refusal :=
  done (if dmaState s ch == 1 && (s.dmaCh ch).asked != [] then dmaHalt s ch (fetchErrCode e) else s)

/-- `DMA_DATA_WRITE` (R346). -/
def execDmaDataWrite (ch : Fin 8) (q : Fin 64) (s : State) : Host.Outcome State Fault Refusal :=
  done (if dmaState s ch == 1 then dmaWord s ch q else s)

/-- `DMA_DESC_COMPLETE` (R345). -/
def execDmaDescComplete (ch : Fin 8) (q : Fin 64) (s : State) : Host.Outcome State Fault Refusal := done (dmaFull s ch q)

/-- `DMA_DEADLINE` (R347). -/
def execDmaDeadline (ch : Fin 8) (q : Fin 64) (s : State) : Host.Outcome State Fault Refusal := done (dmaDeadline s ch q)

/-- The code of a width: its lanes. -/
def widthCode : LinkWidth → Nat
  | .x1 => 1
  | .x2 => 2
  | .x4 => 4

/-- The code of a rate. -/
def speedCode : LinkSpeed → Nat
  | .gt2 => 1
  | .gt5 => 2
  | .gt8 => 3
  | .gt16 => 4

/-- `PCIE_LINK_CHANGE` (R351, R470). -/
def execPcieLinkChange (up l1 : Bool) (width : LinkWidth) (speed : LinkSpeed) (s : State) : Host.Outcome State Fault Refusal :=
  done (linkChange s up l1 (widthCode width) (speedCode speed))

/-- `PERST` (R440). -/
def execPerst (s : State) : Host.Outcome State Fault Refusal := done (perst s)

end Sys2Proof.Machine
end

