-- ==== Sys2Proof/Machine/Power.lean ====
section
/-! DEFINITION. Power and reset (spec/22_power_clock_reset.md, R16, R17, R459): the reset sources, the safe state of the field die,
temperatures, standby entry and wake. -/

namespace Sys2Proof.Machine

/-! ### The safe state of the field die (R16, R17, R436, R459) -/

/-- Every sink off, with its EN cleared. -/
def sinksOff (s : State) : State :=
  forEach (List.range 24) s fun s k => sinkDark (s.wr ILU_SINK_CTRL_EN 0 k) k

/-- The front end off: excitation off, converters stopped, threshold switches safe until AFE EN is set again. -/
def frontEndOff (s : State) : State :=
  let s := { s.wr AFE_CFG_EN 0 with afe := { s.afe with d2d := true } }
  cvStopAll s

/-- Every axis stopped, its bridge low and its reference lost. -/
def axesOff (s : State) : State := forEach (List.range 4) s fun s a => (axDisable s a).wr AXS_STAT_REF 0 a

/-- The safe state: each part resumes only when software sets its EN again (R17). -/
def fieldSafe (s : State) : State := axesOff (frontEndOff (sinksOff s))

/-- The headroom converter in FAULT with LOSS (R268, R287). -/
def convLoss (s : State) : State := if s.rd ILU_CONV_STAT_STATE == 3 then s.wr ILU_CONV_STAT_LOSS 1 else convToFault s .loss

/-- `D2D_FAULT` (R16, R287, R407). -/
def d2dFault (s : State) : State :=
  if s.pwr.d2dDown then s
  else
    let s := raise { s with pwr := { s.pwr with d2dDown := true } } 280
    let s := if calRunning s then calEnd s 4 else s
    let s := chainsIdle (forEach [0, 1] s fun s ch => s.wr ILU_SW_CTRL_EN 0 ch)
    convLoss (fieldSafe s)

/-! ### Temperatures (R459, R414) -/

/-- A reading as the register shows it. -/
def tjShown (t : Int) : Nat := if t < 0 then 0 else min t.toNat 255

/-- THERM_TRIP: the emitter stopped and the field die in its safe state. -/
def thermTrip (s : State) : State := fieldSafe (stopEmitter (s.wr PCR_THERM_THERM_TRIP 1) RGE_STAT_INHIBIT_TRIP 114)

/-- Both dies' temperatures are read (R459); a thermal cycle ends below 40 °C (R414). -/
def thermal (s : State) (core field : Int) : State :=
  let c := tjShown core
  let f := tjShown field
  let hot := max c f
  let trips := (decide (115 ≤ c) && decide (s.rd PCR_THERM_TJ_CORE < 115)) || (decide (115 ≤ f) && decide (s.rd PCR_THERM_TJ_FIELD < 115))
  let s := (s.wr PCR_THERM_TJ_CORE c).wr PCR_THERM_TJ_FIELD f
  let s := if s.flag PCR_THERM_HOT then (if hot < 95 then s.wr PCR_THERM_HOT 0 else s)
    else if 100 ≤ hot then raise (s.wr PCR_THERM_HOT 1) 287 else s
  let s := if trips then thermTrip s else s
  let low := decide (hot < 40)
  let s := if s.pwr.hot80 && low then logbook s 88 1 else s
  { s with pwr := { s.pwr with hot80 := decide (80 < hot) || (s.pwr.hot80 && !low) } }

/-! ### Resets (R440 to R442) -/

/-- `PORST#` released (R7, R440, R441): every register at its reset value; the calendar, MRAM, OTP and flash stay. DRAM reads as
after power-on (notes/assumptions/2.md). -/
def porst (s : State) (newlyUp gpio12 : Bool) : State :=
  let z := State.reset
  let z := { z with
    pending := s.pending, outs := s.outs, fresh := s.fresh, rtc := s.rtc
    cal := { z.cal with calA := s.cal.calA, calB := s.cal.calB, lgbA := s.cal.lgbA, lgbB := s.cal.lgbB,
                        rtcLost := s.cal.rtcLost, started := s.cal.started }
    sec := { z.sec with otpRoot := s.sec.otpRoot }
    ring := { z.ring with strapLead := gpio12 }
    board := { s.board with dramRate := 0 } }
  let z := forEach [SEC_STAT_ROOT_SET, SEC_STAT_KORYR_OFF, SEC_STAT_SVN, LGB_STAT_RTC_VALID, LGB_INC_HEAD_NEXT] z fun z f => z.wr f (s.rd f)
  let z := { z with regs := (s.regs.filter fun kv => decide (0xF88000 ≤ kv.1) && decide (kv.1 < 0xF90000)).foldl (fun l kv => kvSet regReset l kv.1 kv.2) z.regs }
  let z := secBoot (bootRecords (bootFirmware z))
  if newlyUp then logbook z 89 1 else z

/-- A reload that a reset of the cores cuts short (R50, R442): quiesced panels are released; those being swapped stay unloaded, and with
`P14` every domain counts as used (R432). -/
def loadCut (s : State) : State :=
  let st := loadState s
  let wasRing := s.swapping 12
  let wasPlan := st == 5 && s.hrn.targets.contains 14
  let s := if st == 4 || s.hrn.resetting.isSome then releaseAsked s else s
  let s := if s.rd HRN_STAT_BOOT == 4 then s.wr HRN_STAT_BOOT 0 else s
  let s := { (hrnErr s 0 none).wr HRN_STAT_STATE 0 with
    hrn := { s.hrn with image := [], targets := [], order := [], asked := [], resetting := none, boot := false, bootSlots := [] } }
  let s := if wasPlan then setDomains s 0xFFFFFFFF else s
  if wasRing then ringDown s else s

/-- A factory run and the record writes that a reset of the cores cuts short (R409, R412, R442). -/
def recordsCut (s : State) : State :=
  let s := if calRunning s then s.wr CAL_STAT_STATE 0 else s
  let s := { s with cal := { s.cal with left := [], trial := [], figs := [], writing := 0, retry := false, saveHeld := false, saveDue := false, pfw := 0 } }
  calResetEnd (sweepSync (saveSync s))

/-- Whether axis `a` has a motion or a stitch in progress (R442). -/
def axUnderWay (s : State) (a : Nat) : Bool :=
  let x := s.ax a
  x.v != 0 || x.steps != [] || x.home != 0 || (paceState s a != 0 && paceState s a != 6)

/-- The motion planner's restart: an axis with a motion or a stitch in progress stops at once, its bridge low, its reference lost (R442);
one at rest keeps its state. -/
def plannerCut (s : State) : State :=
  forEach ((List.range 4).filter (axUnderWay s)) s fun s a =>
    let s := axFreeze (paceLeave s a 0 true true) a
    let s := choppersIdle (s.wr AXS_CTRL_EN 0 a) a
    ((s.wr AXS_CTRL_MODE 0 a).wr AXS_STAT_PHASE 0 a).wr AXS_STAT_REF 0 a

/-- The control cores restart from the boot ROM (R423, R440, R442): a quote under way is lost (R425, R428). -/
def coreRestart (s : State) : State :=
  let s := { s with pwr := { s.pwr with restart := false } }
  let s := plannerCut (recordsCut (loadCut s))
  bootFirmware ({ s with sec := { s.sec with quote := none, committed := false } }.wr SEC_STAT_BUSY 0)

/-- `WRST#` or a watchdog expiry: during a standby entry or a wake, once that has ended (R442). -/
def coreReset (s : State) : State :=
  let st := s.rd PCR_PWR_STAT_STATE
  if st == 1 || st == 3 then { s with pwr := { s.pwr with restart := true } } else coreRestart s

/-- A restart that waited for the end of an entry or of a wake. -/
def restartIfOwed (s : State) : State := if s.pwr.restart then coreRestart s else s

/-! ### Standby (R435 to R439) -/

/-- A request refused with a cause (R435). -/
def standbyRefuse (s : State) (e : Nat) : State := (s.wr PCR_PWR_STAT_REFUSED 1).wr PCR_PWR_STAT_ERR e

/-- Steps 1 to 3 of the entry begin (R436). A home sequence ends with its axis's EN; a PANEL_RESET in progress goes on with the panels
that the entry asks (notes/assumptions/53.md). -/
def standbyEnter (s : State) : State :=
  let s := ((s.wr PCR_PWR_STAT_ERR 0).wr PCR_PWR_STAT_WAKE_SRC 0).wr PCR_PWR_STAT_STATE 1
  let s := { s with pwr := { s.pwr with wakeWait := 0 } }
  let s := sinksOff (disarmEmitter s)
  let s := convCtrl s ((s.get (ILU_CONV_CTRL.off 0 0)) &&& 0x7FFFFFFF#32)
  let s := forEach [0, 1] s fun s ch => s.wr ILU_SW_CTRL_EN 0 ch
  let s := frontEndOff s
  let s := forEach (List.range 4) s fun s a =>
    let s := (setMode ((s.wr AXS_CTRL_EN 0 a).updAx a fun x => { x with home := 0 }) a 0).wr AXS_STAT_REF 0 a
    if (s.ax a).v = 0 then choppersIdle s a else s
  let s := { s with hrn := { s.hrn with order := s.hrn.order.filter fun p => !standbyPanels.contains p } }
  forEach standbyPanels s fun s p => if s.loaded p && !s.quiesced p && !s.hrn.asked.contains p then askPanel s p else s

/-- A request for standby (R435). -/
def standbyAsk (s : State) : State :=
  let st := loadState s
  if !(st == 0 || st == 7) then standbyRefuse s 1
  else if calRunning s then standbyRefuse s 2
  else if s.rd PCR_PWR_STAT_STATE != 0 then standbyRefuse s 3
  else standbyEnter s

/-- A wake source acts: in standby the wake begins; during the entry it waits for the entry's end (R438). -/
def wake (s : State) (src : Nat) : State :=
  match s.rd PCR_PWR_STAT_STATE with
  | 2 => (s.wr PCR_PWR_STAT_WAKE_SRC src).wr PCR_PWR_STAT_STATE 3
  | 1 => if s.pwr.wakeWait = 0 then { s with pwr := { s.pwr with wakeWait := src } } else s
  | _ => s

/-- Step 4 of the entry (R436): every queue flushed, every DMA channel stopped. -/
def standbyFlush (s : State) : State :=
  let s := forEach (List.range 64) s fun s q => if qDisabled s q then s else qFlush s q
  forEach (List.range 8) s fun s ch => (dmaStop s ch).wr PCR_DMA_CTRL_EN 0 ch

/-- The ring ports at 1.25 Gbit/s, for which the two retrain, or at their rate again (R430, R436, R439). -/
def portsSlow (s : State) (b : Bool) : State :=
  let s := { s with ring := { s.ring with slow := b } }
  if b && ringOn s then forEach [0, 1] s fun s p => if s.rd BRD_PORT_STAT_STATE p = 4 then portState s p 1 else s else s

/-- Whether the save of a `PFW#` still runs or waits: no further step of an entry or a wake comes before its end (R443). -/
def pfwFirst (s : State) : Bool := s.cal.pfw != 0

/-- Steps 4 to 6 of the entry (R436, R437): STANDBY. -/
def standbyDone (s : State) : State :=
  if s.rd PCR_PWR_STAT_STATE != 1 || notReached s != [] || pfwFirst s then s
  else
    let s := saveAsk (standbyFlush s)
    let s := forEach (List.range 12) s fun s c => s.updChan c fun x => { x with landed := x.landed.map fun l => { l with stood := true } }
    let s := forEach (List.range 8) s laneOff
    let up := s.flag PCR_LINK_UP
    let s := histLost { s with pwr := { s.pwr with
      linkSpeed := if up then s.rd PCR_LINK_SPEED else 0, linkWidth := if up then s.rd PCR_LINK_WIDTH else 0 } }
    let s := if up then linkSet s true (s.flag PCR_LINK_L1) 1 1 else s
    let s := forEach (List.range 4) { s with ring := { s.ring with path := if isLead s then s.ring.path else false } } logPathLost
    let s := showDomains ({ s with hrn := { s.hrn with asked := [] } }.wr PCR_PWR_STAT_STATE 2)
    let s := portsSlow s true
    let s := restartIfOwed s
    if s.pwr.wakeWait = 0 then s else wake { s with pwr := { s.pwr with wakeWait := 0 } } s.pwr.wakeWait

/-- `HRN_QTIMEOUT` passes during the entry (R436): the effects of step 4 come too, the panels are released and the device runs on. -/
def standbyTimeout (s : State) : State :=
  if s.rd PCR_PWR_STAT_STATE != 1 || notReached s == [] then s
  else
    let s := releaseAsked (standbyFlush s)
    let s := { s with pwr := { s.pwr with wakeWait := 0 } }
    restartIfOwed ((standbyRefuse s 4).wr PCR_PWR_STAT_STATE 0)

/-- The wake steps end (R439): domains as the plan uses them, panels released in dependency order, link and ring as before. A link that
was down before the entry has no rate to return to. -/
def wakeDone (s : State) : State :=
  if s.rd PCR_PWR_STAT_STATE != 3 || pfwFirst s then s
  else
    let s := portsSlow (showDomains (s.wr PCR_PWR_STAT_STATE 0)) false
    let s := if s.flag PCR_LINK_UP && s.pwr.linkWidth != 0 then linkSet s true (s.flag PCR_LINK_L1) s.pwr.linkWidth s.pwr.linkSpeed else s
    let l := orderUp (leads s.dependsOn) 16 (standbyPanels.filter fun p => s.quiesced p && wholeDeps s p)
    let s := lanesSync (forEach l s releasePanel)
    let s := if ringOn s then ringTrain s else s
    restartIfOwed s

/-! ### Register writes -/

/-- A write of `PCR_PWR_CTRL` (R435, R438). -/
def pwrCtrl (s : State) (v : Nat) : State :=
  let s := s.wr PCR_PWR_CTRL_STANDBY (bitsOf v 31 1)
  if bit v 31 then standbyAsk s else wake s 1

/-- A write of `PCR_THERM` (R459): the trip is cleared only while both dies read below 100 °C. -/
def thermWrite (s : State) (v : Nat) : State :=
  if bit v 31 && decide (s.rd PCR_THERM_TJ_CORE < 100) && decide (s.rd PCR_THERM_TJ_FIELD < 100) then s.wr PCR_THERM_THERM_TRIP 0 else s

/-- The calendar reaches the wake alarm (R438). -/
def wakeAlarm (s : State) : State :=
  let t := s.rd PCR_WAKE_ALARM_SEC * 1000000000
  if decide (t + 1000000000 ≤ s.rtc % (2 ^ 32 * 1000000000)) then s
  else
    let s := s.pass (t - s.rtc % (2 ^ 32 * 1000000000))
    if s.flag PCR_WAKE_CFG_ALARM_EN then wake s 4 else s

/-- The level of a pin that the device drives, none where it does not drive it (R457). -/
def pinDriven (s : State) (n : Nat) : Option Bool :=
  let v := match s.rd GLB_GPIO_CFG_FUNC n with
    | 1 | 2 => some (s.flag GLB_GPIO_CFG_OUT n)
    | 3 => some (bit (tsPins s) n)
    | _ => none
  v.filter fun b => !(b && s.flag GLB_GPIO_CFG_OD n)

/-- The level of a pin (R449, R457): driven by the device, else by its external circuit, else its internal pull; none where it is
undetermined. -/
def pinLevel (s : State) (n : Nat) : Option Bool :=
  match pinDriven s n, (s.board.gpioIn.find? fun p => p.1 == n) with
  | some b, _ => some b
  | none, some p => some p.2
  | none, none => match s.rd GLB_GPIO_CFG_PULL n with
    | 1 => some false
    | 2 => some true
    | _ => none

/-- The external circuit of a GPIO drives it to a new level, which wakes where `PCR_WAKE_CFG` selects the edge (R438, R457): an edge is a
change of the level that IN reads, so none comes of a pin that the device drives. -/
def wakeGpio (s : State) (n : Nat) (rising : Bool) : State :=
  let before := pinLevel s n
  let s := { s with board := { s.board with gpioIn := kvPut s.board.gpioIn n rising } }
  if before == pinLevel s n then s
  else if bit (s.rd PCR_WAKE_CFG_GPIO) n && rising != s.flag PCR_WAKE_CFG_GPIO_POL then wake s 3 else s

/-- DRAM training ends (R44): the boot load begins. -/
def dramTrained (s : State) (rate : Nat) : State :=
  if s.rd SEC_STAT_FW == 0 || s.board.dramRate != 0 || rate == 0 then s
  else bootHarness { s with board := { s.board with dramRate := rate } }

/-! ### The rows of the table -/

/-- `WDT_WARN` (R18): a core's watchdog warns. -/
def execWdtWarn (_core : Fin 4) (s : State) : Host.Outcome State Fault Refusal := done (raise s 9)

/-- `WATCHDOG_EXPIRY` (R440). -/
def execWatchdogExpiry (core : Fin 4) (s : State) : Host.Outcome State Fault Refusal :=
  done (coreReset ((s.wr GLB_RST_CAUSE_WDT 1).wr GLB_RST_CAUSE_CORE core))

/-- `PORST` (R440). -/
def execPorst (newlyUp gpio12 : Bool) (s : State) : Host.Outcome State Fault Refusal := done (porst s newlyUp gpio12)

/-- `WRST` (R440). -/
def execWrst (s : State) : Host.Outcome State Fault Refusal := done (coreReset (s.wr GLB_RST_CAUSE_WRST 1))

/-- `DRAM_TRAINING_DONE` (R44). -/
def execDramTrainingDone (rate : Nat) (s : State) : Host.Outcome State Fault Refusal := done (dramTrained s rate)

/-- `D3HOT_ENTRY` (R435). -/
def execD3hotEntry (s : State) : Host.Outcome State Fault Refusal := done (standbyAsk s)

/-- `STANDBY_ENTRY_DONE` (R436). -/
def execStandbyEntryDone (s : State) : Host.Outcome State Fault Refusal := done (standbyDone s)

/-- `STANDBY_TIMEOUT` (R436). -/
def execStandbyTimeout (s : State) : Host.Outcome State Fault Refusal := done (standbyTimeout s)

/-- `WAKE_D0` (R438). -/
def execWakeD0 (s : State) : Host.Outcome State Fault Refusal := done (wake s 2)

/-- `WAKE_GPIO` (R438). -/
def execWakeGpio (n : Fin 14) (rising : Bool) (s : State) : Host.Outcome State Fault Refusal := done (wakeGpio s n rising)

/-- `WAKE_ALARM` (R438). -/
def execWakeAlarm (s : State) : Host.Outcome State Fault Refusal := done (wakeAlarm s)

/-- `WAKE_COMPLETE` (R439). -/
def execWakeComplete (s : State) : Host.Outcome State Fault Refusal := done (wakeDone s)

/-- `D2D_FAULT` (R16). -/
def execD2dFault (s : State) : Host.Outcome State Fault Refusal := done (d2dFault s)

/-- `D2D_RETRAINED` (R17): the link is back; the safe state stays. -/
def execD2dRetrained (s : State) : Host.Outcome State Fault Refusal := done { s with pwr := { s.pwr with d2dDown := false } }

/-- `THERMAL_SAMPLE` (R459). -/
def execThermalSample (core field : Int) (s : State) : Host.Outcome State Fault Refusal := done (thermal s core field)

end Sys2Proof.Machine
end

