-- ==== Sys2Proof/Machine/Access.lean ====
section
/-! DEFINITION. Accesses to BAR0 (spec/00_scope.md, spec/01_architecture.md, spec/17_host.md): which blocks respond (R30, R437, R461),
reads with their captures (R8, R9, R11), the lock of structural fields (R10, R52), apply-at-line stamps (R366, R367), tagged parameters
(R130, R150, R151), and what a write to each register does. -/

namespace Sys2Proof.Machine

/-! ### Responding (R30, R437, R461, R17) -/

/-- Whether the block or window at a BAR0 offset responds. -/
def responds (s : State) (off : Nat) : Bool :=
  let p := panelOf off
  p == 16 || (decide (p < 16) && s.loaded p && (panelDomains p).all s.powered)

/-- Whether an offset lies in a field-die block. -/
def onFieldDie (off : Nat) : Bool := decide (9 ≤ off / 0x100000) && decide (off / 0x100000 ≤ 11)

/-! ### Reads -/

/-- The age in s of the oldest delay-line table (R256). -/
def tableAge (s : State) : Nat :=
  let oldest := (List.range 65).foldl (fun m i => min m (kvGet (fun _ => 0) s.fix.made i)) s.elapsed
  min ((s.elapsed - oldest) / 1000000000) 65535

/-- Values of a register that follow from other state at the moment of the read. -/
def liveWord (s : State) (base i off : Nat) : State × Word :=
  let w := s.get off
  let n (x : Nat) : State × Word := (s, BitVec.ofNat 32 x)
  let f (lo k v : Nat) : State × Word := n (setBits w.toNat lo k v)
  match base with
  | 0x200300 => n s.chrono
  | 0x200304 => n (s.chrono / 2 ^ 32)
  | 0x200318 => n s.elapsed
  | 0x20031C => n (s.elapsed / 2 ^ 32)
  | 0x30001C => f 0 1 (if (s.chan i).on && laneUp s (s.rd SNS_CH_MAP_LANE i) && !s.quiescing 1 then 1 else 0)
  | 0x801008 => f 30 1 (if (List.range 65).any (tableStale s) then 1 else 0)
  | 0x801014 => f 0 16 (tableAge s)
  | 0x900028 => f 0 13 (convTarget s / 10)
  | 0x90002C => (s.used, BitVec.ofNat 32 (s.free 32) &&& 0x1FFF1FFF#32)
  | 0x904004 => f 29 3 (chainState s i)
  | 0xF80010 => n (s.rtc % 1000000000 * 32768 / 1000000000)
  | 0xF80014 => n (calSeconds s)
  | 0x1000080 => (s, if s.flag SEC_STAT_ROOT_SET then s.sec.otpRoot.getD i 0 else w)
  | 0x110C000 => f 31 1 (if s.active 15 then 1 else 0)
  | 0x110C400 => n (reflexEntry s i)
  | 0x200 => match pinLevel s i with
    | some b => f 7 1 (if b then 1 else 0)
    | none => (s.used, BitVec.ofNat 32 (setBits w.toNat 7 1 (s.free 1)))
  | _ => (s, w)

/-- How many upper words a value has whose lowest word is the register at index `j` of `base` (R8). -/
def upperWords (base i : Nat) : Nat :=
  if base == 0x100080 || base == 0x1000060 then (if i = 0 then 7 else 0)
  else if [0x10000C, 0x200004, 0x20000C, 0x200024, 0x200204, 0x200300, 0x200318, 0x201000, 0x502004, 0x600024, 0x60005C, 0x901000,
      0xC00010, 0xF80010, 0xF80100, 0x1101000].contains base then 1
  else 0

/-- The indices of a register in its row. -/
def regIndex (r : RegDesc) (off : Nat) : Nat × Nat := (rowIndex r off).getD (0, 0)

/-- The value that a register shows: write-only fields as zero (R9). -/
def showWord (s : State) (r : RegDesc) (off : Nat) : State × Word :=
  let x := liveWord s r.base (regIndex r off).1 off
  (x.1, x.2 &&& ~~~(BitVec.ofNat 32 r.wo))

/-- The upper words of a value captured as its lowest word is read (R8). -/
def captureUppers (s : State) (off : Nat) : Nat → State
  | 0 => s
  | k + 1 =>
    let s := captureUppers s off k
    let o := off + 4 * (k + 1)
    match regRow o with
    | some r => let x := showWord s r o; { x.1 with captures := kvPut x.1.captures o x.2 }
    | none => s

/-- A read of a register: captures (R8), then RC fields cleared (R9, R11). -/
def readReg (s : State) (r : RegDesc) (off : Nat) : State × Word :=
  match s.captures.find? fun p => p.1 == off with
  | some p => (s, p.2)
  | none =>
    let x := showWord s r off
    let s := captureUppers x.1 off (upperWords r.base (regIndex r off).1)
    (if r.rc = 0 then s else s.set off (s.get off &&& ~~~(BitVec.ofNat 32 r.rc)), x.2)

/-- The identity window: the endorsement of serial and identity key with its signature block under the Koryr root (R420, R427, R460). -/
def identityWindow (s : State) : List Byte :=
  let msg := leBytes 8 s.board.serial ++ identityKey
  msg ++ asciiBytes "HNSG" ++ leBytes 4 0x12 ++ leBytes 4 2820 ++ leBytes 4 0 ++ (Config.endorsement msg).toList

/-- Whether the CRC-32C of the incident entry at `a` matches; one that does not reads as empty, zeros (R418, notes/assumptions/108.md). -/
def incidentOk (s : State) (a : Nat) : Bool :=
  (s.get (a + 12)).toNat == crc32c ([0, 1, 2].flatMap fun i => blockBytes 4 (s.get (a + 4 * i)).toNat)

/-- A read of a window word: pop windows (R335), store words with bad parity (R119), store contents lost in standby (R430),
and the write-only token and firmware windows (R6). -/
def readWindow (s : State) (off : Nat) : State × Word :=
  if decide (0x1A00000 ≤ off) && decide (off < 0x1A40000) then
    let q := (off - 0x1A00000) / 0x1000
    let k := off % 0x1000 / 4
    if decide (4 ≤ k) then (s, 0)
    else
      let s := if k = 0 then qPop s q else s
      (s, BitVec.ofNat 32 ((s.q q).pop.getD k 0))
  else if decide (0x1800000 ≤ off) && decide (off < 0x1A00000) && s.rgh.lost.contains ((off - 0x1800000) / 0x40000) then
    (s.used, BitVec.ofNat 32 (s.free 32))
  else if decide (0x1400000 ≤ off) && decide (off < 0x1800000) then
    let o := off - 0x1400000
    let lin := decide (0x1700000 ≤ off) && decide (off < 0x17C0000)
    (if !s.badPar.contains o then s else if lin then (s.sat IPC_PAR_LIN).wr IPC_PAR_ADDR_OFFSET o else parityCount s o, storeWord s o)
  else if decide (0x1002000 ≤ off) && decide (off < 0x1002B60) then
    (s, BitVec.ofNat 32 (leNat (((identityWindow s).drop (off - 0x1002000)).take 4)))
  else if decide (0xF88000 ≤ off) && decide (off < 0xF90000) then (s, if incidentOk s (off / 16 * 16) then s.get off else 0)
  else if (decide (0x1003000 ≤ off) && decide (off < 0x1003B40)) || (decide (0x1008000 ≤ off) && decide (off < 0x1088000)) then (s, 0)
  else (s, s.get off)

/-- One word read by the host (R6, R30). -/
def readWord (s : State) (off : Nat) : State × Word :=
  if !responds s off then (s, 0xFFFFFFFF#32)
  else match regRow off with
    | some r => readReg s r off
    | none => if windowWord off then readWindow s off else (s, 0)

/-- Consecutive words read in ascending order (R352). -/
def readWords (s : State) (off : Nat) : Nat → State × List Nat
  | 0 => (s, [])
  | n + 1 =>
    let x := readWord s off
    let y := readWords x.1 (off + 4) n
    (y.1, x.2.toNat :: y.2)

/-- A read of `n` words, which completes with their data; one that R352 refuses reads nothing. -/
def hostRead (s : State) (off n : Nat) : State :=
  if off % 4 = 0 then
    let x := readWords s off n
    x.1.out (.readData off (x.2.map (BitVec.ofNat 32)))
  else (s.sat PCR_ERR_LENGTH).out .readUR

/-! ### Plain writes (R9) -/

/-- Bits `m` of a register taken from `v`. -/
def putBits (s : State) (off m : Nat) (v : Word) : State :=
  let k := BitVec.ofNat 32 m
  s.set off ((s.get off &&& ~~~k) ||| (v &&& k))

/-- The pending bits of word `w` whose sources the present command has raised: a clear that meets them leaves them set (R382). -/
def raisedBits (s : State) (w : Nat) : Nat := (List.range 32).foldl (fun m i => if s.raised.contains (32 * w + i) then m + 2 ^ i else m) 0

/-- RW and RWL fields set, W1C fields cleared where a 1 is written. -/
def plainWrite (s : State) (r : RegDesc) (off : Nat) (v : Word) : State :=
  let kept := if r.base == EVT_PEND.base then raisedBits s ((off - r.base) / 4) else 0
  putBits (putBits s off (r.rw ||| r.rwl) v) off (r.w1c &&& v.toNat &&& (kept ^^^ 0xFFFFFFFF)) 0

/-! ### Stamps and tags (R130, R150, R366, R367) -/

/-- The stamp that a host write takes: channel and write line (R366). -/
def stampNow (s : State) : Option (Nat × Nat) :=
  let ch := s.rd GLB_ALINE_CTRL_CH
  if s.flag GLB_ALINE_CTRL_EN && decide (ch < 12) then some (ch, s.rd GLB_ALINE_LINE_LINE) else none

/-- A register of tagged parameters: its channel, its parameters, whether they are one parameter, whether sensor-delayed (R150). -/
structure Tagged where
  chan : Nat
  flds : List Fld
  one : Bool := true
  delayed : Bool := false

/-- The tagged parameters of a register (R130, R150). -/
def taggedOf (s : State) (base i : Nat) : Option Tagged :=
  match base with
  | 0x400000 => some ⟨i, [IPC_CH_CTRL_RATIO_SRC, IPC_CH_CTRL_SHD_EN, IPC_CH_CTRL_MERGE_EN, IPC_CH_CTRL_LIN_EN], false, false⟩
  | 0x400004 => some ⟨i, [IPC_MERGE_RATIO], true, true⟩
  | 0x400008 => some ⟨i, [IPC_KNEE_KNEE], true, false⟩
  | 0x40000C => some ⟨i, [IPC_SAT_LEVEL], true, false⟩
  | 0x400020 => some ⟨i, [IPC_SHD_TARGET_TARGET], true, false⟩
  | 0x502014 => some ⟨i, [IPG_GEO_CFG_GEO_EN, IPG_GEO_CFG_MINCONF, IPG_GEO_CFG_MAXAGE], false, false⟩
  | 0x502018 => some ⟨i, [IPG_GEO_REF_REF], true, false⟩
  | 0x50201C => some ⟨i, [IPG_GEO_DIST_DIST], true, false⟩
  | 0x502020 => some ⟨i, [IPG_GEO_U0_U0], true, false⟩
  | 0x502024 => some ⟨i, [IPG_GEO_TILT_TILT], true, false⟩
  | 0x508000 => some ⟨s.rd IPG_VIEW_CFG_CHANNEL i, [IPG_VIEW_CFG_EN], false, false⟩
  | 0x508004 => some ⟨s.rd IPG_VIEW_CFG_CHANNEL i, [IPG_VIEW_CROP], true, false⟩
  | 0x508008 => some ⟨s.rd IPG_VIEW_CFG_CHANNEL i, [IPG_VIEW_SCALE], true, false⟩
  | _ => none

/-- The line number −1. -/
def minusOne : Nat := 2 ^ 32 - 1

/-- Whether line number `t` lies ahead of `u`, within 2^31. -/
def lineAhead (t u : Nat) : Bool := let d := (t + 2 ^ 32 - u) % 2 ^ 32; decide (0 < d) && decide (d < 2 ^ 31)

/-- A tagged write, its new values already in the register (R150, R151). -/
def tagWrite (old s : State) (t : Tagged) (off : Nat) (i j : Nat) (stamp : Option (Nat × Nat)) : State :=
  let wl := (stamp.map (·.2)).getD (((s.chan t.chan).last).getD minusOne)
  let e := if t.delayed then wl + s.rd SNS_TPL_CFG_DLY t.chan + 2 else wl + 1
  forEach t.flds s fun s f =>
    if !t.one && old.rd f i j == s.rd f i j then s
    else
      let x := tagField s f i j (old.rd f i j) e t.chan stamp.isSome
      if !x.2 then x.1
      else if off < 0x500000 then x.1.sat IPC_PEND_DISCARD_COUNT else x.1.sat IPG_CNT_PEND_DISCARD

/-- An exposure write, its value already in the register and `old` the one before it: held for its stamp's line start, or for the next
one (R88, R367). Until a held one applies, lines use the exposure of the last start, or `old` where there is none. -/
def exposureTaken (s : State) (c old : Nat) (short : Bool) (stamp : Option (Nat × Nat)) : State :=
  let x := s.chan c
  let held := if short then x.holdS else x.holdL
  let s := if held.isSome then s.sat IPC_PEND_DISCARD_COUNT else s
  let first := held.isNone && (!x.on || x.last.isNone)
  let put (s : State) (h : Option Nat) : State := s.updChan c fun x =>
    if short then { x with holdS := h, forceS := if first then old else x.forceS }
    else { x with holdL := h, forceL := if first then old else x.forceL }
  match stamp with
  | none => put s none
  | some (_, w) =>
    let t := (w + 1) % 2 ^ 32
    if lineAhead t (x.last.getD minusOne) then put s (some t) else put (s.sat GLB_ORDER_CNT_STAMP_LATE) none

/-! ### What a write to each register does

In each function `base` names the register, `i` and `j` its indices, `w` the state with the write's plain effect; `pay` says that the
write is one of a payload, whose panel is unloaded (R35). -/

/-- GLB and HRN. -/
def writeGlbHrn (s w : State) (base : Nat) (v : Nat) : State :=
  match base with
  | 0x80 => s.bump GLB_CINCH_STAT_COUNT
  | 0x100004 => hrnCmd s v
  | _ => w

/-- A write of `LOG_TICKDIV[n]` (R469): a new DIV ticks first at a multiple that the elapsed count reaches after this cycle. -/
def tickdivWrite (s w : State) (n : Nat) : State :=
  if s.rd LOG_TICKDIV_DIV n == w.rd LOG_TICKDIV_DIV n then w
  else { w with timers := kvSet (fun _ => 0) w.timers (8 + n) w.elapsed }

/-- LOG. -/
def writeLog (s w : State) (base i off : Nat) (v : Word) : State :=
  match base with
  | 0x200000 => logCfgTake s i v
  | 0x200010 => logPreset s i v
  | 0x200018 => tickdivWrite s w i
  | 0x200020 => pitchWrite s i v
  | 0x20002C => genCtrl s i v.toNat
  | 0x200308 => s.set off v
  | 0x20030C => chronoSet s v
  | 0x201000 => wpHold s i v.toNat
  | 0x201004 => wpApply s i v.toNat
  | 0x201008 => wpCtrl s i v.toNat
  | _ => w

/-- SNS. -/
def writeSns (s w : State) (base i : Nat) (v : Word) (pay : Bool) (stamp : Option (Nat × Nat)) : State :=
  match base with
  | 0x300000 => if pay then w else chRefresh w
  | 0x300014 => if pay then w else exposureTaken w i (s.rd SNS_EXP_LONG_EXP i) false stamp
  | 0x300018 => if pay then w else exposureTaken w i (s.rd SNS_EXP_SHORT_EXP i) true stamp
  | 0x304000 => if pay then w else laneCtrl w i (s.get (SNS_LANE_CTRL.off i 0)).toNat v.toNat
  | 0x30400C => headCmd s i (bitsOf v.toNat 30 2) (bitsOf v.toNat 28 2) (v.toNat % 2 ^ 12)
  | _ => w

/-- A write of `IPC_WARM[c]` (R126, R127). -/
def warmWrite (s w : State) (c : Nat) (v : Nat) : State :=
  if bit v 30 || s.flag IPC_WARM_EN c != w.flag IPC_WARM_EN c then warmRestartCh w c else w

/-- A write of `IPC_WARM_STRIP[c]`: LAST below FIRST disables the detector (R127). -/
def stripWrite (w : State) (c : Nat) : State :=
  if w.rd IPC_WARM_STRIP_LAST c < w.rd IPC_WARM_STRIP_FIRST c then warmRestartCh w c else w

/-- A write of `IPC_CAP_CTRL` (R120, R122). -/
def capCtrl (s : State) (v : Nat) : State :=
  let s := if bit v 31 then capStart s (bitsOf v 16 4) (bit v 28) (bit v 29) else s
  if bit v 30 then capFail s 7 else s

/-- IPC. -/
def writeIpc (s w : State) (base i : Nat) (v : Word) : State :=
  match base with
  | 0x400000 => if s.flag IPC_CH_CTRL_SHD_EN i && !w.flag IPC_CH_CTRL_SHD_EN i then capFailOn w i 7 else w
  | 0x400010 => if s.flag IPC_CH_CTRL_LIN_EN i then s.sat IPC_WIN_REJ_COUNT else w
  | 0x400040 => warmWrite s w i v.toNat
  | 0x400044 => stripWrite w i
  | 0x401000 => capCtrl s v.toNat
  | _ => w

/-- IPG. -/
def writeIpg (s w : State) (base i j : Nat) (v : Word) (pay : Bool) : State :=
  match base with
  | 0x501000 => firStore s i j v
  | 0x508000 => if pay then w else let w := viewCheck w; if bit v.toNat 30 then viewCommit w i else w
  | 0x508004 => if pay then w else viewCheck w
  | 0x508008 => if pay then w else viewCheck w
  | _ => w

/-- AXS. -/
def writeAxs (s w : State) (r : RegDesc) (i off : Nat) (v : Word) : State :=
  match r.base with
  | 0x600004 => axCtrl s i v.toNat
  | 0x600008 => targetWrite s i v
  | 0x600020 => vtargetWrite s i v
  | 0x600038 => gridWrite s i false v
  | 0x60003C => gridWrite s i true v
  | 0x60008C => offsCfg s i v
  | 0x600090 => if s.flag AXS_OFFS_CFG_ADAPT_EN i then s else w
  | 0x6000C8 => plainWrite (if bit v.toNat 31 then stallClear s i else s) r off v
  | _ => w

/-- RGE and RGH. -/
def writeRange (s w : State) (base : Nat) (v : Nat) : State :=
  match base with
  | 0x700000 => rgeCtrl s v
  | 0x700010 => rgeCode w v
  | 0x800000 => freezeWrite s v
  | 0x801010 => sweepSync (staleSync w)
  | _ => w

/-- ILU. -/
def writeIlu (s w : State) (base i : Nat) (v : Word) (pay : Bool) : State :=
  match base with
  | 0x900000 => iluCtrl s v.toNat
  | 0x90000C => dissFollow w
  | 0x900020 => convCtrl s v
  | 0x900100 => ownedSync w
  | 0x900104 => sinkCtrl s i v pay
  | 0x900108 => sinkDuty s i v pay
  | 0x900400 => peCfg s i v
  | 0x904000 => chainCtrl (s.wr ILU_SW_CTRL_DRIVERS (bitsOf v.toNat 16 8) i) i v.toNat
  | _ => w

/-- AFE and CNV. -/
def writeFront (s w : State) (base i : Nat) (v : Word) : State :=
  match base with
  | 0xA00000 => afeCfg s v
  | 0xA00018 => polyApply s (v.toNat % 256)
  | 0xA00020 => tsUnlatch s (v.toNat % 2 ^ 16)
  | 0xA00100 => rangeRestart w i
  | 0xB00000 => cnvCtrl ((s.wr CNV_CTRL_ILEN (bitsOf v.toNat 8 2) i).wr CNV_CTRL_RLEN (v.toNat % 32) i) i v.toNat
  | 0xB00800 => winCfg s i v
  | _ => w

/-- Setting an enable bit whose source is pending counts as a raise for its vector (R381). -/
def enableRaises (s w : State) (k : Nat) : State :=
  let new := w.rd EVT_EN k &&& (s.rd EVT_EN k ^^^ 0xFFFFFFFF) &&& w.rd EVT_PEND k
  forEach (bitsList new 32) w fun w j => askVector w (32 * k + j)

/-- A write of `BRD_CTRL` in a payload: training starts at release (R384). -/
def brdPayload (s w : State) : State := if s.flag BRD_CTRL_EN && !w.flag BRD_CTRL_EN then ringDown w else w

/-- QUE, EVT and BRD. -/
def writeQueBrd (s w : State) (r : RegDesc) (i off : Nat) (v : Word) (pay : Bool) : State :=
  match r.base with
  | 0xC0000C => queCfg s i (v &&& BitVec.ofNat 32 r.rw)
  | 0xC00018 => qCommand s i v.toNat
  | 0xD00100 => enableRaises s w i
  | 0xE00000 => if s.get off == w.get off then w else { w with ring := { w.ring with restart := true } }
  | 0xE00004 => if pay then brdPayload s w else brdCtrl s v.toNat
  | 0xE00018 => if isLead w && w.rd BRD_STAT_STATE == 4 then sendCodes w else w
  | 0xE0004C => tunCmd s v.toNat
  | _ => w

/-- CAL, LGB, SEC and PCR. -/
def writeRest (s w : State) (base i : Nat) (v : Word) : State :=
  match base with
  | 0xF00000 => calCtrl s v.toNat
  | 0xF80000 => if bit v.toNat 31 then saveAsk s else s
  | 0xF80014 => rtcWrite s v
  | 0x1000000 => secCtrl s v.toNat true
  | 0x1100100 => pwrCtrl s v.toNat
  | 0x1100120 => thermWrite s v.toNat
  | 0x1101008 => dmaCtrl s i v.toNat
  | _ => w

/-- A write to a register, taken by its block. -/
def writeReg (s : State) (r : RegDesc) (off : Nat) (v : Word) (pay : Bool) (stamp : Option (Nat × Nat)) : State :=
  let ij := regIndex r off
  let i := ij.1
  let w := plainWrite s r off v
  let w := match taggedOf s r.base i with
    | some t => if pay then w else tagWrite s w t off i ij.2 stamp
    | none => w
  match off / 0x100000 with
  | 0 | 1 => writeGlbHrn s w r.base v.toNat
  | 2 => writeLog s w r.base i off v
  | 3 => writeSns s w r.base i v pay stamp
  | 4 => writeIpc s w r.base i v
  | 5 => writeIpg s w r.base i ij.2 v pay
  | 6 => writeAxs s w r i off v
  | 7 | 8 => writeRange s w r.base v.toNat
  | 9 => writeIlu s w r.base i v pay
  | 10 | 11 => writeFront s w r.base i v
  | 12 | 13 | 14 => writeQueBrd s w r i off v pay
  | _ => writeRest s w r.base i v

/-- A write to a window word: shading store (R117), MSI-X table (R358), the token and firmware staging windows; the others discard it. -/
def writeWindow (s : State) (off : Nat) (v : Word) : State :=
  let within (lo n : Nat) : Bool := decide (lo ≤ off) && decide (off < lo + n)
  if within 0x1400000 0x400000 then storeWrite s off v
  else if within 0x1108000 0x400 then msixWrite s off v
  else if within 0x1003000 2880 || within 0x1008000 0x80000 then s.set off v
  else s

/-! ### Host writes -/

/-- Whether the lock refuses a write: its panel is loaded, and an RWL field would change (R10, R52). -/
def lockRefuses (s : State) (r : RegDesc) (off : Nat) (v : Word) : Bool :=
  (s.get off ^^^ v) &&& BitVec.ofNat 32 r.rwl != 0

/-- A refused write (R52). -/
def lockReject (s : State) (off : Nat) : State := raise ((s.sat HRN_REJ_LOCK_REJECT).wr HRN_REJ_ADDR_OFFSET off) 2

/-- Whether a stamp of channel `ch` acts on a register (R366). -/
def stampActs (s : State) (base i ch : Nat) : Bool :=
  ((base == 0x300014 || base == 0x300018) && i == ch) || (taggedOf s base i).any fun t => t.chan == ch

/-- A write of one register by the host, of a parameter set or of a tunnel, at the moment at which its block takes it. `stamp` is
none for a write that cannot be stamped. -/
def writeAt (s : State) (off : Nat) (v : Word) (stamp : Option (Nat × Nat)) : State :=
  let ignored (s : State) : State := if stamp.isSome then s.sat GLB_ORDER_CNT_STAMP_IGN else s
  if !responds s off || (s.pwr.d2dDown && onFieldDie off) then ignored s
  else match regRow off with
    | none => if windowWord off then writeWindow (ignored s) off v else ignored s
    | some r =>
      let acts := stamp.any fun t => stampActs s r.base (regIndex r off).1 t.1
      let s := if acts then s else ignored s
      if lockRefuses s r off v then lockReject s off else writeReg s r off v false (if acts then stamp else none)

/-- A write of one register by the host (R352, R366): the stamp's own registers are never stamped. -/
def hostWrite (s : State) (off : Nat) (v : Word) : State :=
  if off % 4 != 0 then s.sat PCR_ERR_PARTIAL
  else writeAt s off v (if off == 0x90 || off == 0x94 then none else stampNow s)

/-- A write of a payload (R34, R35). -/
def payloadWrite (s : State) (off v : Nat) : State :=
  match regRow off with
  | some r => writeReg s r off (BitVec.ofNat 32 v) true none
  | none => writeWindow s off (BitVec.ofNat 32 v)

/-! ### Parameter sets (R368) -/

/-- The writes of parameter set `k` from entry `i` on. -/
def setEntries (s : State) (k : Nat) : Nat → Nat → List (Nat × Word)
  | 0, _ => []
  | n + 1, i =>
    if s.flag GLB_PSET_OFF_END k i then []
    else (4 * s.rd GLB_PSET_OFF_OFFSET k i, s.get (GLB_PSET_VAL.off k i)) :: setEntries s k n (i + 1)

/-- Parameter set `k` applied. -/
def applySet (s : State) (k : Nat) : State := forEach (setEntries s k 8 0) s fun s e => writeAt s e.1 e.2 none

end Sys2Proof.Machine
end

