-- ==== Sys2Proof/Machine/Cycle.lean ====
section
/-! DEFINITION. The evaluation cycle (spec/03_log.md, R70): the ticks of the Logs, the lines that the generators issue, the waypoints
that fire and their actions; and the sources of ticks: web encoders (R55 to R57), microsteps, the elapsed count (R469), the ring. -/

namespace Sys2Proof.Machine

/-! ### Lines (R63, R67, R70) -/

/-- The shortest line period of Log `n`'s generator in ns (R67). -/
def minPeriod (s : State) (n : Nat) : Nat := 10 * max 500 (s.rd LOG_LG_CTRL_MINPER n)

/-- Whether C of Log `n` stands on the generator's next line. -/
def lineDue (s : State) (n : Nat) : Bool := (s.log n).genOn && (s.log n).pos == (s.log n).c

/-- The line on which C of Log `n` has advanced: issued, or skipped within the minimum period. Answers the line issued. -/
def issueLine (s : State) (n : Nat) : State × Option Nat :=
  let g := s.log n
  if (g.lastIssue.any fun t => decide (s.elapsed < t + minPeriod s n)) then
    (raise ((s.updLog n genSkip).sat LOG_LG_SKIP_SKIP 1 n) (16 + n), none)
  else
    let s := (s.updLog n fun g => { genStep g with lastIssue := some s.elapsed }).wr LOG_LG_LINE_LINE g.k n
    (peLine (logLine s n g.k) (12 + n), some g.k)

/-- The lines that fall due on the Logs of `adv`, ascending: the state and the lines issued, by Log. -/
def issueLines : List Nat → State → State × List (Nat × Nat)
  | [], s => (s, [])
  | n :: t, s =>
    if lineDue s n then
      let x := issueLine s n
      let y := issueLines t x.1
      (y.1, (match x.2 with | some k => [(n, k)] | none => []) ++ y.2)
    else issueLines t s

/-! ### Waypoints (R68 to R72) -/

/-- Whether waypoint `i` fires, where the C of each Log of `adv` has advanced and `lines` were issued (R68). -/
def wpFires (s : State) (adv : List Nat) (lines : List (Nat × Nat)) (i : Nat) : Bool :=
  let n := s.rd LOG_WP_CTRL_LOG i
  let onPos := s.flag LOG_WP_CTRL_ARMED i && adv.contains n && (s.log n).c == wpPos s i
  match s.rd LOG_WP_CTRL_MODE i with
  | 1 | 2 | 4 => onPos
  | 3 => lines.any fun l =>
      let d := (l.2 + 2 ^ 32 - wpPos s i % 2 ^ 32) % 2 ^ 32
      l.1 == n && decide (d < 2 ^ 31) && d % wpPeriod s i == 0
  | _ => false

/-- What firing leaves of waypoint `i` (R68). -/
def wpAfter (s : State) (i : Nat) : State :=
  match s.rd LOG_WP_CTRL_MODE i with
  | 1 => s.wr LOG_WP_CTRL_ARMED 0 i
  | 2 => setWpPos s i (wpPos s i + wpPeriod s i)
  | _ => s

/-- A refused action (R71). -/
def wpRefuse (s : State) : State := raise (s.sat LOG_WP_CNT_REFUSED) 28

/-- The GPIO action (R72, R457): no effect on a pin that is no waypoint output. -/
def gpioAction (s : State) (arg : Nat) : State :=
  let n := arg % 16
  let op := bitsOf arg 4 2
  if 14 ≤ n || s.rd GLB_GPIO_CFG_FUNC n != 2 || op == 3 then s
  else s.wr GLB_GPIO_CFG_OUT (if op = 0 then 0 else if op = 1 then 1 else 1 - s.rd GLB_GPIO_CFG_OUT n) n

/-- The action of waypoint `i` but for APPLY_SET (R72): none where it is refused. -/
def wpAction (s : State) (i : Nat) : Option State :=
  let arg := s.rd LOG_WP_ARG_ARG i
  let n := s.rd LOG_WP_CTRL_LOG i
  match s.rd LOG_WP_CTRL_ACTION i with
  | 1 =>
    let x := startFrame s (arg % 16) n (s.rd LOG_LG_LINE_LINE n) (s.rd LOG_WP_CTRL_MODE i == 3)
    some (if x.2 then x.1 else wpRefuse x.1)
  | 3 => peStepAction s (arg % 16)
  | 4 => convertAction s (arg % 2) (bitsOf arg 1 1) 2
  | 5 => some (raise ((s.wr LOG_WP_EVDATA_WP i).wr LOG_WP_EVDATA_DATA arg) 31)
  | 6 => some (gpioAction s arg)
  | 7 => strobeAction s (arg % 2)
  | _ => some s

/-- Waypoint `i` fires: its action, then what firing leaves of it. -/
def wpFire (s : State) (i : Nat) : State := wpAfter ((wpAction s i).getD (wpRefuse s)) i

/-- The parameter set that waypoint `i` applies, if any. -/
def wpSet (s : State) (i : Nat) : List Nat := if s.rd LOG_WP_CTRL_ACTION i == 2 then [s.rd LOG_WP_ARG_ARG i % 64] else []

/-! ### The cycle (R70) -/

/-- The ticks taken: the state and the Logs whose C advanced. -/
def takeTicks : List (Nat × Bool) → State → State × List Nat
  | [], s => (s, [])
  | (n, rev) :: t, s =>
    let x := logTick s n rev
    let y := takeTicks t x.1
    (y.1, (if x.2 then [n] else []) ++ y.2)

/-- Lines and waypoints of a cycle in which the C of the Logs of `adv` advanced; the sets applied are written last (R70, R368). -/
def actOn (s : State) (adv : List Nat) : State :=
  let x := issueLines adv s
  let fired := (List.range 128).filter (wpFires x.1 adv x.2)
  let sets := fired.flatMap (wpSet x.1)
  forEach sets (peFlush (forEach fired x.1 wpFire)) applySet

/-- An evaluation cycle with the given ticks, ascending by Log; `after` is what follows the count of the Logs. While `P0` is quiesced
nothing fires (R62). -/
def cycleWith (s : State) (ticks : List (Nat × Bool)) (after : State → State) : State :=
  let ticks := if logsRun s then ticks else []
  let x := takeTicks ticks s
  let s := forEach x.2 (after x.1) delayLog
  let s := forEach x.2 s peLog
  if s.active 0 then actOn s x.2 else peFlush s

/-- An evaluation cycle with the given ticks. -/
def cycle (s : State) (ticks : List (Nat × Bool)) : State := cycleWith s ticks id

/-- A tick of the source of Log `n`: on a lead that distributes the Log it waits its time on the ring (R392). -/
def sourceTicks (s : State) (l : List (Nat × Bool)) : State × List (Nat × Bool) :=
  let s' := forEach (l.filter fun t => ringDelayed s t.1 && logsRun s) s fun s t => ringDelay s t.1 t.2
  (s', l.filter fun t => !ringDelayed s t.1)

/-! ### Web encoders (R55 to R57) -/

/-- R55: whether a change of the accepted levels to `(a', b')` counts in reverse. A counts forward while it leads B, so an
edge of A leaves the two levels apart and an edge of B leaves them equal. -/
def quadReverse (a a' b' : Bool) : Bool := if a != a' then a' == b' else a' != b'

/-- The tick that Log `n` decodes from an accepted change (R55, R57). -/
def decodeTick (s : State) (n : Nat) (a b a' b' : Bool) : List (Nat × Bool) :=
  let counts := match s.rd LOG_CFG_DECODE n with
    | 0 => !a && a'
    | 1 => a != a'
    | 2 => a != a' || b != b'
    | _ => false
  if counts then [(n, quadReverse a a' b' != s.flag LOG_CFG_INVERT n)] else []

/-- The accepted Z edge latches the Log named by ZLOG (R56). -/
def zLatch (s : State) (m : Nat) : State :=
  raise (s.wr2 LOG_WE_ZLATCH_LO_VALUE LOG_WE_ZLATCH_HI_VALUE (logValue s (s.rd LOG_WE_CFG_ZLOG m)) m) (24 + m)

/-- One sample of encoder `m` (R55 to R57, R468). -/
def encoderSample (s : State) (m : Nat) (la lb lz : Bool) : State :=
  if !logsRun s then s
  else
    let e := s.encoder m
    let f := s.rd LOG_WE_CFG_FILTER m
    let a := sampleInput f e.rawA e.a la
    let b := sampleInput f e.rawB e.b lb
    let z := sampleInput f e.rawZ e.z lz
    let s := s.setEncoder m { a := a.2, b := b.2, z := z.2, rawA := a.1, rawB := b.1, rawZ := z.1 }
    let bad := e.a != a.2 && e.b != b.2
    let s := if bad then raise (s.sat LOG_WE_ERR_COUNT 1 m) (26 + m) else s
    let ticks := if bad then []
      else (List.range 4).flatMap fun n => if s.rd LOG_CFG_SRC n == 1 + m then decodeTick s n e.a e.b a.2 b.2 else []
    let edge := s.flag LOG_WE_CFG_Z_EN m && e.z != z.2 && z.2 != s.flag LOG_WE_CFG_Z_POL m
    let x := sourceTicks s ticks
    cycleWith x.1 x.2 fun s => if edge then zLatch s m else s

/-! ### The other sources of ticks -/

/-- The microstep of axis `a` and the ticks of the Logs that it feeds (R54, R157). A line start that it brings at once is stamped with the
Log value before its own tick (notes/assumptions/94.md). -/
def microstepCycle (s : State) (a : Nat) : State :=
  let x := microstep s a
  match x.2 with
  | none => peFlush x.1
  | some rev =>
    let y := sourceTicks x.1 (((List.range 4).filter fun n => x.1.rd LOG_CFG_SRC n == 3 + a).map fun n => (n, rev))
    cycle y.1 y.2

/-- The period of a Log with SRC 8 in ns (R469). -/
def tickDiv (s : State) (n : Nat) : Nat := max 10 (s.rd LOG_TICKDIV_DIV n)

/-- The next tick of the Logs of a mask that have SRC 8, in one cycle (R469). -/
def chronoTick (s : State) (mask : Nat) : State :=
  let l := (bitsList mask 4).filter fun n => s.rd LOG_CFG_SRC n == 8
  let at_ := l.map fun n => (8 + n, nextRun s (8 + n) (tickDiv s n))
  let s := forEach at_ s fun s k => { s.passTo k.2 with timers := kvSet (fun _ => 0) s.timers k.1 k.2 }
  let x := sourceTicks s (l.map fun n => (n, false))
  cycle x.1 x.2

/-- The oldest waiting tick of Log `n` comes, at its lead time plus P (R392, R393). -/
def ringTick (s : State) (n : Nat) : State :=
  let fed := s.rd LOG_CFG_SRC n == 7 && !isLead s && !s.flag LOG_STAT_SRC_LOST n
  match kvGet (fun _ => []) s.ring.waiting n with
  | [] => s
  | t :: rest =>
    if fed || ringDelayed s n then
      let s := { s with ring := { s.ring with waiting := kvSet (fun _ => []) s.ring.waiting n rest } }
      cycle (s.passChrono (t.1 + 10 * s.rd BRD_PRES_P)) [(n, t.2)]
    else s

/-! ### The rows of the table -/

/-- `ENCODER_SAMPLE` (R55): a sample taken at elapsed count `now`. -/
def execEncoderSample (m : Fin 2) (a b z : Bool) (now : Nat) (s : State) : Host.Outcome State Fault Refusal :=
  done (encoderSample (s.passTo now) m a b z)

/-- `CHRONO_LOG_TICK` (R469). -/
def execChronoLogTick (logs : BitVec 4) (s : State) : Host.Outcome State Fault Refusal := done (chronoTick s logs.toNat)

/-- `RING_LOG_TICK` (R392). -/
def execRingLogTick (n : Fin 4) (s : State) : Host.Outcome State Fault Refusal := done (ringTick s n)

/-- `MICROSTEP_ISSUE` (R157). -/
def execMicrostepIssue (a : Fin 4) (s : State) : Host.Outcome State Fault Refusal := done (microstepCycle s a)

end Sys2Proof.Machine
end

