-- ==== Sys2Proof/Machine/Bars.lean ====
section
/-! DEFINITION. Accesses that are no register accesses of the host: refused BAR0 accesses (R352), BAR2 (R31, R39, R437), an access
tunnelled over the ring as its target takes it (R395), and the end of a vector's holdoff (R380). -/

namespace Sys2Proof.Machine

/-! ### BAR0 and BAR2 -/

/-- A BAR0 access outside the limits of R352. -/
def badAccess (s : State) (k : BadAccess) : State :=
  match k with
  | .partialWrite => s.sat PCR_ERR_PARTIAL
  | .longWrite => s.sat PCR_ERR_LENGTH
  | .badRead => (s.sat PCR_ERR_LENGTH).out .readUR
  | .poisonedWrite => s.sat PCR_ERR_POISON

/-- Whether a byte of DRAM is lost to the staging range of a load in progress (R39). -/
def inStaging (s : State) (a : Nat) : Bool := loadRuns s && decide (s.hrn.stageLo ≤ a) && decide (a < s.hrn.stageHi)

/-- Bytes written through BAR2 from an offset, each where it may be (R31, R39). -/
def bar2Bytes (s : State) (a : Nat) : List Byte → State
  | [] => s
  | b :: t => bar2Bytes (if decide (a < s.board.dramSize) && !inStaging s a then s.setByte a b else s) (a + 1) t

/-- A BAR2 write (R31, R39, R437). -/
def bar2Write (s : State) (a : Nat) (l : List Byte) : State :=
  if inStandby s then s
  else
    let s' := bar2Bytes (dramUse s) a l
    if (List.range l.length).any fun i => inStaging s (a + i) then s'.sat HRN_REJ_SWAP_DISCARD else s'

/-- The bytes of a BAR2 read (R31, R437). -/
def bar2Data (s : State) (a : Nat) : Nat → List Byte
  | 0 => []
  | n + 1 => (if inStandby s || s.board.dramSize ≤ a then 0xFF else s.byte a) :: bar2Data s (a + 1) n

/-- A BAR2 read. -/
def bar2Read (s : State) (a n : Nat) : State :=
  (if inStandby s then s else dramUse s).out (.bar2Data (bar2Data s a n))

/-! ### Tunnelled accesses (R395, R399) -/

/-- A tunnelled access taken as a host access that arrives now, and its response; a quiesced `P12` sends none. -/
def tunTake (s : State) (h : RingHdr) (off : Nat) (data : Word) (write : Bool) : State :=
  let off := off / 4 * 4
  let x := if write then (writeAt s off data none, data) else readWord s off
  if ringSends x.1 then ringOwn x.1 (portToLead x.1) 7 false h.src.toNat (tunAnswer 0 x.2.toNat) else x.1

/-- A TUN_REQ frame (R395): followers only. -/
def tunReq (s : State) (h : RingHdr) (off : Nat) (data : Word) (write : Bool) : State :=
  ringIn s h 6 (tunBlocks off data.toNat write) fun s => if isLead s then s else tunTake s h off data write

/-! ### Holdoffs (R380) -/

/-- The holdoff of vector `v` ends: a due message is sent (R380); while `P11` is quiesced or unloaded it stays due (R46, R379). -/
def holdoffEnd (s : State) (v : Nat) : State :=
  if !s.flag EVT_VSTAT_HOLDOFF v then s
  else
    let s := s.wr EVT_VSTAT_HOLDOFF 0 v
    if s.flag EVT_VSTAT_DUE v && s.active 11 then sendVector (s.wr EVT_VSTAT_DUE 0 v) v else s

/-! ### The rows of the table -/

/-- `BAR0_BAD_ACCESS` (R352). -/
def execBar0BadAccess (k : BadAccess) (s : State) : Host.Outcome State Fault Refusal := done (badAccess s k)

/-- `BAR2_WRITE` (R31). -/
def execBar2Write (addr : BitVec 34) (data : List Byte) (s : State) : Host.Outcome State Fault Refusal := done (bar2Write s addr.toNat data)

/-- `BAR2_READ` (R31). -/
def execBar2Read (addr : BitVec 34) (len : Nat) (s : State) : Host.Outcome State Fault Refusal := done (bar2Read s addr.toNat len)

/-- `TUN_REQ_FRAME` (R395). -/
def execTunReqFrame (h : RingHdr) (off : BitVec 25) (data : Word) (write : Bool) (s : State) : Host.Outcome State Fault Refusal :=
  done (tunReq s h off.toNat data write)

/-- `HOLDOFF_END` (R380): the holdoff of a vector ends. -/
def execHoldoffEnd (v : Fin 64) (s : State) : Host.Outcome State Fault Refusal := done (holdoffEnd s v)

end Sys2Proof.Machine
end

