-- ==== Sys2Proof/Machine/Host.lean ====
section
/-! DEFINITION. The commands of the host that are accesses of one register of BAR0 (spec/17_host.md, R352): each row of the table with a
name of its own is the write, or the read, that its rule describes, made on the same terms as any other (Sys2Proof/Machine/Access.lean).
A row that names one field writes the register's other RW and RWL fields with the values that they hold. -/

namespace Sys2Proof.Machine

/-- The word that sets one field of the register at `off` and writes back the values of its RW and RWL fields. -/
def fieldWord (s : State) (f : Fld) (v i j : Nat) : Word :=
  let keep := match regRow (f.off i j) with
    | some r => s.get (f.off i j) &&& BitVec.ofNat 32 (r.rw ||| r.rwl)
    | none => 0
  BitVec.ofNat 32 (setBits keep.toNat f.lo f.w v)

/-- A host write of one field. -/
def hostField (s : State) (f : Fld) (v : Nat) (i : Nat := 0) (j : Nat := 0) : State := hostWrite s (f.off i j) (fieldWord s f v i j)

/-- A host write of a register. -/
def hostSet (s : State) (f : Fld) (v : Word) (i : Nat := 0) (j : Nat := 0) : State := hostWrite s (f.off i j) v

/-! ### Any register -/

/-- A host write of one register, or of two consecutive ones in ascending order by a write of 8 bytes (R352). -/
def hostWrites (s : State) (off : Nat) (v : Word) (hi : Option Word) : State :=
  match hi with
  | some w => if off % 4 != 0 then s.sat PCR_ERR_PARTIAL else hostWrite (hostWrite s off v) (off + 4) w
  | none => hostWrite s off v

/-- `REGISTER_WRITE` (R9, R352): 4 bytes, or 8 with `hi`. -/
def execRegisterWrite (off : BitVec 25) (v : Word) (hi : Option Word) (s : State) : Host.Outcome State Fault Refusal :=
  done (hostWrites s off.toNat v hi)

/-- `WIDE_READ_CAPTURE` (R8, R352): a read of `more` registers after the first. -/
def execWideReadCapture (off : BitVec 25) (more : Fin 4) (s : State) : Host.Outcome State Fault Refusal :=
  done (hostRead s off.toNat (more + 1))

/-- `RC_FIELD_READ` (R9, R11, R352): a read of `more` registers after the first. -/
def execRcFieldRead (off : BitVec 25) (more : Fin 4) (s : State) : Host.Outcome State Fault Refusal := done (hostRead s off.toNat (more + 1))

/-! ### Harness -/

/-- `LOAD` (R39, R40). -/
def execLoad (s : State) : Host.Outcome State Fault Refusal := done (hostSet s HRN_CMD 1)

/-- `COMMIT` (R45). -/
def execCommit (s : State) : Host.Outcome State Fault Refusal := done (hostSet s HRN_CMD 2)

/-- `ABORT` (R41). -/
def execAbort (s : State) : Host.Outcome State Fault Refusal := done (hostSet s HRN_CMD 3)

/-- `PANEL_RESET` (R464). -/
def execPanelReset (p : Fin 16) (s : State) : Host.Outcome State Fault Refusal := done (hostSet s HRN_CMD (BitVec.ofNat 32 (4 + 256 * p)))

/-- `CLEAR_ERROR` (R40). -/
def execClearError (s : State) : Host.Outcome State Fault Refusal := done (hostSet s HRN_CMD 5)

/-! ### The Log -/

/-- `LOG_PRESET` (R61). -/
def execLogPreset (n : Fin 4) (hi : Word) (s : State) : Host.Outcome State Fault Refusal := done (hostSet s LOG_PRESET_HI hi n)

/-- `LOG_SRC_WRITE` (R468): in the swap of `P0` the write is one of its payload (R35); else it is a host's, which the lock refuses
(R10, notes/assumptions/23.md). -/
def execLogSrcWrite (n : Fin 4) (v : Word) (s : State) : Host.Outcome State Fault Refusal :=
  done (if s.swapping 0 then logCfgTake s n v else hostSet s LOG_CFG v n)

/-- `TICKDIV_WRITE` (R469). -/
def execTickdivWrite (n : Fin 4) (v : Word) (s : State) : Host.Outcome State Fault Refusal := done (hostSet s LOG_TICKDIV v n)

/-- `PITCH_WRITE` (R66). -/
def execPitchWrite (n : Fin 4) (v : Word) (s : State) : Host.Outcome State Fault Refusal := done (hostSet s LOG_LG_PITCH_FRAC v n)

/-- `LINE_GEN_START` (R65). -/
def execLineGenStart (n : Fin 4) (s : State) : Host.Outcome State Fault Refusal := done (hostField s LOG_LG_CTRL_RUN 1 n)

/-- `LINE_GEN_STOP` (R65). -/
def execLineGenStop (n : Fin 4) (s : State) : Host.Outcome State Fault Refusal := done (hostField s LOG_LG_CTRL_RUN 0 n)

/-- `WP_POS_APPLY` (R69). -/
def execWpPosApply (i : Fin 128) (hi : Word) (s : State) : Host.Outcome State Fault Refusal := done (hostSet s LOG_WP_POS_HI hi i)

/-- `WP_MODE_WRITE` (R69). -/
def execWpModeWrite (i : Fin 128) (v : Word) (s : State) : Host.Outcome State Fault Refusal := done (hostSet s LOG_WP_CTRL v i)

/-- `CHRONO_SET` (R74). -/
def execChronoSet (hi : Word) (s : State) : Host.Outcome State Fault Refusal := done (hostSet s LOG_CHRONO_SET_HI hi)

/-! ### Channels, lanes and heads -/

/-- `CHANNEL_ENABLE` (R93). -/
def execChannelEnable (c : Fin 12) (s : State) : Host.Outcome State Fault Refusal := done (hostField s SNS_CH_CFG_EN 1 c)

/-- `CHANNEL_DISABLE` (R99). -/
def execChannelDisable (c : Fin 12) (s : State) : Host.Outcome State Fault Refusal := done (hostField s SNS_CH_CFG_EN 0 c)

/-- The word of a head command (R90). -/
def headWord (op : Nat) (h : Fin 4) (addr : Nat) : Word := BitVec.ofNat 32 (op * 2 ^ 30 + h * 2 ^ 28 + addr)

/-- `HEAD_WRITE` (R90). -/
def execHeadWrite (l : Fin 8) (head : Fin 4) (addr : BitVec 12) (s : State) : Host.Outcome State Fault Refusal :=
  done (hostSet s SNS_HCMD (headWord 1 head addr.toNat) l)

/-- `HEAD_READ` (R90). -/
def execHeadRead (l : Fin 8) (head : Fin 4) (addr : BitVec 12) (s : State) : Host.Outcome State Fault Refusal :=
  done (hostSet s SNS_HCMD (headWord 2 head addr.toNat) l)

/-- `RESET_HEAD` (R90). -/
def execResetHead (l : Fin 8) (head : Fin 4) (s : State) : Host.Outcome State Fault Refusal := done (hostSet s SNS_HCMD (headWord 3 head 0) l)

/-- `LANE_ENABLE` (R102). -/
def execLaneEnable (l : Fin 8) (s : State) : Host.Outcome State Fault Refusal := done (hostField s SNS_LANE_CTRL_EN 1 l)

/-- `LANE_RETRAIN` (R102). -/
def execLaneRetrain (l : Fin 8) (s : State) : Host.Outcome State Fault Refusal := done (hostField s SNS_LANE_CTRL_RETRAIN 1 l)

/-- `EXPOSURE_WRITE` (R88). -/
def execExposureWrite (c : Fin 12) (short : Bool) (v : Word) (s : State) : Host.Outcome State Fault Refusal :=
  done (hostSet s (if short then SNS_EXP_SHORT else SNS_EXP_LONG) v c)

/-! ### Correction, geometry and views -/

/-- `CAPTURE_START` (R120). -/
def execCaptureStart (ch : Fin 16) (white force : Bool) (s : State) : Host.Outcome State Fault Refusal :=
  done (hostSet s IPC_CAP_CTRL (BitVec.ofNat 32 (2 ^ 31 + (if force then 2 ^ 29 else 0) + (if white then 2 ^ 28 else 0) + ch * 2 ^ 16)))

/-- `CAPTURE_ABORT` (R122). -/
def execCaptureAbort (s : State) : Host.Outcome State Fault Refusal := done (hostSet s IPC_CAP_CTRL 0x40000000)

/-- `WARM_RESTART` (R127). -/
def execWarmRestart (c : Fin 12) (s : State) : Host.Outcome State Fault Refusal := done (hostField s IPC_WARM_RESTART 1 c)

/-- `SHADING_WINDOW_WRITE` (R117). -/
def execShadingWindowWrite (off : BitVec 22) (v : Word) (s : State) : Host.Outcome State Fault Refusal :=
  done (hostWrite s (0x1400000 + off.toNat) v)

/-- `IPC_PARAM_WRITE` (R130). -/
def execIpcParamWrite (off : BitVec 25) (v : Word) (s : State) : Host.Outcome State Fault Refusal := done (hostWrite s off.toNat v)

/-- `VIEW_FLUSH` (R145). -/
def execViewFlush (v : Fin 64) (s : State) : Host.Outcome State Fault Refusal := done (hostField s IPG_VIEW_CFG_FLUSH 1 v)

/-- `FIR_WRITE` (R140). -/
def execFirWrite (p : Fin 64) (k : Fin 4) (v : Word) (s : State) : Host.Outcome State Fault Refusal := done (hostSet s IPG_FIR v p k)

/-- `TAGGED_WRITE` (R150, R151). -/
def execTaggedWrite (off : BitVec 25) (v : Word) (s : State) : Host.Outcome State Fault Refusal := done (hostWrite s off.toNat v)

/-! ### Axes -/

/-- `AXIS_STOP` (R158). -/
def execAxisStop (a : Fin 4) (s : State) : Host.Outcome State Fault Refusal := done (hostField s AXS_CTRL_STOP 1 a)

/-- `AXIS_HOME` (R167). -/
def execAxisHome (a : Fin 4) (s : State) : Host.Outcome State Fault Refusal := done (hostField s AXS_CTRL_HOME 1 a)

/-- `AXIS_MODE_WRITE` (R158). -/
def execAxisModeWrite (a m : Fin 4) (s : State) : Host.Outcome State Fault Refusal := done (hostField s AXS_CTRL_MODE m a)

/-- `AXIS_ENABLE` (R183). -/
def execAxisEnable (a : Fin 4) (s : State) : Host.Outcome State Fault Refusal := done (hostField s AXS_CTRL_EN 1 a)

/-- `TARGET_WRITE` (R166). -/
def execTargetWrite (a : Fin 4) (v : Word) (s : State) : Host.Outcome State Fault Refusal := done (hostSet s AXS_TARGET v a)

/-- `DMAX_WRITE` (R172). -/
def execDmaxWrite (a : Fin 4) (jmax : Bool) (v : Word) (s : State) : Host.Outcome State Fault Refusal :=
  done (hostSet s (if jmax then AXS_JMAX else AXS_DMAX) v a)

/-- `LINE_GRID_WRITE` (R170). -/
def execLineGridWrite (a : Fin 4) (origin : Bool) (v : Word) (s : State) : Host.Outcome State Fault Refusal :=
  done (hostSet s (if origin then AXS_LINE_ORIGIN else AXS_LINE_PITCH) v a)

/-- `OFFSET_CLEAR` (R182). -/
def execOffsetClear (a : Fin 4) (s : State) : Host.Outcome State Fault Refusal := done (hostField s AXS_OFFS_CFG_CLEAR 1 a)

/-- `STALL_CLEAR` (R183). -/
def execStallClear (a : Fin 4) (s : State) : Host.Outcome State Fault Refusal := done (hostSet s AXS_SUP_STAT 0x80000000 a)

/-! ### Emitter and histograms -/

/-- `EMITTER_ARM` (R210). -/
def execEmitterArm (s : State) : Host.Outcome State Fault Refusal := done (hostSet s RGE_CTRL 0x80000000)

/-- `EMITTER_DISARM` (R210). -/
def execEmitterDisarm (s : State) : Host.Outcome State Fault Refusal := done (hostSet s RGE_CTRL 0x40000000)

/-- `FREEZE_SET` (R231). -/
def execFreezeSet (s : State) : Host.Outcome State Fault Refusal := done (hostField s RGH_CTRL_FREEZE 1)

/-- `FREEZE_CLEAR` (R231). -/
def execFreezeClear (s : State) : Host.Outcome State Fault Refusal := done (hostField s RGH_CTRL_FREEZE 0)

/-! ### Illumination -/

/-- `CONV_ENABLE` (R268). -/
def execConvEnable (s : State) : Host.Outcome State Fault Refusal := done (hostField s ILU_CONV_CTRL_EN 1)

/-- `LAMP_OFF_WRITE` (R269). -/
def execLampOffWrite (off : Bool) (s : State) : Host.Outcome State Fault Refusal := done (hostField s ILU_CTRL_LAMP_OFF (if off then 1 else 0))

/-- `LAMP_CLR` (R269). -/
def execLampClr (s : State) : Host.Outcome State Fault Refusal := done (hostField s ILU_CTRL_LAMP_CLR 1)

/-- `DISS_CLR` (R270). -/
def execDissClr (s : State) : Host.Outcome State Fault Refusal := done (hostField s ILU_CTRL_DISS_CLR 1)

/-- `SHORT_TEST` (R282). -/
def execShortTest (s : State) : Host.Outcome State Fault Refusal := done (hostField s ILU_CTRL_SHORT_TEST 1)

/-- `PE_START` (R273). -/
def execPeStart (e : Fin 16) (s : State) : Host.Outcome State Fault Refusal := done (hostField s ILU_PE_CFG_RUN 1 e)

/-- `PE_STOP` (R272). -/
def execPeStop (e : Fin 16) (s : State) : Host.Outcome State Fault Refusal := done (hostField s ILU_PE_CFG_RUN 0 e)

/-- `CHAIN_SEND` (R280). -/
def execChainSend (ch : Fin 2) (s : State) : Host.Outcome State Fault Refusal := done (hostField s ILU_SW_CTRL_SEND 1 ch)

/-! ### Front end and converters -/

/-- `SWTRIG_REGULAR` (R313). -/
def execSwtrigRegular (cv : Fin 2) (s : State) : Host.Outcome State Fault Refusal := done (hostField s CNV_CTRL_SWTRIG_R 1 cv)

/-- `SWTRIG_INJECTED` (R313). -/
def execSwtrigInjected (cv : Fin 2) (s : State) : Host.Outcome State Fault Refusal := done (hostField s CNV_CTRL_SWTRIG_I 1 cv)

/-- `RANGE_WRITE` (R291). -/
def execRangeWrite (k : Fin 32) (r : Fin 16) (s : State) : Host.Outcome State Fault Refusal := done (hostField s AFE_SU_IN_RANGE r k)

/-- `TS_UNLATCH` (R305). -/
def execTsUnlatch (m : BitVec 16) (s : State) : Host.Outcome State Fault Refusal := done (hostSet s AFE_TS_CLR (m.setWidth 32))

/-- `POLY_APPLY` (R301). -/
def execPolyApply (m : BitVec 8) (s : State) : Host.Outcome State Fault Refusal := done (hostSet s AFE_POLY_APPLY (m.setWidth 32))

/-- `CONVERTER_DISABLE` (R323). -/
def execConverterDisable (cv : Fin 2) (s : State) : Host.Outcome State Fault Refusal := done (hostField s CNV_CTRL_EN 0 cv)

/-! ### Queues -/

/-- `QUEUE_POP` (R335): the four words of the pop window. -/
def execQueuePop (q : Fin 64) (s : State) : Host.Outcome State Fault Refusal := done (hostRead s (0x1A00000 + 0x1000 * q) 4)

/-- `MARK` (R337). -/
def execMark (q : Fin 64) (s : State) : Host.Outcome State Fault Refusal := done (hostSet s QUE_CMD 1 q)

/-- `REWIND` (R338). -/
def execRewind (q : Fin 64) (s : State) : Host.Outcome State Fault Refusal := done (hostSet s QUE_CMD 2 q)

/-- `RELEASE` (R339). -/
def execRelease (q : Fin 64) (n : BitVec 16) (s : State) : Host.Outcome State Fault Refusal :=
  done (hostSet s QUE_CMD (BitVec.ofNat 32 (3 + 256 * n.toNat)) q)

/-- `FLUSH` (R342). -/
def execFlush (q : Fin 64) (s : State) : Host.Outcome State Fault Refusal := done (hostSet s QUE_CMD 4 q)

/-! ### Host link -/

/-- `DMA_TAIL_WRITE` (R355). -/
def execDmaTailWrite (ch : Fin 8) (v : Word) (s : State) : Host.Outcome State Fault Refusal := done (hostSet s PCR_DMA_TAIL v ch)

/-- `DMA_ENABLE` (R356). -/
def execDmaEnable (ch : Fin 8) (s : State) : Host.Outcome State Fault Refusal := done (hostField s PCR_DMA_CTRL_EN 1 ch)

/-- `DMA_DISABLE` (R357). -/
def execDmaDisable (ch : Fin 8) (s : State) : Host.Outcome State Fault Refusal := done (hostField s PCR_DMA_CTRL_EN 0 ch)

/-- `MSIX_UNMASK` (R358): a mask bit is written, that of a vector by a write of its control word, or the Function Mask by one of the
configuration space, which no stamp meets. Written 1 it masks. -/
def execMsixUnmask (v : Fin 64) (func mask : Bool) (s : State) : Host.Outcome State Fault Refusal :=
  done (if func then functionMask s mask else hostWrite s (0x1108000 + 16 * v + 12) (if mask then 1 else 0))

/-- `CINCH` (R363). -/
def execCinch (v : Word) (s : State) : Host.Outcome State Fault Refusal := done (hostSet s GLB_CINCH v)

/-- `CINCH_STAT_READ` (R363). -/
def execCinchStatRead (s : State) : Host.Outcome State Fault Refusal := done (hostRead s (GLB_CINCH_STAT.off 0 0) 1)

/-- `ALINE_CTRL_WRITE` (R366). -/
def execAlineCtrlWrite (v : Word) (s : State) : Host.Outcome State Fault Refusal := done (hostSet s GLB_ALINE_CTRL v)

/-- `ALINE_LINE_WRITE` (R366). -/
def execAlineLineWrite (v : Word) (s : State) : Host.Outcome State Fault Refusal := done (hostSet s GLB_ALINE_LINE v)

/-! ### Events and the ring -/

/-- `PENDING_CLEAR` (R382). -/
def execPendingClear (w : Fin 9) (m : Word) (s : State) : Host.Outcome State Fault Refusal := done (hostSet s EVT_PEND m w)

/-- `EVT_ENABLE_WRITE` (R381). -/
def execEvtEnableWrite (w : Fin 9) (v : Word) (s : State) : Host.Outcome State Fault Refusal := done (hostSet s EVT_EN v w)

/-- `RING_ENABLE` (R388). -/
def execRingEnable (s : State) : Host.Outcome State Fault Refusal := done (hostField s BRD_CTRL_EN 1)

/-- `RING_RETRAIN` (R388). -/
def execRingRetrain (s : State) : Host.Outcome State Fault Refusal := done (hostField s BRD_CTRL_RETRAIN 1)

/-- `TUN_READ` (R395): GO for a read. -/
def execTunRead (s : State) : Host.Outcome State Fault Refusal := done (hostSet s BRD_TUN_CMD 0x80000000)

/-- `TUN_WRITE` (R395): GO for a write. -/
def execTunWrite (s : State) : Host.Outcome State Fault Refusal := done (hostSet s BRD_TUN_CMD 0xC0000000)

/-! ### Calibration, logbook and security -/

/-- `CAL_START` (R402). -/
def execCalStart (s : State) : Host.Outcome State Fault Refusal := done (hostField s CAL_CTRL_START 1)

/-- `CAL_ABORT` (R407). -/
def execCalAbort (s : State) : Host.Outcome State Fault Refusal := done (hostField s CAL_CTRL_ABORT 1)

/-- `LOGBOOK_SAVE` (R415). -/
def execLogbookSave (s : State) : Host.Outcome State Fault Refusal := done (hostSet s LGB_CTRL 0x80000000)

/-- `RTC_SET` (R417). -/
def execRtcSet (v : Word) (s : State) : Host.Outcome State Fault Refusal := done (hostSet s LGB_RTC_SEC v)

/-- `FW_LOAD` (R423). -/
def execFwLoad (s : State) : Host.Outcome State Fault Refusal := done (hostField s SEC_CTRL_FW_LOAD 1)

/-- `SVN_COMMIT` (R424). -/
def execSvnCommit (s : State) : Host.Outcome State Fault Refusal := done (hostField s SEC_CTRL_SVN_COMMIT 1)

/-- `REG_ROOT` (R422): `otpOk` says whether OTP takes every word. -/
def execRegRoot (otpOk : Bool) (s : State) : Host.Outcome State Fault Refusal :=
  done (if otpOk then hostField s SEC_CTRL_REG_ROOT 1
        else secCtrl (if (stampNow s).isSome then s.sat GLB_ORDER_CNT_STAMP_IGN else s) (2 ^ 28) false)

/-- `LOCK_KORYR` (R422). -/
def execLockKoryr (s : State) : Host.Outcome State Fault Refusal := done (hostField s SEC_CTRL_LOCK_KORYR 1)

/-- `QUOTE` (R427). -/
def execQuote (s : State) : Host.Outcome State Fault Refusal := done (hostField s SEC_CTRL_QUOTE 1)

/-- `CHAL` (R429). -/
def execChal (s : State) : Host.Outcome State Fault Refusal := done (hostField s SEC_CTRL_CHAL 1)

/-- `UNLOCK` (R429). -/
def execUnlock (s : State) : Host.Outcome State Fault Refusal := done (hostField s SEC_CTRL_UNLOCK 1)

/-! ### Power -/

/-- `STANDBY_REQUEST` (R435): STANDBY written 1. -/
def execStandbyRequest (s : State) : Host.Outcome State Fault Refusal := done (hostField s PCR_PWR_CTRL_STANDBY 1)

/-- `WAKE_HOST` (R438): STANDBY written 0. -/
def execWakeHost (s : State) : Host.Outcome State Fault Refusal := done (hostField s PCR_PWR_CTRL_STANDBY 0)

end Sys2Proof.Machine
end

