-- ==== Sys2Proof/Machine/Reflex.lean ====
section
/-! DEFINITION. Writes at the reflex port (spec/17_host.md, R369 to R371): the command slots and their actions, and the wake that a
write to a slot brings in standby (R438). -/

namespace Sys2Proof.Machine

/-- The word that describes command slot `k`. -/
def slotWord (s : State) (k : Nat) : Nat := recordWord s (256 + k)

/-- The value of a command slot. -/
def putSlot (s : State) (k v : Nat) : State := { s with reflex := { s.reflex with slots := kvSet (fun _ => 0) s.reflex.slots k v } }

/-- A refused reflex action (R370). -/
def reflexRefuse (s : State) : State := s.sat PCR_REF_STAT_CMD_REF

/-- FIRE_FRAME (R249, R370): the Log stamp is that of ALOG, LINE_VALID is 0, the line a free value. -/
def fireFrame (s : State) (v : Nat) : State :=
  let x := startFrame s.used (v % 16) (s.rd RGH_FIX_CFG_ALOG) (s.free 32) false
  if x.2 then x.1 else reflexRefuse x.1

/-- STROBE with its data (R281, R370). -/
def reflexStrobe (s : State) (v : Nat) : Option State :=
  if s.quiesced 7 then none else strobeReq s (v % 2) (bitsOf v 8 8)

/-- EVENT (R370): the value latched with `PCR_REFLEX`. -/
def reflexEvent (s : State) (v : Nat) : State := raise (s.wr EVT_REFLEX_DATA_DATA v) 4

/-- The action of a command slot of function `f` on value `v`; the level slots act through the value that the slot holds. -/
def slotAction (s : State) (f v : Nat) : State :=
  match f with
  | 2 => fireFrame s v
  | 3 => (convertAction s (v % 2) (bitsOf v 1 1) 3).getD (reflexRefuse s)
  | 4 => applySet s (v % 64)
  | 5 => ((peStepAction s (v % 16)).map peFlush).getD (reflexRefuse s)
  | 6 => (reflexStrobe s v).getD (reflexRefuse s)
  | 8 => reflexEvent s v
  | _ => s

/-- Whether the port takes writes: `RDY` high (R371, R372). -/
def portReady (s : State) : Bool := s.active 15

/-- A write to command slot `k` (R370, R438): a NONE slot ignores it. -/
def slotWrite (s : State) (k v : Nat) : State :=
  let f := bitsOf (slotWord s k) 28 4
  let s := if f = 0 then s else slotAction (putSlot s k v) f v
  if s.flag PCR_WAKE_CFG_REFLEX_EN then wake s 5 else s

/-- A write of the port to entry `e` at a rising edge of `CLK` (R371, R372). -/
def reflexWrite (s : State) (e v : Nat) : State :=
  portEdge (match entrySlot s e with
    | some k => if portReady s then slotWrite s k v else s.sat PCR_REF_STAT_WR_IGN
    | none => s.sat PCR_REF_STAT_WR_IGN)

/-! ### The rows of the table: a write at the port, which the record in force gives its function -/

/-- `REFLEX_NONE` (R370). -/
def execReflexNone (e : Fin 256) (v : BitVec 16) (s : State) : Host.Outcome State Fault Refusal := done (reflexWrite s e v.toNat)

/-- `REFLEX_PAUSE_SCAN` (R370). -/
def execReflexPauseScan (e : Fin 256) (v : BitVec 16) (s : State) : Host.Outcome State Fault Refusal := done (reflexWrite s e v.toNat)

/-- `REFLEX_FIRE_FRAME` (R370). -/
def execReflexFireFrame (e : Fin 256) (v : BitVec 16) (s : State) : Host.Outcome State Fault Refusal := done (reflexWrite s e v.toNat)

/-- `REFLEX_CONVERT` (R370). -/
def execReflexConvert (e : Fin 256) (v : BitVec 16) (s : State) : Host.Outcome State Fault Refusal := done (reflexWrite s e v.toNat)

/-- `REFLEX_APPLY_SET` (R370). -/
def execReflexApplySet (e : Fin 256) (v : BitVec 16) (s : State) : Host.Outcome State Fault Refusal := done (reflexWrite s e v.toNat)

/-- `REFLEX_PE_STEP` (R370). -/
def execReflexPeStep (e : Fin 256) (v : BitVec 16) (s : State) : Host.Outcome State Fault Refusal := done (reflexWrite s e v.toNat)

/-- `REFLEX_STROBE` (R370). -/
def execReflexStrobe (e : Fin 256) (v : BitVec 16) (s : State) : Host.Outcome State Fault Refusal := done (reflexWrite s e v.toNat)

/-- `REFLEX_HAL` (R370). -/
def execReflexHal (e : Fin 256) (v : BitVec 16) (s : State) : Host.Outcome State Fault Refusal := done (reflexWrite s e v.toNat)

/-- `REFLEX_EVENT` (R370). -/
def execReflexEvent (e : Fin 256) (v : BitVec 16) (s : State) : Host.Outcome State Fault Refusal := done (reflexWrite s e v.toNat)

/-- `REFLEX_WRITE_IGNORED` (R371). -/
def execReflexWriteIgnored (e : Fin 256) (v : BitVec 16) (s : State) : Host.Outcome State Fault Refusal := done (reflexWrite s e v.toNat)

end Sys2Proof.Machine
end

