-- ==== Sys2Proof/Machine/Swap.lean ====
section
/-! DEFINITION. The end of a commit (spec/02_harness.md): payloads applied in dependency order (R34, R42), queues flushed (R48), domains
switched (R432), panels loaded and released (R45, R49), version and hash (R43). -/

namespace Sys2Proof.Machine

/-! ### The image's panels -/

/-- The sections of an image in dependency order (R42), through panels outside the image too. -/
def Image.inOrder (m : Image) (s : State) : List Section :=
  let dep (p q : Nat) : Bool := match m.secs.find? (·.panel == p) with
    | some x => x.deps.any (·.1 == q)
    | none => s.dependsOn p q
  (orderUp (leads dep) 16 (m.secs.map (·.panel))).flatMap fun p => m.secs.filter (·.panel == p)

/-- The words of a reflex record taken (R369). -/
def takeRecord (s : State) (ws : List Nat) : State :=
  { s with reflex := { s.reflex with record := (((List.range 272).zip ws).filter fun x => x.2 != 0) } }

/-- The payload of a section applied (R34, R369, R432). -/
def applyPayload (s : State) (x : Section) : State :=
  if x.panel = 14 then setDomains s (x.words.headD 0)
  else if x.panel = 15 then takeRecord s x.words
  else forEach x.writes s fun s w => payloadWrite s w.1 w.2

/-- Partition and spill region of a queue; one with SPILL 0 has no spill region, wherever its base points (R467,
notes/assumptions/55.md). -/
def queueRegion (s : State) (q : Nat) : List Nat :=
  [s.rd QUE_PART_BASE q, s.rd QUE_PART_SIZE q, s.rd QUE_SPILL_SIZE_SPILL q]
    ++ (if s.rd QUE_SPILL_SIZE_SPILL q == 0 then [] else [s.rd QUE_SPILL_BASE_BASE q])

/-- The queues whose partition or spill region differs from that in `old` flushed (R48). -/
def flushChanged (old s : State) : State :=
  forEach (List.range 64) s fun s q => if queueRegion old q == queueRegion s q then s else qFlush s q

/-! ### Version, hash and boot (R43, R44) -/

/-- The version and the hash of the image that the commit leaves. -/
def recordHarness (s : State) (m : Image) : State :=
  let signed := (m.bytes.toList).take m.sigOff
  let s := s.wr HRN_VERSION_VERSION m.version
  let s := setWindow s (HRN_HASH_HASH.off 0 0) (shake256 signed)
  if s.hrn.boot then s.wr HRN_STAT_BOOT s.hrn.src else s

/-! ### Release (R45, R46, R49) -/

/-- A panel of the image released; the first load of `P0` is no jump (R468). -/
def releaseNew (s : State) (p : Nat) : State :=
  if !wholeDeps s p then s.setBit GLB_PANEL_STAT_QUIESCED p
  else if p == 0 && !s.hrn.targets.contains 0 then s
  else resumePanel s p

/-- The dependents, and the panels held for a dependency, whose dependencies are loaded again, in dependency order. -/
def releaseDependents (s : State) : State :=
  let l := orderUp (leads s.dependsOn) 16 (panelsWith fun p => s.loaded p && s.quiesced p && wholeDeps s p)
  forEach l s releasePanel

/-- The payloads of the image have been applied, and the commit ends (R42, R43, R45, R48); one that holds `P2` waits for the
initialisation of the shading store (R118). -/
def swapDone (s : State) : State :=
  let m := imageOf s.hrn.image
  let secs := m.inOrder s
  let named := secs.map (·.panel)
  if loadState s != 5 || (s.hrn.storeBusy && named.contains 2) then s
  else
    let old := s
    let s := forEach secs s applyPayload
    let s := if s.hrn.targets.contains 14 && !named.contains 14 then setDomains s 0xFFFFFFFF else s
    let s := if s.hrn.targets.contains 10 && named.contains 10 then flushChanged old s else s
    let s := forEach secs s fun s x => loadPanel s x.panel x.ver x.deps (!s.hrn.targets.contains x.panel)
    let s := recordHarness s m
    let s := s.wr HRN_STAT_STATE 6
    let s := forEach named s releaseNew
    let s := releaseDependents s
    let s := { s.wr HRN_STAT_STATE 0 with
               hrn := { s.hrn with image := [], asked := [], targets := [], drops := [], quiTarget := [], order := [], boot := false, bootSlots := [] } }
    raise (refreshAllProds s) 0

/-- The initialisation of the shading store ends (R118). -/
def storeReady (s : State) : State := { s with hrn := { s.hrn with storeBusy := false } }

/-! ### The rows of the table -/

/-- `SWAP_DONE` (R42). -/
def execSwapDone (s : State) : Host.Outcome State Fault Refusal := done (swapDone s)

/-- `SHADING_INIT_DONE` (R118). -/
def execShadingInitDone (s : State) : Host.Outcome State Fault Refusal := done (storeReady s)

end Sys2Proof.Machine
end

