-- ==== Sys2Proof/Machine/Dispatch.lean ====
section
/-! DEFINITION. The dispatch of a command to its meaning: one arm per constructor of `Instr`, in their order. -/

namespace Sys2Proof.Machine

/-- The effect of a command on everything but the queue of commands. -/
def exec (i : Instr) (s : State) : Host.Outcome State Fault Refusal :=
  match i with
  | .registerWrite off v hi => Sys2Proof.Machine.execRegisterWrite off v hi s
  | .wideReadCapture off more => Sys2Proof.Machine.execWideReadCapture off more s
  | .rcFieldRead off more => Sys2Proof.Machine.execRcFieldRead off more s
  | .bar0BadAccess k => Sys2Proof.Machine.execBar0BadAccess k s
  | .bar2Write addr data => Sys2Proof.Machine.execBar2Write addr data s
  | .bar2Read addr len => Sys2Proof.Machine.execBar2Read addr len s
  | .load => Sys2Proof.Machine.execLoad s
  | .commit => Sys2Proof.Machine.execCommit s
  | .abort => Sys2Proof.Machine.execAbort s
  | .panelReset p => Sys2Proof.Machine.execPanelReset p s
  | .clearError => Sys2Proof.Machine.execClearError s
  | .fetchDone flashOk => Sys2Proof.Machine.execFetchDone flashOk s
  | .verifyDone => Sys2Proof.Machine.execVerifyDone s
  | .panelQuiesced p => Sys2Proof.Machine.execPanelQuiesced p s
  | .quiesceTimeout => Sys2Proof.Machine.execQuiesceTimeout s
  | .swapDone => Sys2Proof.Machine.execSwapDone s
  | .encoderSample m a b z now => Sys2Proof.Machine.execEncoderSample m a b z now s
  | .chronoLogTick logs => Sys2Proof.Machine.execChronoLogTick logs s
  | .logPreset n hi => Sys2Proof.Machine.execLogPreset n hi s
  | .logSrcWrite n v => Sys2Proof.Machine.execLogSrcWrite n v s
  | .tickdivWrite n v => Sys2Proof.Machine.execTickdivWrite n v s
  | .pitchWrite n v => Sys2Proof.Machine.execPitchWrite n v s
  | .lineGenStart n => Sys2Proof.Machine.execLineGenStart n s
  | .lineGenStop n => Sys2Proof.Machine.execLineGenStop n s
  | .wpPosApply k hi => Sys2Proof.Machine.execWpPosApply k hi s
  | .wpModeWrite k v => Sys2Proof.Machine.execWpModeWrite k v s
  | .chronoSet hi => Sys2Proof.Machine.execChronoSet hi s
  | .logPathTimeout n => Sys2Proof.Machine.execLogPathTimeout n s
  | .settleLineStart c => Sys2Proof.Machine.execSettleLineStart c s
  | .lineEventEdge c => Sys2Proof.Machine.execLineEventEdge c s
  | .templateEnd c => Sys2Proof.Machine.execTemplateEnd c s
  | .channelEnable c => Sys2Proof.Machine.execChannelEnable c s
  | .channelDisable c => Sys2Proof.Machine.execChannelDisable c s
  | .headWrite l head addr => Sys2Proof.Machine.execHeadWrite l head addr s
  | .headRead l head addr => Sys2Proof.Machine.execHeadRead l head addr s
  | .resetHead l head => Sys2Proof.Machine.execResetHead l head s
  | .headReadTimeout l => Sys2Proof.Machine.execHeadReadTimeout l s
  | .upstreamPacket l blocks => Sys2Proof.Machine.execUpstreamPacket l blocks s
  | .lineCloseTimeout c => Sys2Proof.Machine.execLineCloseTimeout c s
  | .laneEnable l => Sys2Proof.Machine.execLaneEnable l s
  | .laneRetrain l => Sys2Proof.Machine.execLaneRetrain l s
  | .laneCdrLock l => Sys2Proof.Machine.execLaneCdrLock l s
  | .laneBlockLock l => Sys2Proof.Machine.execLaneBlockLock l s
  | .laneEyescanDone l eye => Sys2Proof.Machine.execLaneEyescanDone l eye s
  | .laneWeakRetry l => Sys2Proof.Machine.execLaneWeakRetry l s
  | .laneEyeRescan l eye => Sys2Proof.Machine.execLaneEyeRescan l eye s
  | .laneLossOfLock l => Sys2Proof.Machine.execLaneLossOfLock l s
  | .laneRelock l => Sys2Proof.Machine.execLaneRelock l s
  | .laneRelockTimeout l => Sys2Proof.Machine.execLaneRelockTimeout l s
  | .exposureWrite c short v => Sys2Proof.Machine.execExposureWrite c short v s
  | .inlineLineProcess => Sys2Proof.Machine.execInlineLineProcess s
  | .memoryPathTake => Sys2Proof.Machine.execMemoryPathTake s
  | .captureStart ch white force => Sys2Proof.Machine.execCaptureStart ch white force s
  | .captureAbort => Sys2Proof.Machine.execCaptureAbort s
  | .warmRestart c => Sys2Proof.Machine.execWarmRestart c s
  | .shadingWindowWrite off v => Sys2Proof.Machine.execShadingWindowWrite off v s
  | .ipcParamWrite off v => Sys2Proof.Machine.execIpcParamWrite off v s
  | .shadingInitDone => Sys2Proof.Machine.execShadingInitDone s
  | .viewFlush v => Sys2Proof.Machine.execViewFlush v s
  | .firWrite p k v => Sys2Proof.Machine.execFirWrite p k v s
  | .taggedWrite off v => Sys2Proof.Machine.execTaggedWrite off v s
  | .plannerTick => Sys2Proof.Machine.execPlannerTick s
  | .microstepIssue a => Sys2Proof.Machine.execMicrostepIssue a s
  | .axisStop a => Sys2Proof.Machine.execAxisStop a s
  | .axisHome a => Sys2Proof.Machine.execAxisHome a s
  | .axisModeWrite a m => Sys2Proof.Machine.execAxisModeWrite a m s
  | .axisEnable a => Sys2Proof.Machine.execAxisEnable a s
  | .targetWrite a v => Sys2Proof.Machine.execTargetWrite a v s
  | .dmaxWrite a jmax v => Sys2Proof.Machine.execDmaxWrite a jmax v s
  | .switchEdge a la lb now => Sys2Proof.Machine.execSwitchEdge a la lb now s
  | .lineGridWrite a origin v => Sys2Proof.Machine.execLineGridWrite a origin v s
  | .chopperBlankEnd a coil => Sys2Proof.Machine.execChopperBlankEnd a coil s
  | .chopperThreshold a coil => Sys2Proof.Machine.execChopperThreshold a coil s
  | .chopperMaxon a coil => Sys2Proof.Machine.execChopperMaxon a coil s
  | .chopperOffEnd a coil => Sys2Proof.Machine.execChopperOffEnd a coil s
  | .fastDecayEnd a coil => Sys2Proof.Machine.execFastDecayEnd a coil s
  | .overcurrent a coil => Sys2Proof.Machine.execOvercurrent a coil s
  | .adaptPassageEnd a coil sumMeas => Sys2Proof.Machine.execAdaptPassageEnd a coil sumMeas s
  | .holdCurrentTimeout a => Sys2Proof.Machine.execHoldCurrentTimeout a s
  | .offsetClear a => Sys2Proof.Machine.execOffsetClear a s
  | .stallClear a => Sys2Proof.Machine.execStallClear a s
  | .axisEncoderEdge a ea eb now => Sys2Proof.Machine.execAxisEncoderEdge a ea eb now s
  | .emitterArm => Sys2Proof.Machine.execEmitterArm s
  | .emitterDisarm => Sys2Proof.Machine.execEmitterDisarm s
  | .armHoldoffEnd => Sys2Proof.Machine.execArmHoldoffEnd s
  | .safeOkTimer => Sys2Proof.Machine.execSafeOkTimer s
  | .phaseStart => Sys2Proof.Machine.execPhaseStart s
  | .steerStrobe level => Sys2Proof.Machine.execSteerStrobe level s
  | .shotFire => Sys2Proof.Machine.execShotFire s
  | .frameEnd => Sys2Proof.Machine.execFrameEnd s
  | .safeLow => Sys2Proof.Machine.execSafeLow s
  | .emitFaultLow held => Sys2Proof.Machine.execEmitFaultLow held s
  | .exposureBinEnd => Sys2Proof.Machine.execExposureBinEnd s
  | .blackoutEnd => Sys2Proof.Machine.execBlackoutEnd s
  | .startEdge t => Sys2Proof.Machine.execStartEdge t s
  | .startWindowExpiry => Sys2Proof.Machine.execStartWindowExpiry s
  | .timingEdge k t => Sys2Proof.Machine.execTimingEdge k t s
  | .measurementClose => Sys2Proof.Machine.execMeasurementClose s
  | .coarseAnalysisDone => Sys2Proof.Machine.execCoarseAnalysisDone s
  | .zoomAnalysisDone => Sys2Proof.Machine.execZoomAnalysisDone s
  | .freezeSet => Sys2Proof.Machine.execFreezeSet s
  | .freezeClear => Sys2Proof.Machine.execFreezeClear s
  | .calHit cell t => Sys2Proof.Machine.execCalHit cell t s
  | .calConverterDone => Sys2Proof.Machine.execCalConverterDone s
  | .calTableStale k => Sys2Proof.Machine.execCalTableStale k s
  | .rateBinEnd => Sys2Proof.Machine.execRateBinEnd s
  | .sinkPeriodStart k => Sys2Proof.Machine.execSinkPeriodStart k s
  | .sinkOnPhase k => Sys2Proof.Machine.execSinkOnPhase k s
  | .sinkMeasure k mv reg => Sys2Proof.Machine.execSinkMeasure k mv reg s
  | .headroomUpdate => Sys2Proof.Machine.execHeadroomUpdate s
  | .convEnable => Sys2Proof.Machine.execConvEnable s
  | .convPgood => Sys2Proof.Machine.execConvPgood s
  | .convOvervoltage => Sys2Proof.Machine.execConvOvervoltage s
  | .convFault cause => Sys2Proof.Machine.execConvFault cause s
  | .lampOffWrite off => Sys2Proof.Machine.execLampOffWrite off s
  | .lampClr => Sys2Proof.Machine.execLampClr s
  | .dissBinEnd => Sys2Proof.Machine.execDissBinEnd s
  | .dissClr => Sys2Proof.Machine.execDissClr s
  | .shortTest => Sys2Proof.Machine.execShortTest s
  | .shortTestDone adj gnd => Sys2Proof.Machine.execShortTestDone adj gnd s
  | .peStart e => Sys2Proof.Machine.execPeStart e s
  | .peStop e => Sys2Proof.Machine.execPeStop e s
  | .peWaitEnd e units => Sys2Proof.Machine.execPeWaitEnd e units s
  | .chainSend ch => Sys2Proof.Machine.execChainSend ch s
  | .chainRefresh ch => Sys2Proof.Machine.execChainRefresh ch s
  | .chainReturn ch ret => Sys2Proof.Machine.execChainReturn ch ret s
  | .chainReturnTimeout ch => Sys2Proof.Machine.execChainReturnTimeout ch s
  | .chainGapEnd ch => Sys2Proof.Machine.execChainGapEnd ch s
  | .chainStrobeSend ch => Sys2Proof.Machine.execChainStrobeSend ch s
  | .awlPulse k mv reg => Sys2Proof.Machine.execAwlPulse k mv reg s
  | .sinkUnverified k => Sys2Proof.Machine.execSinkUnverified k s
  | .swtrigRegular cv => Sys2Proof.Machine.execSwtrigRegular cv s
  | .swtrigInjected cv => Sys2Proof.Machine.execSwtrigInjected cv s
  | .cnvTimerTrigger cv q => Sys2Proof.Machine.execCnvTimerTrigger cv q s
  | .triggerDelayEnd cv q => Sys2Proof.Machine.execTriggerDelayEnd cv q s
  | .settlingEnd cv => Sys2Proof.Machine.execSettlingEnd cv s
  | .conversionDone cv r => Sys2Proof.Machine.execConversionDone cv r s
  | .openWireSample cv mv => Sys2Proof.Machine.execOpenWireSample cv mv s
  | .openWirePulseEnd cv => Sys2Proof.Machine.execOpenWirePulseEnd cv s
  | .rangeWrite k r => Sys2Proof.Machine.execRangeWrite k r s
  | .excWaitResume cv => Sys2Proof.Machine.execExcWaitResume cv s
  | .pairJoinTimeout => Sys2Proof.Machine.execPairJoinTimeout s
  | .mainsEdge period => Sys2Proof.Machine.execMainsEdge period s
  | .mainsTimeout => Sys2Proof.Machine.execMainsTimeout s
  | .sourceStale t => Sys2Proof.Machine.execSourceStale t s
  | .tsUnlatch m => Sys2Proof.Machine.execTsUnlatch m s
  | .polyApply m => Sys2Proof.Machine.execPolyApply m s
  | .converterDisable cv => Sys2Proof.Machine.execConverterDisable cv s
  | .queuePop q => Sys2Proof.Machine.execQueuePop q s
  | .mark q => Sys2Proof.Machine.execMark q s
  | .rewind q => Sys2Proof.Machine.execRewind q s
  | .release q n => Sys2Proof.Machine.execRelease q n s
  | .flush q => Sys2Proof.Machine.execFlush q s
  | .spillWriteDone q n => Sys2Proof.Machine.execSpillWriteDone q n s
  | .spillReadDone q n => Sys2Proof.Machine.execSpillReadDone q n s
  | .dmaTailWrite ch v => Sys2Proof.Machine.execDmaTailWrite ch v s
  | .dmaDescFetch ch => Sys2Proof.Machine.execDmaDescFetch ch s
  | .dmaDescFetched ch w0 w1 => Sys2Proof.Machine.execDmaDescFetched ch w0 w1 s
  | .dmaFetchError ch e => Sys2Proof.Machine.execDmaFetchError ch e s
  | .dmaDataWrite ch q => Sys2Proof.Machine.execDmaDataWrite ch q s
  | .dmaDescComplete ch q => Sys2Proof.Machine.execDmaDescComplete ch q s
  | .dmaDeadline ch q => Sys2Proof.Machine.execDmaDeadline ch q s
  | .dmaEnable ch => Sys2Proof.Machine.execDmaEnable ch s
  | .dmaDisable ch => Sys2Proof.Machine.execDmaDisable ch s
  | .pcieLinkChange up l1 width speed => Sys2Proof.Machine.execPcieLinkChange up l1 width speed s
  | .msixUnmask v func mask => Sys2Proof.Machine.execMsixUnmask v func mask s
  | .cinch v => Sys2Proof.Machine.execCinch v s
  | .cinchStatRead => Sys2Proof.Machine.execCinchStatRead s
  | .alineCtrlWrite v => Sys2Proof.Machine.execAlineCtrlWrite v s
  | .alineLineWrite v => Sys2Proof.Machine.execAlineLineWrite v s
  | .reflexNone e v => Sys2Proof.Machine.execReflexNone e v s
  | .reflexPauseScan e v => Sys2Proof.Machine.execReflexPauseScan e v s
  | .reflexFireFrame e v => Sys2Proof.Machine.execReflexFireFrame e v s
  | .reflexConvert e v => Sys2Proof.Machine.execReflexConvert e v s
  | .reflexApplySet e v => Sys2Proof.Machine.execReflexApplySet e v s
  | .reflexPeStep e v => Sys2Proof.Machine.execReflexPeStep e v s
  | .reflexStrobe e v => Sys2Proof.Machine.execReflexStrobe e v s
  | .reflexHal e v => Sys2Proof.Machine.execReflexHal e v s
  | .reflexEvent e v => Sys2Proof.Machine.execReflexEvent e v s
  | .reflexWriteIgnored e v => Sys2Proof.Machine.execReflexWriteIgnored e v s
  | .reflexLogRead e clk => Sys2Proof.Machine.execReflexLogRead e clk s
  | .perst => Sys2Proof.Machine.execPerst s
  | .holdoffEnd v => Sys2Proof.Machine.execHoldoffEnd v s
  | .pendingClear w m => Sys2Proof.Machine.execPendingClear w m s
  | .evtEnableWrite w v => Sys2Proof.Machine.execEvtEnableWrite w v s
  | .ringEnable => Sys2Proof.Machine.execRingEnable s
  | .ringRetrain => Sys2Proof.Machine.execRingRetrain s
  | .ringPortTrained p step => Sys2Proof.Machine.execRingPortTrained p step s
  | .ringPortLoss p => Sys2Proof.Machine.execRingPortLoss p s
  | .enumFrame h next own => Sys2Proof.Machine.execEnumFrame h next own s
  | .enumTimeout => Sys2Proof.Machine.execEnumTimeout s
  | .measureFrame h m => Sys2Proof.Machine.execMeasureFrame h m s
  | .timeFrame h lead corr latency residence p => Sys2Proof.Machine.execTimeFrame h lead corr latency residence p s
  | .timeSend => Sys2Proof.Machine.execTimeSend s
  | .logFrame h log value start ticks => Sys2Proof.Machine.execLogFrame h log value start ticks s
  | .logFrameSend => Sys2Proof.Machine.execLogFrameSend s
  | .ringLogTick n => Sys2Proof.Machine.execRingLogTick n s
  | .codeFrame h family => Sys2Proof.Machine.execCodeFrame h family s
  | .codeHoldExpiry => Sys2Proof.Machine.execCodeHoldExpiry s
  | .tunReqFrame h off data write => Sys2Proof.Machine.execTunReqFrame h off data write s
  | .tunRspFrame h status data => Sys2Proof.Machine.execTunRspFrame h status data s
  | .eventFrame h source count chrono => Sys2Proof.Machine.execEventFrame h source count chrono s
  | .edgeFrame h f part frame stamp entries => Sys2Proof.Machine.execEdgeFrame h f part frame stamp entries s
  | .ringFrameBad h => Sys2Proof.Machine.execRingFrameBad h s
  | .tunRead => Sys2Proof.Machine.execTunRead s
  | .tunWrite => Sys2Proof.Machine.execTunWrite s
  | .tunTimeout => Sys2Proof.Machine.execTunTimeout s
  | .calStart => Sys2Proof.Machine.execCalStart s
  | .calAbort => Sys2Proof.Machine.execCalAbort s
  | .calStepDone m => Sys2Proof.Machine.execCalStepDone m s
  | .recordWriteDone ok => Sys2Proof.Machine.execRecordWriteDone ok s
  | .logbookSave => Sys2Proof.Machine.execLogbookSave s
  | .logbookPeriodicSave => Sys2Proof.Machine.execLogbookPeriodicSave s
  | .pfwAssert => Sys2Proof.Machine.execPfwAssert s
  | .rtcSet v => Sys2Proof.Machine.execRtcSet v s
  | .rtcStop => Sys2Proof.Machine.execRtcStop s
  | .fwLoad => Sys2Proof.Machine.execFwLoad s
  | .svnCommit => Sys2Proof.Machine.execSvnCommit s
  | .regRoot otpOk => Sys2Proof.Machine.execRegRoot otpOk s
  | .lockKoryr => Sys2Proof.Machine.execLockKoryr s
  | .quote => Sys2Proof.Machine.execQuote s
  | .quoteReady => Sys2Proof.Machine.execQuoteReady s
  | .chal => Sys2Proof.Machine.execChal s
  | .unlock => Sys2Proof.Machine.execUnlock s
  | .wdtWarn core => Sys2Proof.Machine.execWdtWarn core s
  | .watchdogExpiry core => Sys2Proof.Machine.execWatchdogExpiry core s
  | .porst newlyUp gpio12 => Sys2Proof.Machine.execPorst newlyUp gpio12 s
  | .wrst => Sys2Proof.Machine.execWrst s
  | .dramTrainingDone rate => Sys2Proof.Machine.execDramTrainingDone rate s
  | .standbyRequest => Sys2Proof.Machine.execStandbyRequest s
  | .d3hotEntry => Sys2Proof.Machine.execD3hotEntry s
  | .standbyEntryDone => Sys2Proof.Machine.execStandbyEntryDone s
  | .standbyTimeout => Sys2Proof.Machine.execStandbyTimeout s
  | .wakeHost => Sys2Proof.Machine.execWakeHost s
  | .wakeD0 => Sys2Proof.Machine.execWakeD0 s
  | .wakeGpio n rising => Sys2Proof.Machine.execWakeGpio n rising s
  | .wakeAlarm => Sys2Proof.Machine.execWakeAlarm s
  | .wakeComplete => Sys2Proof.Machine.execWakeComplete s
  | .d2dFault => Sys2Proof.Machine.execD2dFault s
  | .d2dRetrained => Sys2Proof.Machine.execD2dRetrained s
  | .thermalSample core field => Sys2Proof.Machine.execThermalSample core field s
  | .strobeReturn ch data ok => Sys2Proof.Machine.execStrobeReturn ch data ok s
  | .ringPortRetry p => Sys2Proof.Machine.execRingPortRetry p s
  | .upstreamPacketCut l blocks => Sys2Proof.Machine.execUpstreamPacketCut l blocks s
  | .pgoodLost => Sys2Proof.Machine.execPgoodLost s
  | .vledBelowVmax => Sys2Proof.Machine.execVledBelowVmax s

end Sys2Proof.Machine
end

