-- ==== Sys2Proof/Machine/Step.lean ====
section
/-! DEFINITION. One step of the block: the command at the front of the queue takes its effect; on an empty queue one evaluation cycle
of 5 ns passes (notes/assumptions/4.md). -/

namespace Sys2Proof.Machine

/-- What passes on an empty queue: an evaluation cycle, and the next conversion of a converter whose pass goes on. -/
def idle (s : State) : State :=
  forEach [0, 1] (s.pass 5) fun s cv => if (s.cvSt cv).regRun && (s.cvSt cv).phase == 0 then cvGo s cv else s

/-- One step. -/
def step (s : State) : Host.Outcome State Fault Refusal :=
  match s.pending with
  | [] => done (idle s)
  | c :: rest => exec c { s with pending := rest }

/-- The state with the command that a table word spells at the front of its queue; the table gives no row bits. -/
def State.withFetchWord (s : State) (nbits w : Nat) : State :=
  match decodeTableWord nbits w with
  | some c => { s with pending := c :: s.pending }
  | none => s

end Sys2Proof.Machine
end

