-- ==== Sys2Proof/Safety.lean ====
section
/-! DEFINITION. What claims about the block are stated in: the bits that the hard action lines and the messages may change at the end
of any command, the lines at rest, and what it is for a command to leave everything else alone. -/

namespace Sys2Proof.Safety

open Sys2Proof.Machine

/-- The outcome is a next state, and `P` holds of it. -/
def Answers {σ φ ρ : Type} (o : Host.Outcome σ φ ρ) (P : σ → Prop) : Prop :=
  match o with
  | .next t => P t
  | _ => False

/-- A host access at `off` reaches its block: the block responds (R30), and the link between the dies is up where the block stands on the
field die (R17). -/
abbrev Reaches (s : State) (off : Nat) : Prop := responds s off = true ∧ (s.pwr.d2dDown = false ∨ onFieldDie off = false)

/-- Source `n` has been raised once more (R375): its counter is one up, and its pending bit is set. -/
def Raised (n : Nat) (s t : State) : Prop := t.rd EVT_CNT n = (s.rd EVT_CNT n + 1) % 2 ^ 32 ∧ t.isPend n = true

/-- A saturating counter field has taken `n` more. -/
def Counted (f : Fld) (i : Nat) (n : Nat) (s t : State) : Prop := t.rd f i = min (s.rd f i + n) (2 ^ f.w - 1)

/-- Entry `e` of the reflex table is command slot `k`, of function `f`, and the port takes writes (R369, R371). -/
abbrev SlotOf (s : State) (e k f : Nat) : Prop := entrySlot s e = some k ∧ portReady s = true ∧ bitsOf (slotWord s k) 28 4 = f

/-- Converter `cv` runs and stands idle, with no trigger waiting, and the other converter is idle too. -/
abbrev CvIdle (s : State) (cv : Nat) : Prop :=
  cvOn s cv = true ∧ s.loaded 9 = true ∧ cvHeld s = false ∧ (s.cvSt cv).phase = 0 ∧ (s.cvSt cv).regRun = false ∧ (s.cvSt cv).injRun = false ∧
    (s.cvSt cv).rpend = false ∧ (s.cvSt cv).ipend = false ∧ (s.cvSt cv).delR = none ∧ (s.cvSt cv).delI = none ∧ (s.cvSt cv).redo = none ∧
    (s.cvSt cv).pair = false ∧ (s.cvSt (1 - cv)).phase = 0

/-- Converter `cv` runs the last entry of its regular pass, alone, with nothing that follows it, and the other converter is idle. -/
abbrev CvLast (s : State) (cv : Nat) : Prop :=
  cvOn s cv = true ∧ s.loaded 9 = true ∧ cvHeld s = false ∧ (s.cvSt cv).inj = false ∧ (s.cvSt cv).regRun = true ∧
    (s.cvSt cv).injRun = false ∧ (s.cvSt cv).rpend = false ∧ (s.cvSt cv).ipend = false ∧ (s.cvSt cv).redo = none ∧ (s.cvSt cv).pair = false ∧
    s.rd CNV_CTRL_RLEN cv < (s.cvSt cv).regNext ∧ s.flag CNV_CTRL_CONT cv = false ∧ (s.cvSt cv).entry < 32 ∧ (s.cvSt cv).bad = false ∧ (s.cvSt (1 - cv)).phase = 0

/-- The device hears a frame with header `h` (R387): it is on the ring, the port is trained, and the frame is neither its own nor worn out. -/
abbrev HearsFrame (s : State) (h : RingHdr) : Prop :=
  ringOn s = true ∧ portUp s h.port = true ∧ ringOwnSrc s h = false ∧ s.flag BRD_STAT_ID_CONFLICT = false

/-- The device takes a frame with header `h` (R387): it hears it, and the frame is for this device alone, or for all with a hop left. -/
abbrev TakesFrame (s : State) (h : RingHdr) : Prop :=
  HearsFrame s h ∧ ((s.ring.idTaken = true ∧ h.dest.toNat = s.rd BRD_STAT_ID ∧ h.bcast = false) ∨ (h.bcast = true ∧ h.hops ≠ 2047))

/-- The device's own ring frame (R386), out of port `p`, with the next SEQ of its type. -/
abbrev ownFrame (s : State) (p ty : Nat) (bcast : Bool) (dest : Nat) (payload : List Nat) : Out :=
  ringFrame p ty bcast dest (s.rd BRD_STAT_ID) 0 (ringNext s ty) payload

/-- The blocks of a packet (R94): START with the bytes `d0`, data blocks, and the block that ends or cuts it. -/
abbrev upBlocks (d0 : BitVec 56) (ds : List (BitVec 64)) (e : UpBlock) : List UpBlock := .ctrl 0x78 d0 :: ds.map .data ++ [e]

/-- The bytes that the START and the data blocks of a packet carry (R94). -/
abbrev upBytes (d0 : BitVec 56) (ds : List (BitVec 64)) : List Nat := blockBytes 7 d0.toNat ++ ds.flatMap fun d => blockBytes 8 d.toNat

/-- Lane `l` takes packets: `P1` is loaded, the lane UP, and no packet open on it. -/
abbrev TakesPackets (s : State) (l : Nat) : Prop := s.loaded 1 = true ∧ s.rd SNS_LANE_STAT_STATE l = 4 ∧ (s.laneSt l).rx = none

/-- The edge message of an edge wanted in slot `want` of lane `l` (R91, R92): symbol A with the head, the signal and the level, symbol B with
LEAD, in the slots that the lane gives it. -/
abbrev edgeMessage (s : State) (l h sig level want : Nat) : Out :=
  let x := edgeSlots s l want
  .laneEdge l x.2 (0xC0 + h % 4 * 16 + sig % 8 * 2 + level % 2) ((x.1 - x.2 - 2) * 16) x.1

/-- Both switch inputs of axis `a` read as they were last accepted. -/
abbrev SwitchesRest (s : State) (a : Nat) : Prop := (s.sw a 0).raw = (s.sw a 0).acc ∧ (s.sw a 1).raw = (s.sw a 1).acc

/-- The sample of axis `a` in which switch `sw` reads `level` and the other one as before. -/
abbrev switchSampled (a : Fin 4) (sw : Fin 2) (level : Bool) (now : Nat) (s : State) : Instr :=
  .switchEdge a (if sw = 0 then level else (s.sw a 0).acc) (if sw = 0 then (s.sw a 1).acc else level) now

/-- The targets of a commit of the fetched image (R45): the loaded panels that it names, or all of them where it is FULL. -/
def commitTargets (s : State) : List Nat :=
  let m := imageOf s.hrn.image
  panelsWith fun p => s.loaded p && (m.full || (m.secs.map (·.panel)).contains p)

/-- The panels that a commit of the fetched image quiesces, in order: the dependents of its targets, then these (R45). -/
def commitOrder (s : State) : List Nat :=
  dependentsOf s (commitTargets s) ++ orderDown (leads s.dependsOn) 16 (commitTargets s).reverse

/-- The commit of the fetched image names panel `p`, or it must quiesce for it as a target or a dependent (R45, R47). -/
abbrev CommitInvolves (s : State) (p : Nat) : Prop :=
  ((imageOf s.hrn.image).secs.map (·.panel)).contains p = true ∨ (commitTargets s).contains p = true ∨
    (dependentsOf s (commitTargets s)).contains p = true

/-- The bits of a field in its register. -/
def fieldMask (f : Fld) : Nat := (2 ^ f.w - 1) * 2 ^ f.lo

/-- The bits of the register at `off` that may change at the end of any command: the lines and what they do (R211, R269, R306, R378),
the counters and pending bits of the sources 114, 117, 118 and 166 that this raises (R375), the messages (R358, R380), and, from 0x1800000 on, the
histograms that an aborted frame clears (R244). The registers are `AFE_TS_STAT`, `EVT_HAL_STAT`, `EVT_RSTAT`, `RGE_STAT`, `RGH_STAT`,
`RGE_CODE`, `ILU_STAT`, `EVT_PEND` (words 3 and 5), `EVT_CNT`, `EVT_VSTAT` and the pending-bit array. -/
def settleMask (off : Nat) : Nat :=
  if off = 0xA0000C then fieldMask AFE_TS_STAT_SAFE_ACT
  else if off = 0xD00000 then 0xFFFFFFFF
  else if 0xD00020 ≤ off ∧ off < 0xD00030 then 0xFFFFFFFF
  else if off = 0x700004 then
    fieldMask RGE_STAT_ARMED + fieldMask RGE_STAT_BUSY + fieldMask RGE_STAT_INHIBIT_IN + fieldMask RGE_STAT_INHIBIT_TRIP
      + fieldMask RGE_STAT_ABORTED
  else if off = 0x800004 then fieldMask RGH_STAT_BUSY + fieldMask RGH_STAT_PASS
  else if off = 0x700010 then fieldMask RGE_CODE_FAMILY + fieldMask RGE_CODE_FALLBACK
  else if off = 0x900004 then fieldMask ILU_STAT_LAMP_TRIP
  else if off = 0xD0014C then 2 ^ (114 % 32) + 2 ^ (117 % 32) + 2 ^ (118 % 32)
  else if off = 0xD00154 then 2 ^ (166 % 32)
  else if off = 0xD021C8 ∨ off = 0xD021D4 ∨ off = 0xD021D8 ∨ off = 0xD02298 then
    0xFFFFFFFF
  else if 0xD00500 ≤ off ∧ off < 0xD00600 then 0xFFFFFFFF
  else if 0x1109000 ≤ off ∧ off < 0x1109008 then 0xFFFFFFFF
  else if 0x1800000 ≤ off then 0xFFFFFFFF
  else 0

/-- The registers, by the base of their rows, to which a write does more than set their fields (Sys2Proof/Machine/Access.lean): those with an
action, those of parameters that take force at a line (R130, R150), and the pending bits, where a raise meets the clear (R382). -/
def actingBases : List Nat :=
  [0x80, 0x100004, 0x200000, 0x200010, 0x200018, 0x200020, 0x20002C, 0x200308, 0x20030C, 0x201000, 0x201004, 0x201008, 0x300000,
   0x300014, 0x300018, 0x304000, 0x30400C, 0x400000, 0x400004, 0x400008, 0x40000C, 0x400010, 0x400020, 0x400040, 0x400044, 0x401000,
   0x501000, 0x502014, 0x502018, 0x50201C, 0x502020, 0x502024, 0x508000, 0x508004, 0x508008, 0x600004, 0x600008, 0x600020, 0x600038,
   0x60003C, 0x60008C, 0x600090, 0x6000C8, 0x700000, 0x700010, 0x800000, 0x801010, 0x900000, 0x90000C, 0x900020, 0x900100, 0x900104,
   0x900108, 0x900400, 0x904000, 0xA00000, 0xA00018, 0xA00020, 0xA00100, 0xB00000, 0xB00800, 0xC0000C, 0xC00018, 0xD00100, 0xD00140,
   0xE00000, 0xE00004, 0xE00018, 0xE0004C, 0xF00000, 0xF80000, 0xF80014, 0x1000000, 0x1100100, 0x1100120, 0x1101008]

/-- The registers, by the base of their rows, whose value follows from other state at the moment of a read. -/
def liveBases : List Nat :=
  [0x200, 0x200300, 0x200304, 0x200318, 0x20031C, 0x30001C, 0x801008, 0x801014, 0x900028, 0x90002C, 0x904004, 0xF80010, 0xF80014,
   0x1000080, 0x110C000, 0x110C400]

/-- The register at `off`, described by `r`, is a plain one that a host access reaches: a write sets its fields and does nothing else. -/
abbrev PlainReg (s : State) (off : Nat) (r : RegDesc) : Prop :=
  regRow off = some r ∧ off % 4 = 0 ∧ Reaches s off ∧ actingBases.contains r.base = false ∧ settleMask off = 0 ∧ off ≠ GLB_ORDER_CNT.off 0 0

/-- What a register that holds `w` holds after a write of `v` (R9): its RW and RWL fields from `v`, its W1C fields cleared where `v` has a 1. -/
def writtenWord (r : RegDesc) (w v : Word) : Word :=
  let k := BitVec.ofNat 32 (r.rw ||| r.rwl)
  ((w &&& ~~~k) ||| (v &&& k)) &&& ~~~(BitVec.ofNat 32 r.w1c &&& v)

/-- The panels to which beginning to quiesce does nothing by itself but ask: their traffic goes on to the quiesce point (R46). -/
def askedOnly : List Nat := [0, 1, 5, 7, 10, 12]

/-- `t` differs from `s` in registers only within the bits that `mask` names, and beyond the registers only in what the device has put
out, in the messages asked, in the SEQ of its next ring frames (R386, R396), and in the emitter's, the histograms' and the fixes' running state. -/
structure Keeps (mask : Nat → Nat) (s t : State) : Prop where
  regs : ∀ off b, (mask off).testBit b = false → (t.get off).getLsbD b = (s.get off).getLsbD b
  rest : { t with regs := s.regs, outs := s.outs, vecReq := s.vecReq, raised := s.raised, ringSeq := s.ringSeq, rge := s.rge, rgh := s.rgh, fix := s.fix } = s

/-- The matrix outputs follow the pending enabled sources (R377, R378): the lines they drive while `P11` is in service, none while it
is unloaded; in its own swap they hold (R46). -/
def matrixFollows (s : State) : Prop :=
  if s.swapping 11 then True
  else if s.loaded 11 then s.quiesced 11 = false → s.rd EVT_HAL_STAT_MATRIX = (matrixOut s).1 % 2 ^ 16
  else s.rd EVT_HAL_STAT_MATRIX = 0

/-- The lines at rest: the matrix follows its sources, every line is the OR of its asserters (R378), no armed emitter stands under an
asserted inhibit line (R211), and lamp off is tripped under an asserted line of `ILU_HAL` (R269). -/
structure LinesAtRest (s : State) : Prop where
  matrix : matrixFollows s
  level : s.rd EVT_HAL_STAT_LEVEL = (s.rd EVT_HAL_STAT_MATRIX ||| tsLines s ||| reflexLines s) % 2 ^ 16
  inhibit : s.inhibited = true → s.flag RGE_STAT_ARMED = false
  inhibitIn : s.flag RGE_STAT_INHIBIT_IN = s.inhibited
  lamp : s.lampLine = true → s.flag ILU_STAT_LAMP_TRIP = true

end Sys2Proof.Safety
end

