-- ==== Sys2Proof/Certificates/Slice0/Obligations.lean ====
section
/-! DEFINITION. What the provers are to prove of the model: one definition per statement, each named for what it states. `Answers o P`
says that the outcome is a next state of which P holds; `Raised`, `Counted`, `Reaches` and `Keeps` are those of Sys2Proof/Safety.lean. -/

open Sys2Proof Sys2Proof.Machine Sys2Proof.Safety



/-- The queue of commands is first in, first out: a step takes the command at the front and is its meaning on the state that keeps the
rest; on an empty queue 5 ns pass (the model's choice, notes/assumptions/4.md) and no register outside the lines' own changes. -/
def Obligations.StepTakesTheFrontCommand : Prop :=
  (∀ (c : Instr) (rest : List Instr) (s : State), step { s with pending := c :: rest } = exec c { s with pending := rest }) ∧
  (∀ s : State, s.pending = [] → (∀ cv < 2, (s.cvSt cv).regRun = false) → (∀ x ∈ s.sink, x.2.since = none ∧ x.2.awl = none) → timingRef s = true → (s.elapsed + 5) / 1000000000 = s.elapsed / 1000000000 →
    Answers (step s) fun t => t.elapsed = s.elapsed + 5 ∧ t.pending = [] ∧ t.dram = s.dram ∧
      ∀ off, settleMask off = 0 → t.get off = s.get off)

/-- After every command that completes the lines are at rest (R378, R211, R269), whatever the state before it. That the list of
messages asked is empty then is the model's choice: what a command asks goes out at its end (notes/assumptions/5.md). -/
def Obligations.EveryCommandLeavesTheLinesAtRest : Prop :=
  ∀ (c : Instr) (s t : State), exec c s = .next t → LinesAtRest t ∧ t.vecReq = []

/-- The lines at rest are an invariant of every step. -/
def Obligations.EveryStepKeepsTheLinesAtRest : Prop :=
  ∀ s t : State, LinesAtRest s → step s = .next t → LinesAtRest t

/-- The lines are at rest right after reset, the emitter is not armed, lamp off is not tripped, no panel is loaded, and nothing is
pending or enabled. -/
def Obligations.ResetLeavesTheLinesAtRest : Prop :=
  LinesAtRest State.reset ∧ State.reset.flag RGE_STAT_ARMED = false ∧ State.reset.flag ILU_STAT_LAMP_TRIP = false ∧
    (∀ p < 16, State.reset.loaded p = false) ∧ (∀ w < 9, State.reset.rd EVT_PEND w = 0 ∧ State.reset.rd EVT_EN w = 0)

/-- The commands of `HRN_CMD` (R40, R41, R464): what each does to the load state where it is taken. -/
def Obligations.HarnessCommandsActOnTheLoadState : Prop :=
  (∀ s : State, (loadState s = 0 ∨ loadState s = 7) → s.hrn.resetting = none →
    Answers (exec .load s) fun t => loadState t = 1 ∧ t.rd HRN_STAT_ERR_CODE = 0 ∧ t.hrn.image = [] ∧ t.hrn.src = s.rd HRN_CTRL_SRC ∧
      t.hrn.stageLo = s.rd HRN_SRC_ADDR_LO_ADDR * 64 + 2 ^ 32 * s.rd HRN_SRC_ADDR_HI_ADDR ∧
      t.hrn.stageHi = t.hrn.stageLo + if s.rd HRN_CTRL_SRC = 0 then s.rd HRN_SRC_LEN_LEN else 0x400000) ∧
  (∀ s : State, (¬ (loadState s = 0 ∨ loadState s = 7) ∨ s.hrn.resetting.isSome = true) →
    Answers (exec .load s) fun t => loadState t = loadState s ∧ t.rd HRN_STAT_ERR_CODE = 0x20 ∧ t.hrn = s.hrn) ∧
  (∀ s : State, loadState s = 3 → (∀ p < 16, s.loaded p = false) → s.hrn.asked = [] → calRunning s = false →
    Answers (exec .commit s) fun t => loadState t = 5 ∧ t.hrn.targets = []) ∧
  (∀ (p : Nat) (rest : List Nat) (s : State), loadState s = 3 → s.hrn.asked = [] → calRunning s = false → commitOrder s = p :: rest →
    askedOnly.contains p = true → s.quiesced p = false →
    Answers (exec .commit s) fun t => loadState t = 4 ∧ t.hrn.targets = commitTargets s ∧ t.hrn.asked = [p] ∧ t.hrn.order = rest ∧
      t.quiesced p = false ∧ ∀ q < 16, t.loaded q = s.loaded q) ∧
  (∀ s : State, 1 ≤ loadState s → loadState s ≤ 3 → s.hrn.boot = false →
    Answers (exec .abort s) fun t => loadState t = 0 ∧ t.hrn.image = []) ∧
  (∀ s : State, 1 ≤ loadState s → loadState s ≤ 3 → s.hrn.boot = true →
    Answers (exec .abort s) fun t => loadState t = 0 ∧ t.hrn.image = [] ∧ t.rd HRN_STAT_BOOT = 5 ∧ t.hrn.boot = false) ∧
  (∀ s : State, loadState s = 0 → s.hrn.resetting = none → s.hrn.asked = [] → (∀ p < 16, s.loaded p = false) → calRunning s = false →
    Answers (exec (.panelReset 13) s) fun t => loadState t = 0 ∧ t.hrn.resetting = none ∧
      ∀ off, 0xF00000 ≤ off → off < 0xF80000 → t.get off = regReset off) ∧
  (∀ (p : Fin 16) (s : State), loadState s = 0 → s.hrn.resetting = none → s.hrn.asked = [] → calRunning s = false → s.loaded p = true →
    dependentsOf s [p.val] = [] → askedOnly.contains p.val = true → s.quiesced p = false →
    Answers (exec (.panelReset p) s) fun t => loadState t = 0 ∧ t.hrn.resetting = some p.val ∧ t.hrn.asked = [p.val] ∧
      t.loaded p = true ∧ t.quiesced p = false) ∧
  (∀ (p : Fin 16) (s : State), (loadState s ≠ 0 ∨ s.hrn.resetting.isSome = true) →
    Answers (exec (.panelReset p) s) fun t => loadState t = loadState s ∧ t.rd HRN_STAT_ERR_CODE = 0x20 ∧ t.hrn = s.hrn) ∧
  (∀ s : State, Answers (exec .clearError s) fun t =>
    loadState t = (if loadState s = 7 then 0 else loadState s) ∧ t.rd HRN_STAT_ERR_CODE = 0 ∧ t.rd HRN_STAT_ERR_PANEL = 0 ∧
      t.rd HRN_STAT_ERR_PANEL_V = 0)

/-- What happens to a load by itself (R39, R36, R43, R46, R118): fetch, verification, quiesce points, the timeout, the store. -/
def Obligations.LoadEventsActOnTheLoadState : Prop :=
  (∀ (s : State) (ok : Bool), loadState s = 1 → s.hrn.src = 0 → s.hrn.stageHi ≤ s.board.dramSize →
    Answers (exec (.fetchDone ok) s) fun t => loadState t = 2 ∧ t.hrn.image = s.bytes s.hrn.stageLo (s.hrn.stageHi - s.hrn.stageLo) ∧
      t.dram = s.dram) ∧
  (∀ (s : State) (ok : Bool), loadState s = 1 → s.hrn.src = 0 → s.board.dramSize < s.hrn.stageHi → s.hrn.boot = false →
    Answers (exec (.fetchDone ok) s) fun t => loadState t = 7 ∧ t.rd HRN_STAT_ERR_CODE = 0x13 ∧ Raised 1 s t) ∧
  (∀ s : State, loadState s = 2 → s.hrn.boot = false → s.flag HRN_CTRL_AUTO_COMMIT = false →
    Answers (exec .verifyDone s) fun t => match verifyImage s s.hrn.image s.hrn.image.length with
      | none => loadState t = 3 ∧ t.hrn = s.hrn
      | some e => loadState t = 7 ∧ t.rd HRN_STAT_ERR_CODE = e.1 % 256 ∧ Raised 1 s t ∧ t.hrn.image = []) ∧
  (∀ (p q : Fin 16) (s : State), s.hrn.asked.contains p.val = true → s.quiesced p = false → atPoint s p = true → p.val ≠ 0 → p.val ≠ 15 →
    s.hrn.order = [] → s.hrn.asked.contains q.val = true → (waitsFor s).contains q.val = true → s.quiesced q = false → q ≠ p →
    Answers (exec (.panelQuiesced p) s) fun t => t.quiesced p = true ∧ t.quiesced q = false ∧ loadState t = loadState s ∧ t.hrn = s.hrn) ∧
  (∀ s : State, s.hrn.resetting = some 13 → s.hrn.asked = [13] → s.hrn.order = [] → dependentsOf s [13] = [] → s.quiesced 13 = false →
    atPoint s 13 = true → inEntry s = false →
    Answers (exec (.panelQuiesced 13) s) fun t => t.loaded 13 = false ∧ t.hrn.resetting = none ∧ t.hrn.asked = [] ∧
      ∀ off, 0xF00000 ≤ off → off < 0xF80000 → t.get off = regReset off) ∧
  (∀ s : State, loadState s = 4 → inEntry s = false → s.hrn.resetting = none → s.hrn.boot = false → s.hrn.asked = [13] → s.hrn.order = [] → s.quiesced 13 = false →
    Answers (exec .quiesceTimeout s) fun t => loadState t = 7 ∧ t.rd HRN_STAT_ERR_CODE = 0x22 ∧ t.rd HRN_STAT_ERR_PANEL = 13 ∧
      t.rd HRN_STAT_ERR_PANEL_V = 1 ∧ t.hrn.asked = [] ∧ Raised 1 s t) ∧
  (∀ (s : State) (x : Section), loadState s = 5 → (imageOf s.hrn.image).secs = [x] → x.panel = 13 → x.deps = [] →
    (∀ w ∈ x.writes, panelOf w.1 = 13 ∧ settleMask w.1 = 0 ∧ ∃ r, regRow w.1 = some r ∧ actingBases.contains r.base = false) →
    (x.writes.map (·.1)).Nodup → (s.hrn.targets = [] ∨ s.hrn.targets = [13]) → (∀ p < 16, s.quiesced p = false) → s.hrn.boot = false →
    Answers (exec .swapDone s) fun t => loadState t = 0 ∧ t.rd HRN_VERSION_VERSION = (imageOf s.hrn.image).version % 2 ^ 32 ∧
      Raised 0 s t ∧ t.hrn.image = [] ∧ t.loaded 13 = true ∧ t.rd HRN_PANEL_VER_VERSION 13 = x.ver % 2 ^ 32 ∧
      (∀ q < 16, q ≠ 13 → t.loaded q = s.loaded q) ∧
      ∀ w ∈ x.writes, ∀ r, regRow w.1 = some r → t.get w.1 = writtenWord r (s.get w.1) (BitVec.ofNat 32 w.2)) ∧
  (∀ (s : State) (x : Section), loadState s = 5 → (imageOf s.hrn.image).secs = [x] → x.panel = 15 → x.deps = [] →
    (s.hrn.targets = [] ∨ s.hrn.targets = [15]) → (∀ p < 16, s.quiesced p = false) → s.hrn.boot = false →
    Answers (exec .swapDone s) fun t => loadState t = 0 ∧ Raised 0 s t ∧ t.loaded 15 = true ∧ t.rd HRN_PANEL_VER_VERSION 15 = x.ver % 2 ^ 32 ∧
      t.reflex.record = ((List.range 272).zip x.words).filter fun y => y.2 != 0) ∧
  (∀ s : State, Answers (exec .shadingInitDone s) fun t => t.hrn = { s.hrn with storeBusy := false } ∧
      ∀ off, settleMask off = 0 → t.get off = s.get off)

/-- Host accesses of BAR0 (R6, R8 to R11, R52, R352): a write of any plain register, of 4 bytes or of 8 over two of them, sets its fields; one
that would change an RWL field while the block responds is refused; a block that does not respond takes nothing; a read drives the
register and clears its RC fields; one of a lowest word captures the upper one, and of 8 bytes drives the pair. -/
def Obligations.Bar0AccessesTakeEffect : Prop :=
  (∀ (off : BitVec 25) (r : RegDesc) (v : Word) (s : State), PlainReg s off.toNat r → lockRefuses s r off.toNat v = false →
    Answers (exec (.registerWrite off v none) s) fun t => t.get off.toNat = writtenWord r (s.get off.toNat) v ∧ t.dram = s.dram ∧
      ∀ o, settleMask o = 0 → o ≠ off.toNat → o ≠ GLB_ORDER_CNT.off 0 0 → t.get o = s.get o) ∧
  (∀ (off : BitVec 25) (r q : RegDesc) (v w : Word) (s : State), PlainReg s off.toNat r → PlainReg s (off.toNat + 4) q →
    lockRefuses s r off.toNat v = false → lockRefuses s q (off.toNat + 4) w = false →
    Answers (exec (.registerWrite off v (some w)) s) fun t => t.get off.toNat = writtenWord r (s.get off.toNat) v ∧
      t.get (off.toNat + 4) = writtenWord q (s.get (off.toNat + 4)) w ∧ t.dram = s.dram ∧
      ∀ o, settleMask o = 0 → o ≠ off.toNat → o ≠ off.toNat + 4 → o ≠ GLB_ORDER_CNT.off 0 0 → t.get o = s.get o) ∧
  (∀ (off : BitVec 25) (r : RegDesc) (v : Word) (s : State), regRow off.toNat = some r → off.toNat % 4 = 0 → Reaches s off.toNat →
    settleMask off.toNat = 0 → lockRefuses s r off.toNat v = true →
    Answers (exec (.registerWrite off v none) s) fun t => t.get off.toNat = s.get off.toNat ∧ Counted HRN_REJ_LOCK_REJECT 0 1 s t ∧
      t.rd HRN_REJ_ADDR_OFFSET = off.toNat ∧ Raised 2 s t) ∧
  (∀ (off : BitVec 25) (v : Word) (s : State), off.toNat % 4 = 0 → responds s off.toNat = false →
    Answers (exec (.registerWrite off v none) s) fun t => t.dram = s.dram ∧
      ∀ o, settleMask o = 0 → o ≠ GLB_ORDER_CNT.off 0 0 → t.get o = s.get o) ∧
  (∀ (off : BitVec 25) (v : Word) (hi : Option Word) (s : State), off.toNat % 4 ≠ 0 →
    Answers (exec (.registerWrite off v hi) s) fun t => Counted PCR_ERR_PARTIAL 0 1 s t ∧
      ∀ o, settleMask o = 0 → o ≠ PCR_ERR_PARTIAL.off 0 0 → t.get o = s.get o) ∧
  (∀ (off : BitVec 25) (r q : RegDesc) (s : State), regRow off.toNat = some r → regRow (off.toNat + 4) = some q → off.toNat % 4 = 0 →
    responds s off.toNat = true → responds s (off.toNat + 4) = true → liveBases.contains r.base = false → liveBases.contains q.base = false →
    r.rc = 0 → upperWords r.base (regIndex r off.toNat).1 = 1 → (s.captures.find? fun p => p.1 == off.toNat) = none →
    let lo := s.get off.toNat &&& ~~~(BitVec.ofNat 32 r.wo)
    let hi := s.get (off.toNat + 4) &&& ~~~(BitVec.ofNat 32 q.wo)
    (Answers (exec (.wideReadCapture off 0) s) fun t =>
      (t.captures.find? fun p => p.1 == off.toNat + 4) = some (off.toNat + 4, hi) ∧ Out.readData off.toNat [lo] ∈ t.outs ∧
      ∀ o, settleMask o = 0 → t.get o = s.get o) ∧
    (Answers (exec (.wideReadCapture off 1) s) fun t => Out.readData off.toNat [lo, hi] ∈ t.outs ∧ ∀ o, settleMask o = 0 → t.get o = s.get o)) ∧
  (∀ s : State, Reaches s (LOG_CHRONO_LO.off 0 0) → (s.captures.find? fun p => p.1 == LOG_CHRONO_LO.off 0 0) = none →
    Answers (exec (.wideReadCapture (BitVec.ofNat 25 (LOG_CHRONO_LO.off 0 0)) 1) s) fun t =>
      Out.readData (LOG_CHRONO_LO.off 0 0) [BitVec.ofNat 32 s.chrono, BitVec.ofNat 32 (s.chrono / 2 ^ 32)] ∈ t.outs) ∧
  (∀ (off : BitVec 25) (r : RegDesc) (s : State), regRow off.toNat = some r → off.toNat % 4 = 0 → responds s off.toNat = true →
    liveBases.contains r.base = false → upperWords r.base (regIndex r off.toNat).1 = 0 → settleMask off.toNat = 0 →
    (s.captures.find? fun p => p.1 == off.toNat) = none →
    Answers (exec (.rcFieldRead off 0) s) fun t => t.get off.toNat = s.get off.toNat &&& ~~~(BitVec.ofNat 32 r.rc) ∧
      Out.readData off.toNat [s.get off.toNat &&& ~~~(BitVec.ofNat 32 r.wo)] ∈ t.outs ∧
      ∀ o, settleMask o = 0 → o ≠ off.toNat → t.get o = s.get o) ∧
  (∀ s : State, Answers (exec (.bar0BadAccess .partialWrite) s) fun t => Counted PCR_ERR_PARTIAL 0 1 s t) ∧
  (∀ s : State, Answers (exec (.bar0BadAccess .longWrite) s) fun t => Counted PCR_ERR_LENGTH 0 1 s t) ∧
  (∀ s : State, Answers (exec (.bar0BadAccess .badRead) s) fun t => Counted PCR_ERR_LENGTH 0 1 s t ∧ Out.readUR ∈ t.outs) ∧
  (∀ s : State, Answers (exec (.bar0BadAccess .poisonedWrite) s) fun t => Counted PCR_ERR_POISON 0 1 s t)

/-- BAR2 (R31, R39): bytes written are the bytes of DRAM, the others keep theirs; bytes in the staging range of a load in progress are
lost and the write counted; a read drives the bytes of DRAM. -/
def Obligations.Bar2MovesBytesOfDram : Prop :=
  (∀ (addr : BitVec 34) (data : List Byte) (s : State), inStandby s = false → loadRuns s = false →
    addr.toNat + data.length ≤ s.board.dramSize →
    Answers (exec (.bar2Write addr data) s) fun t =>
      (∀ a, t.byte a = if addr.toNat ≤ a ∧ a < addr.toNat + data.length then data.getD (a - addr.toNat) 0 else s.byte a) ∧
      (∀ o, settleMask o = 0 → t.get o = s.get o)) ∧
  (∀ (addr : BitVec 34) (data : List Byte) (s : State), inStandby s = false → loadRuns s = true → data ≠ [] →
    s.hrn.stageLo ≤ addr.toNat → addr.toNat + data.length ≤ s.hrn.stageHi →
    Answers (exec (.bar2Write addr data) s) fun t => t.dram = s.dram ∧ Counted HRN_REJ_SWAP_DISCARD 0 1 s t) ∧
  (∀ (addr : BitVec 34) (data : List Byte) (s : State), inStandby s = true →
    Answers (exec (.bar2Write addr data) s) fun t => t.dram = s.dram) ∧
  (∀ (addr : BitVec 34) (len : Nat) (s : State), inStandby s = false → addr.toNat + len ≤ s.board.dramSize →
    Answers (exec (.bar2Read addr len) s) fun t => Out.bar2Data (s.bytes addr.toNat len) ∈ t.outs ∧ t.dram = s.dram) ∧
  (∀ (addr : BitVec 34) (len : Nat) (s : State), inStandby s = true →
    Answers (exec (.bar2Read addr len) s) fun t => Out.bar2Data (List.replicate len 0xFF) ∈ t.outs ∧ t.dram = s.dram)

/-- Every command keeps the canonical form of DRAM, in any state whose DRAM has it. -/
def Obligations.EveryCommandKeepsDramCanonical : Prop :=
  ∀ (c : Instr) (s t : State), Memory.wf s.dram = true → exec c s = .next t → Memory.wf t.dram = true

/-- Writes at the reflex port by the function of the slot (R370): NONE, PAUSE_SCAN, APPLY_SET, HAL and EVENT; a write to an entry that is no command
slot, or while `RDY` is low, is counted and nothing else (R371); a write to a slot wakes the device where it is to (R438). -/
def Obligations.ReflexWritesDoWhatTheirSlotNames : Prop :=
  (∀ (e : Fin 256) (v : BitVec 16) (k : Nat) (s : State), SlotOf s e k 0 → s.flag PCR_WAKE_CFG_REFLEX_EN = false →
    Answers (exec (.reflexNone e v) s) fun t => t.reflex = { s.reflex with port := t.reflex.port } ∧ ∀ o, settleMask o = 0 → t.get o = s.get o) ∧
  (∀ (e : Fin 256) (v : BitVec 16) (k : Nat) (s : State), SlotOf s e k 1 → s.flag PCR_WAKE_CFG_REFLEX_EN = false →
    Answers (exec (.reflexPauseScan e v) s) fun t => slotValue t k = v.toNat ∧
      (v ≠ 0 → scanPaused t (bitsOf (slotWord s k) 24 4) = true) ∧ ∀ o, settleMask o = 0 → t.get o = s.get o) ∧
  (∀ (e : Fin 256) (v : BitVec 16) (k : Nat) (s : State), SlotOf s e k 4 → setEntries s (v.toNat % 64) 8 0 = [] → s.flag PCR_WAKE_CFG_REFLEX_EN = false →
    Answers (exec (.reflexApplySet e v) s) fun t => slotValue t k = v.toNat ∧ ∀ o, settleMask o = 0 → t.get o = s.get o) ∧
  (∀ (e : Fin 256) (v : BitVec 16) (k : Nat) (n : Fin 64) (w : Word) (s : State), SlotOf s e k 4 →
    setEntries s (v.toNat % 64) 8 0 = [(EVT_VMOD.off n 0, w)] → s.loaded 11 = true →  responds s (EVT_VMOD.off n 0) = true →
    s.flag PCR_WAKE_CFG_REFLEX_EN = false →
    Answers (exec (.reflexApplySet e v) s) fun t => t.rd EVT_VMOD_HOLD n = w.toNat % 2 ^ 16 ∧ slotValue t k = v.toNat ∧
      ∀ o, settleMask o = 0 → o ≠ EVT_VMOD.off n 0 → t.get o = s.get o) ∧
  (∀ (e : Fin 256) (v : BitVec 16) (k : Nat) (s : State), SlotOf s e k 7 → v ≠ 0 → s.flag PCR_WAKE_CFG_REFLEX_EN = false →
    Answers (exec (.reflexHal e v) s) fun t => slotValue t k = v.toNat ∧
      (t.rd EVT_HAL_STAT_LEVEL).testBit (bitsOf (slotWord s k) 24 4) = true ∧ ∀ o, settleMask o = 0 → t.get o = s.get o) ∧
  (∀ (e : Fin 256) (v : BitVec 16) (k : Nat) (s : State), SlotOf s e k 8 → s.flag PCR_WAKE_CFG_REFLEX_EN = false →
    Answers (exec (.reflexEvent e v) s) fun t => slotValue t k = v.toNat ∧ t.rd EVT_REFLEX_DATA_DATA = v.toNat ∧ Raised 4 s t ∧
      t.dram = s.dram) ∧
  (∀ (e : Fin 256) (v : BitVec 16) (s : State), entrySlot s e = none ∨ portReady s = false →
    Answers (exec (.reflexWriteIgnored e v) s) fun t => Counted PCR_REF_STAT_WR_IGN 0 1 s t ∧ t.reflex = { s.reflex with port := t.reflex.port } ∧
      ∀ o, settleMask o = 0 → o ≠ PCR_REF_STAT.off 0 0 → t.get o = s.get o) ∧
  (∀ (e : Fin 256) (v : BitVec 16) (k : Nat) (s : State), SlotOf s e k 0 → s.flag PCR_WAKE_CFG_REFLEX_EN = true → s.rd PCR_PWR_STAT_STATE = 2 →
    Answers (exec (.reflexNone e v) s) fun t => t.rd PCR_PWR_STAT_STATE = 3 ∧ t.rd PCR_PWR_STAT_WAKE_SRC = 5) ∧
  (∀ (e : Fin 256) (s : State), s.active 15 = true → bitsOf (recordWord s e) 28 4 = 3 → recordWord s e % 4 = 0 →
    Answers (exec (.reflexLogRead e true) s) fun t => Out.reflexData (reflexDrive s e) ∈ t.outs ∧
      (t.reflex.logCap.find? fun p => p.1 == bitsOf (recordWord s e) 4 2) =
        some (bitsOf (recordWord s e) 4 2, s.rd2 LOG_VALUE_LO_VALUE LOG_VALUE_HI_VALUE (bitsOf (recordWord s e) 4 2)) ∧
      ∀ o, settleMask o = 0 → t.get o = s.get o) ∧
  (∀ (e : Fin 256) (s : State), Answers (exec (.reflexLogRead e false) s) fun t =>
    Out.reflexData (kvGet (fun _ => 0) s.reflex.port e) ∈ t.outs ∧ t.reflex = s.reflex ∧ ∀ o, settleMask o = 0 → t.get o = s.get o)

/-- The reflex commands that act on another block (R370): a frame fired with the ALOG stamp (R249), a trigger of a converter (R317), a step of
a pattern engine (R274), a strobe with its data (R281); where the block cannot take one, the refusal is counted. -/
def Obligations.ReflexActionsReachTheirBlocks : Prop :=
  (∀ (e : Fin 256) (v : BitVec 16) (k : Nat) (s : State), SlotOf s e k 2 → s.loaded 5 = true → s.quiescing 5 = false → s.loaded 6 = true →
    s.quiescing 6 = false → s.flag RGE_STAT_ARMED = true → s.flag RGE_STAT_BUSY = false → s.rge.holdoff = false →
    profileBad s (v.toNat % 16) = false → s.rd CAL_STAT_STATE = 0 → bufPending s (nextBuf s.used).2 = false → s.rd EVT_HAL_INH_LINES = 0 →
    Answers (exec (.reflexFireFrame e v) s) fun t => slotValue t k = v.toNat ∧ t.rd RGE_STAT_BUSY = 1 ∧ t.rd RGE_STAT_PROFILE = v.toNat % 16 ∧
      t.rd RGH_STAT_FILL_BUF = (nextBuf s.used).2 ∧ t.rgh.lastFrame = (s.rgh.lastFrame + 1) % 2 ^ 32 ∧ t.rd PCR_REF_STAT_CMD_REF = s.rd PCR_REF_STAT_CMD_REF) ∧
  (∀ (e : Fin 256) (v : BitVec 16) (k : Nat) (s : State), SlotOf s e k 2 → s.loaded 5 = false →
    Answers (exec (.reflexFireFrame e v) s) fun t => slotValue t k = v.toNat ∧ Counted PCR_REF_STAT_CMD_REF 0 1 s t) ∧
  (∀ (e : Fin 256) (v : BitVec 16) (k : Nat) (s : State), SlotOf s e k 3 → cvOn s (v.toNat % 2) = true →
    s.rd CNV_TRIG_TSRC (v.toNat % 2) (bitsOf v.toNat 1 1) = 3 → s.loaded 9 = true → cvHeld s = false → s.flag CNV_CTRL_CONT (v.toNat % 2) = false →
    (s.cvSt (v.toNat % 2)).delR = none → (s.cvSt (v.toNat % 2)).delI = none → s.rd CNV_TRIG_DELAY (v.toNat % 2) (bitsOf v.toNat 1 1) ≠ 0 →
    Answers (exec (.reflexConvert e v) s) fun t => slotValue t k = v.toNat ∧
      (if bitsOf v.toNat 1 1 = 0 then (t.cvSt (v.toNat % 2)).delR else (t.cvSt (v.toNat % 2)).delI) =
        some (s.rd CNV_TRIG_DELAY (v.toNat % 2) (bitsOf v.toNat 1 1)) ∧ t.rd PCR_REF_STAT_CMD_REF = s.rd PCR_REF_STAT_CMD_REF) ∧
  (∀ (e : Fin 256) (v : BitVec 16) (k : Nat) (s : State), SlotOf s e k 3 → s.rd CNV_TRIG_TSRC (v.toNat % 2) (bitsOf v.toNat 1 1) ≠ 3 →
    Answers (exec (.reflexConvert e v) s) fun t => slotValue t k = v.toNat ∧ Counted PCR_REF_STAT_CMD_REF 0 1 s t ∧ t.cv = s.cv) ∧
  (∀ (e : Fin 256) (v : BitVec 16) (k : Nat) (s : State), SlotOf s e k 5 → s.loaded 7 = true → s.quiesced 7 = false →
    s.peDue = [] → peOn s (v.toNat % 16) 3 = true → (s.peSt (v.toNat % 16)).unit + 1 < bitsOf (peStepWord s (v.toNat % 16)) 40 16 →
    Answers (exec (.reflexPeStep e v) s) fun t => slotValue t k = v.toNat ∧
      (t.peSt (v.toNat % 16)).unit = (s.peSt (v.toNat % 16)).unit + 1 ∧ t.rd ILU_PE_STAT_STEP (v.toNat % 16) = s.rd ILU_PE_STAT_STEP (v.toNat % 16) ∧
      t.rd PCR_REF_STAT_CMD_REF = s.rd PCR_REF_STAT_CMD_REF) ∧
  (∀ (e : Fin 256) (v : BitVec 16) (k : Nat) (s : State), SlotOf s e k 5 → peOn s (v.toNat % 16) 3 = false →
    Answers (exec (.reflexPeStep e v) s) fun t => slotValue t k = v.toNat ∧ Counted PCR_REF_STAT_CMD_REF 0 1 s t ∧ t.pe = s.pe) ∧
  (∀ (e : Fin 256) (v : BitVec 16) (k : Nat) (s : State), SlotOf s e k 6 → chainEn s (v.toNat % 2) = true → s.loaded 7 = true → s.quiesced 7 = false →
    (s.chainSt (v.toNat % 2)).waiting = [] → chainState s (v.toNat % 2) ≠ 1 → (s.chainSt (v.toNat % 2)).strobeEnd ≤ s.elapsed →
    Answers (exec (.reflexStrobe e v) s) fun t => slotValue t k = v.toNat ∧
      Out.chainFrame (v.toNat % 2) (withCrc [192, bitsOf v.toNat 8 8]) ∈ t.outs ∧
      (t.chainSt (v.toNat % 2)).flight = (s.chainSt (v.toNat % 2)).flight ++ [bitsOf v.toNat 8 8]) ∧
  (∀ (e : Fin 256) (v : BitVec 16) (k : Nat) (s : State), SlotOf s e k 6 → chainEn s (v.toNat % 2) = false →
    Answers (exec (.reflexStrobe e v) s) fun t => slotValue t k = v.toNat ∧ Counted PCR_REF_STAT_CMD_REF 0 1 s t ∧ t.chain = s.chain)

/-- Resets (R7, R18, R440 to R442): the watchdog's warning and expiry, `WRST#`, `PORST#`, `PERST#`, and the end of DRAM training (R44).
The model's choices in it: DRAM after `PORST#` (notes/assumptions/2.md), the power state that `PERST#` keeps (notes/assumptions/36.md), and
what `WRST#` and the watchdog's expiry end and keep of the axes (notes/assumptions/82.md). -/
def Obligations.ResetsLeaveTheirResetValues : Prop :=
  (∀ (c : Fin 4) (s : State), Answers (exec (.wdtWarn c) s) fun t => Raised 9 s t ∧ t.dram = s.dram ∧ t.pwr = s.pwr) ∧
  (∀ (c : Fin 4) (s : State), s.rd PCR_PWR_STAT_STATE = 1 ∨ s.rd PCR_PWR_STAT_STATE = 3 →
    Answers (exec (.watchdogExpiry c) s) fun t => t.rd GLB_RST_CAUSE_WDT = 1 ∧ t.rd GLB_RST_CAUSE_CORE = c ∧ t.pwr.restart = true ∧
      ∀ o, settleMask o = 0 → o ≠ GLB_RST_CAUSE.off 0 0 → t.get o = s.get o) ∧
  (∀ (c : Fin 4) (s : State), s.rd PCR_PWR_STAT_STATE ≠ 1 → s.rd PCR_PWR_STAT_STATE ≠ 3 →
    Answers (exec (.watchdogExpiry c) s) fun t => t.rd GLB_RST_CAUSE_WDT = 1 ∧ t.rd GLB_RST_CAUSE_CORE = c ∧ loadState t = 0 ∧ t.hrn.image = [] ∧
      (s.hrn.asked = [] → ∀ a : Fin 4, (axUnderWay s a = true → t.rd AXS_CTRL_EN a = 0 ∧ t.rd AXS_CTRL_MODE a = 0 ∧ t.rd AXS_STAT_REF a = 0) ∧
        (axUnderWay s a = false → t.rd AXS_CTRL_EN a = s.rd AXS_CTRL_EN a ∧ t.rd AXS_STAT_REF a = s.rd AXS_STAT_REF a)) ∧
      t.sec.quote = none ∧ t.dram = s.dram) ∧
  (∀ s : State, s.rd PCR_PWR_STAT_STATE ≠ 1 → s.rd PCR_PWR_STAT_STATE ≠ 3 →
    Answers (exec .wrst s) fun t => t.rd GLB_RST_CAUSE_WRST = 1 ∧ t.rd GLB_RST_CAUSE_WDT = s.rd GLB_RST_CAUSE_WDT ∧ loadState t = 0 ∧ t.hrn.image = [] ∧
      (s.hrn.asked = [] → ∀ a : Fin 4, (axUnderWay s a = true → t.rd AXS_CTRL_EN a = 0 ∧ t.rd AXS_CTRL_MODE a = 0 ∧ t.rd AXS_STAT_REF a = 0) ∧
        (axUnderWay s a = false → t.rd AXS_CTRL_EN a = s.rd AXS_CTRL_EN a ∧ t.rd AXS_STAT_REF a = s.rd AXS_STAT_REF a)) ∧
      t.sec.quote = none ∧ t.dram = s.dram) ∧
  (∀ (up g : Bool) (s : State), Answers (exec (.porst up g) s) fun t =>
    t.elapsed = 0 ∧ t.chrono = 0 ∧ t.dram = [] ∧ (∀ p : Fin 16, t.loaded p = false) ∧ t.rtc = s.rtc ∧ t.pending = s.pending ∧ t.ring.strapLead = g ∧
      t.rd GLB_RST_CAUSE_PORST = 1 ∧ (∀ a : Fin 4, t.rd AXS_CTRL_EN a = 0) ∧ ∀ q : Fin 64, t.q q = {}) ∧
  (∀ s : State, Answers (exec .perst s) fun t =>
    t.rd GLB_RST_CAUSE_PERST = 1 ∧ t.rd PCR_LINK_UP = 0 ∧ t.rd PCR_PWR_STAT_STATE = s.rd PCR_PWR_STAT_STATE ∧ t.funcMask = false ∧
      (∀ c : Fin 8, t.rd PCR_DMA_CTRL_EN c = 0) ∧ t.dram = s.dram ∧ t.hrn = s.hrn) ∧
  (∀ (r : Nat) (s : State), s.rd SEC_STAT_FW ≠ 0 → s.board.dramRate = 0 → r ≠ 0 →
    Answers (exec (.dramTrainingDone r) s) fun t => t.board.dramRate = r ∧ t.hrn.boot = true ∧ t.rd HRN_STAT_BOOT = 4 ∧ loadState t = 1)

/-- Standby (R435, R436): a request refused with its cause, the entry begun, its end, and its timeout. The model's choices in it: a
PANEL_RESET in progress refuses no request (notes/assumptions/53.md); every STATE other than RUN is BUSY, the DMA channels end disabled, and
step 4 comes on a timeout too (notes/assumptions/57.md). -/
def Obligations.StandbyIsEnteredOrRefused : Prop :=
  (∀ s : State, loadState s ≠ 0 → loadState s ≠ 7 →
    Answers (exec .standbyRequest s) fun t => t.rd PCR_PWR_STAT_REFUSED = 1 ∧ t.rd PCR_PWR_STAT_ERR = 1 ∧
      t.rd PCR_PWR_STAT_STATE = s.rd PCR_PWR_STAT_STATE ∧ t.hrn = s.hrn) ∧
  (∀ s : State, loadState s = 0 ∨ loadState s = 7 → calRunning s = true →
    Answers (exec .d3hotEntry s) fun t => t.rd PCR_PWR_STAT_REFUSED = 1 ∧ t.rd PCR_PWR_STAT_ERR = 2 ∧
      ∀ o, settleMask o = 0 → o ≠ PCR_PWR_STAT.off 0 0 → t.get o = s.get o) ∧
  (∀ s : State, loadState s = 0 ∨ loadState s = 7 → calRunning s = false → s.rd PCR_PWR_STAT_STATE ≠ 0 →
    Answers (exec .d3hotEntry s) fun t => t.rd PCR_PWR_STAT_REFUSED = 1 ∧ t.rd PCR_PWR_STAT_ERR = 3 ∧
      ∀ o, settleMask o = 0 → o ≠ PCR_PWR_STAT.off 0 0 → t.get o = s.get o) ∧
  (∀ s : State, loadState s = 0 ∨ loadState s = 7 → calRunning s = false → s.rd PCR_PWR_STAT_STATE = 0 →
    Answers (exec .standbyRequest s) fun t => t.rd PCR_PWR_STAT_STATE = 1 ∧ t.rd PCR_PWR_STAT_ERR = 0 ∧ t.rd PCR_PWR_STAT_WAKE_SRC = 0 ∧
      t.rd RGE_STAT_ARMED = 0 ∧ (∀ k : Fin 24, t.rd ILU_SINK_CTRL_EN k = 0) ∧ t.rd AFE_CFG_EN = 0 ∧
      (∀ a : Fin 4, t.rd AXS_CTRL_EN a = 0) ∧ ∀ p : Fin 16, s.loaded p = false → t.quiesced p = s.quiesced p) ∧
  (∀ s : State, loadState s = 0 ∨ loadState s = 7 → calRunning s = false → s.rd PCR_PWR_STAT_STATE = 0 →
    Answers (exec .d3hotEntry s) fun t => t.rd PCR_PWR_STAT_STATE = 1 ∧ t.rd PCR_PWR_STAT_ERR = 0 ∧
      t.rd RGE_STAT_ARMED = 0 ∧ (∀ k : Fin 24, t.rd ILU_SINK_CTRL_EN k = 0) ∧ t.rd AFE_CFG_EN = 0 ∧ ∀ a : Fin 4, t.rd AXS_CTRL_EN a = 0) ∧
  (∀ s : State, s.rd PCR_PWR_STAT_STATE = 1 → notReached s = [] → pfwFirst s = false → s.pwr.restart = false → s.pwr.wakeWait = 0 →
    Answers (exec .standbyEntryDone s) fun t => t.rd PCR_PWR_STAT_STATE = 2 ∧
      (∀ d < 32, (t.rd PCR_PD_STAT_ON).testBit d = (s.domain d && standbyOn.contains d)) ∧
      (∀ c : Fin 8, t.rd PCR_DMA_CTRL_EN c = 0) ∧ ((∀ x ∈ s.lane, x.2.rx = none) → t.dram = s.dram)) ∧
  (∀ s : State, notReached s ≠ [] ∨ pfwFirst s = true →
    Answers (exec .standbyEntryDone s) fun t => t.pwr = s.pwr ∧ ∀ o, settleMask o = 0 → t.get o = s.get o) ∧
  (∀ s : State, s.rd PCR_PWR_STAT_STATE = 1 → notReached s = [] → pfwFirst s = false → s.pwr.restart = false → s.pwr.wakeWait ≠ 0 →
    Answers (exec .standbyEntryDone s) fun t => t.rd PCR_PWR_STAT_STATE = 3 ∧ t.rd PCR_PWR_STAT_WAKE_SRC = s.pwr.wakeWait % 16) ∧
  (∀ s : State, s.rd PCR_PWR_STAT_STATE = 1 → notReached s ≠ [] → s.pwr.restart = false →
    Answers (exec .standbyTimeout s) fun t => t.rd PCR_PWR_STAT_STATE = 0 ∧ t.rd PCR_PWR_STAT_REFUSED = 1 ∧ t.rd PCR_PWR_STAT_ERR = 4 ∧
      t.pwr.wakeWait = 0 ∧ ∀ c : Fin 8, t.rd PCR_DMA_CTRL_EN c = 0)

/-- Waking (R438, R439): in standby each source begins the wake and is shown; during the entry it waits; elsewhere it does nothing. That
`WAKE_ALARM` and `WAKE_COMPLETE` stand for moments, of which the first moves the calendar to the alarm, and that every armed edge counts, are
the model's choices (notes/assumptions/58.md, notes/assumptions/106.md). -/
def Obligations.WakeSourcesWake : Prop :=
  (∀ s : State, s.rd PCR_PWR_STAT_STATE = 2 →
    (Answers (exec .wakeHost s) fun t => t.rd PCR_PWR_STAT_STATE = 3 ∧ t.rd PCR_PWR_STAT_WAKE_SRC = 1 ∧ t.rd PCR_PWR_CTRL_STANDBY = 0) ∧
    (Answers (exec .wakeD0 s) fun t => t.rd PCR_PWR_STAT_STATE = 3 ∧ t.rd PCR_PWR_STAT_WAKE_SRC = 2 ∧
      ∀ o, settleMask o = 0 → o ≠ PCR_PWR_STAT.off 0 0 → t.get o = s.get o)) ∧
  (∀ (n : Fin 14) (r : Bool) (s : State), s.rd PCR_PWR_STAT_STATE = 2 → bit (s.rd PCR_WAKE_CFG_GPIO) n = true →
    r ≠ s.flag PCR_WAKE_CFG_GPIO_POL → pinDriven s n = none → pinLevel s n ≠ some r → Answers (exec (.wakeGpio n r) s) fun t =>
      t.rd PCR_PWR_STAT_STATE = 3 ∧ t.rd PCR_PWR_STAT_WAKE_SRC = 3 ∧ pinLevel t n = some r ∧ ∀ o, settleMask o = 0 → o ≠ PCR_PWR_STAT.off 0 0 → t.get o = s.get o) ∧
  (∀ (n : Fin 14) (r : Bool) (s : State), bit (s.rd PCR_WAKE_CFG_GPIO) n = false ∨ r = s.flag PCR_WAKE_CFG_GPIO_POL ∨ pinDriven s n ≠ none ∨
      pinLevel s n = some r →
    Answers (exec (.wakeGpio n r) s) fun t => t.pwr = s.pwr ∧ (pinDriven s n = none → pinLevel t n = some r) ∧ ∀ o, settleMask o = 0 → t.get o = s.get o) ∧
  (∀ s : State, s.rd PCR_PWR_STAT_STATE = 2 → s.flag PCR_WAKE_CFG_ALARM_EN = true →
    s.rtc % (2 ^ 32 * 1000000000) < (s.rd PCR_WAKE_ALARM_SEC + 1) * 1000000000 →
    Answers (exec .wakeAlarm s) fun t => t.rd PCR_PWR_STAT_STATE = 3 ∧ t.rd PCR_PWR_STAT_WAKE_SRC = 4 ∧
      t.rtc = s.rtc + (s.rd PCR_WAKE_ALARM_SEC * 1000000000 - s.rtc % (2 ^ 32 * 1000000000))) ∧
  (∀ s : State, s.rd PCR_PWR_STAT_STATE = 1 → s.pwr.wakeWait = 0 → Answers (exec .wakeD0 s) fun t => t.pwr = { s.pwr with wakeWait := 2 } ∧
      ∀ o, settleMask o = 0 → t.get o = s.get o) ∧
  (∀ s : State, s.rd PCR_PWR_STAT_STATE = 0 → Answers (exec .wakeD0 s) fun t => t.pwr = s.pwr ∧
      ∀ o, settleMask o = 0 → t.get o = s.get o) ∧
  (∀ s : State, s.rd PCR_PWR_STAT_STATE = 3 → pfwFirst s = false → s.pwr.restart = false →
    Answers (exec .wakeComplete s) fun t => t.rd PCR_PWR_STAT_STATE = 0 ∧ (∀ d < 32, (t.rd PCR_PD_STAT_ON).testBit d = s.domain d) ∧
      ((∀ x ∈ s.lane, x.2.rx = none) → t.dram = s.dram))

/-- The link between the dies and the temperatures (R16, R17, R459): a fault puts the field die in its safe state and raises its source;
the link's return restores nothing by itself; a sample is shown, crossing 100 °C raises its source once, crossing 115 °C trips the emitter. -/
def Obligations.FieldDieSafeStateAndTemperatures : Prop :=
  (∀ s : State, s.pwr.d2dDown = false → Answers (exec .d2dFault s) fun t => t.pwr.d2dDown = true ∧ Raised 280 s t ∧
    (∀ k : Fin 24, t.rd ILU_SINK_CTRL_EN k = 0) ∧ t.rd AFE_CFG_EN = 0 ∧ (∀ a : Fin 4, t.rd AXS_CTRL_EN a = 0 ∧ t.rd AXS_STAT_REF a = 0) ∧
    t.rd ILU_CONV_STAT_LOSS = 1 ∧ t.rd ILU_CONV_STAT_STATE = 3 ∧ t.chain = []) ∧
  (∀ s : State, s.pwr.d2dDown = true → Answers (exec .d2dFault s) fun t => t.pwr = s.pwr ∧ ∀ o, settleMask o = 0 → t.get o = s.get o) ∧
  (∀ s : State, Answers (exec .d2dRetrained s) fun t => t.pwr = { s.pwr with d2dDown := false } ∧ ∀ o, settleMask o = 0 → t.get o = s.get o) ∧
  (∀ (c f : Int) (s : State), Answers (exec (.thermalSample c f) s) fun t =>
    t.rd PCR_THERM_TJ_CORE = (if c < 0 then 0 else min c.toNat 255) ∧ t.rd PCR_THERM_TJ_FIELD = (if f < 0 then 0 else min f.toNat 255)) ∧
  (∀ (c f : Int) (s : State), 100 ≤ c → f < 115 → c < 115 → s.flag PCR_THERM_HOT = false →
    Answers (exec (.thermalSample c f) s) fun t => t.rd PCR_THERM_HOT = 1 ∧ Raised 287 s t ∧
      t.rd PCR_THERM_THERM_TRIP = s.rd PCR_THERM_THERM_TRIP) ∧
  (∀ (c f : Int) (s : State), 115 ≤ c → s.rd PCR_THERM_TJ_CORE < 115 →
    Answers (exec (.thermalSample c f) s) fun t => t.rd PCR_THERM_THERM_TRIP = 1 ∧ t.rd RGE_STAT_ARMED = 0 ∧ t.rd AFE_CFG_EN = 0 ∧
      (∀ k : Fin 24, t.rd ILU_SINK_CTRL_EN k = 0) ∧ ∀ a : Fin 4, t.rd AXS_CTRL_EN a = 0) ∧
  (∀ (c f : Int) (s : State), c < 95 → f < 95 → Answers (exec (.thermalSample c f) s) fun t => t.rd PCR_THERM_HOT = 0)

/-- The sources of ticks (R53 to R57, R60, R469, R392): a sample of a web encoder, the division of the elapsed count, a tick of the ring.
The value of a Log moves by one, around 2^48, and its C follows forward. -/
def Obligations.TicksMoveTheLog : Prop :=
  (∀ (m : Fin 2) (n : Fin 4) (a b z : Bool) (now : Nat) (s : State), logsRun s = true → s.rd LOG_WE_CFG_FILTER m = 0 →
    (∀ i : Fin 128, s.rd LOG_WP_CTRL_MODE i = 0) → ringDelayed s n = false → s.rd LOG_CFG_SRC n = 1 + m → s.rd LOG_CFG_DECODE n = 2 →
    ((s.encoder m).a != a) ≠ ((s.encoder m).b != b) →
    Answers (exec (.encoderSample m a b z now) s) fun t =>
      logValue t n = (if quadReverse (s.encoder m).a a b != s.flag LOG_CFG_INVERT n then logValue s n + (2 ^ 48 - 1) else logValue s n + 1) % 2 ^ 48 ∧
      t.rd LOG_STAT_DIR n = (if quadReverse (s.encoder m).a a b != s.flag LOG_CFG_INVERT n then 1 else 0) ∧
      (t.encoder m).a = a ∧ (t.encoder m).b = b) ∧
  (∀ (m : Fin 2) (a b z : Bool) (now : Nat) (s : State), logsRun s = true → s.rd LOG_WE_CFG_FILTER m = 0 →
    (s.encoder m).a ≠ a → (s.encoder m).b ≠ b →
    Answers (exec (.encoderSample m a b z now) s) fun t => Counted LOG_WE_ERR_COUNT m 1 s t ∧ Raised (26 + m) s t ∧
      (∀ n : Fin 4, logValue t n = logValue s n) ∧ (t.encoder m).a = a ∧ (t.encoder m).b = b) ∧
  (∀ (m : Fin 2) (z : Bool) (now : Nat) (s : State), logsRun s = true → s.rd LOG_WE_CFG_FILTER m = 0 → s.flag LOG_WE_CFG_Z_EN m = true →
    (s.encoder m).z ≠ z → z ≠ s.flag LOG_WE_CFG_Z_POL m →
    Answers (exec (.encoderSample m (s.encoder m).a (s.encoder m).b z now) s) fun t => Raised (24 + m) s t ∧
      t.rd2 LOG_WE_ZLATCH_LO_VALUE LOG_WE_ZLATCH_HI_VALUE m = logValue s (s.rd LOG_WE_CFG_ZLOG m) ∧ ∀ n : Fin 4, logValue t n = logValue s n) ∧
  (∀ (n : Fin 4) (s : State), logsRun s = true → (∀ i : Fin 128, s.rd LOG_WP_CTRL_MODE i = 0) → ringDelayed s n = false → s.rd LOG_CFG_SRC n = 8 →
    Answers (exec (.chronoLogTick (BitVec.ofNat 4 (2 ^ n.val))) s) fun t => logValue t n = (logValue s n + 1) % 2 ^ 48 ∧
      (timingRef s = true → t.elapsed = nextRun s (8 + n) (tickDiv s n) ∧ t.elapsed % tickDiv s n = 0 ∧ t.elapsed ≤ s.elapsed + tickDiv s n) ∧
      s.elapsed ≤ t.elapsed ∧ t.rd LOG_STAT_DIR n = 0 ∧ ∀ k : Fin 4, k ≠ n → logValue t k = logValue s k) ∧
  (∀ (n : Fin 4) (s : State), s.active 0 = true → (∀ i : Fin 128, s.rd LOG_WP_CTRL_MODE i = 0) → ringDelayed s n = false → s.rd LOG_CFG_SRC n = 8 →
    (s.log n).c = logValue s n → (s.log n).genOn = true → (s.log n).pos = (logValue s n + 1) % 2 ^ 48 → (s.log n).lastIssue = none →
    (s.log n).pend = none →
    Answers (exec (.chronoLogTick (BitVec.ofNat 4 (2 ^ n.val))) s) fun t => t.rd LOG_LG_LINE_LINE n = (s.log n).k % 2 ^ 32 ∧
      (t.log n).k = ((s.log n).k + 1) % 2 ^ 32 ∧ (t.log n).c = (logValue s n + 1) % 2 ^ 48 ∧
      (t.log n).pos = ((s.log n).pos + (s.log n).int + (if (s.log n).den ≤ (s.log n).rem + (s.log n).num then 1 else 0)) % 2 ^ 48) ∧
  (∀ (n : Fin 4) (x : Nat) (rev : Bool) (l : List (Nat × Bool)) (s : State), logsRun s = true → (∀ i : Fin 128, s.rd LOG_WP_CTRL_MODE i = 0) →
    s.rd LOG_CFG_SRC n = 7 → isLead s = false → s.flag LOG_STAT_SRC_LOST n = false → kvGet (fun _ => []) s.ring.waiting n = (x, rev) :: l →
    Answers (exec (.ringLogTick n) s) fun t =>
      logValue t n = (if rev then logValue s n + (2 ^ 48 - 1) else logValue s n + 1) % 2 ^ 48 ∧ kvGet (fun _ => []) t.ring.waiting n = l ∧
      ∀ k : Fin 4, k ≠ n → logValue t k = logValue s k)

/-- The host's writes to the Logs (R61, R65, R66, R69, R74, R468, R469), and the loss of a follower's path (R78, R393).
That `LOG_SRC_WRITE` in the swap of `P0` is a write of its payload is the model's choice (notes/assumptions/23.md). -/
def Obligations.LogWritesTakeEffect : Prop :=
  (∀ (n : Fin 4) (hi : Word) (s : State), Reaches s (LOG_PRESET_HI.off n 0) → s.rd LOG_CFG_SRC n ≠ 7 →
    Answers (exec (.logPreset n hi) s) fun t =>
      logValue t n = s.rd LOG_PRESET_LO_VALUE n + 2 ^ 32 * (hi.toNat % 2 ^ 16) ∧ (t.log n).c = logValue t n ∧
      ∀ k : Fin 4, k ≠ n → logValue t k = logValue s k) ∧
  (∀ (n : Fin 4) (hi : Word) (s : State), Reaches s (LOG_PRESET_HI.off n 0) → s.rd LOG_CFG_SRC n = 7 →
    Answers (exec (.logPreset n hi) s) fun t => logValue t n = logValue s n ∧ t.logs = s.logs) ∧
  (∀ (n : Fin 4) (v : Word) (s : State), s.swapping 0 = true → Answers (exec (.logSrcWrite n v) s) fun t =>
      t.get (LOG_CFG.off n 0) = v &&& 0xFF03130F#32 ∧
      (srcCounts (s.rd LOG_CFG_SRC n) = false → srcCounts (v.toNat % 16) = true → (t.log n).c = logValue s n) ∧
      (srcCounts (s.rd LOG_CFG_SRC n) = true → t.logs = s.logs) ∧
      ∀ o, settleMask o = 0 → o ≠ LOG_CFG.off n 0 → o ≠ LOG_STAT.off n 0 → t.get o = s.get o) ∧
  (∀ (n : Fin 4) (v : Word) (s : State), s.swapping 0 = false → Reaches s (LOG_CFG.off n 0) →
    (s.get (LOG_CFG.off n 0) ^^^ v) &&& 0x3130F#32 = 0 → Answers (exec (.logSrcWrite n v) s) fun t =>
      t.get (LOG_CFG.off n 0) = v &&& 0xFF03130F#32 ∧ t.logs = s.logs ∧
      ∀ o, settleMask o = 0 → o ≠ LOG_CFG.off n 0 → o ≠ LOG_STAT.off n 0 → o ≠ GLB_ORDER_CNT.off 0 0 → t.get o = s.get o) ∧
  (∀ (n : Fin 4) (v : Word) (s : State), s.swapping 0 = false → Reaches s (LOG_CFG.off n 0) →
    (s.get (LOG_CFG.off n 0) ^^^ v) &&& 0x3130F#32 ≠ 0 → Answers (exec (.logSrcWrite n v) s) fun t =>
      t.get (LOG_CFG.off n 0) = s.get (LOG_CFG.off n 0) ∧ t.logs = s.logs ∧ Counted HRN_REJ_LOCK_REJECT 0 1 s t ∧
      t.rd HRN_REJ_ADDR_OFFSET = LOG_CFG.off n 0 ∧ Raised 2 s t) ∧
  (∀ (n : Fin 4) (v : Word) (s : State), Reaches s (LOG_TICKDIV.off n 0) →
    Answers (exec (.tickdivWrite n v) s) fun t => t.rd LOG_TICKDIV_DIV n = v.toNat % 2 ^ 24 ∧
      (s.rd LOG_TICKDIV_DIV n ≠ v.toNat % 2 ^ 24 → kvGet (fun _ => 0) t.timers (8 + n) = s.elapsed) ∧
      ∀ o, settleMask o = 0 → o ≠ LOG_TICKDIV.off n 0 → o ≠ GLB_ORDER_CNT.off 0 0 → t.get o = s.get o) ∧
  (∀ (n : Fin 4) (v : Word) (s : State), Reaches s (LOG_LG_PITCH_FRAC.off n 0) → 0 < s.rd LOG_LG_PITCH_INT_INT n →
    v.toNat / 2 ^ 16 < (if v.toNat % 2 ^ 16 = 0 then 65536 else v.toNat % 2 ^ 16) → (s.log n).genOn = true →
    Answers (exec (.pitchWrite n v) s) fun t => t.get (LOG_LG_PITCH_FRAC.off n 0) = v ∧ (t.log n).pos = (s.log n).pos ∧
      (t.log n).pend = some (s.rd LOG_LG_PITCH_INT_INT n, v.toNat / 2 ^ 16, if v.toNat % 2 ^ 16 = 0 then 65536 else v.toNat % 2 ^ 16)) ∧
  (∀ (n : Fin 4) (v : Word) (s : State), Reaches s (LOG_LG_PITCH_FRAC.off n 0) → s.rd LOG_LG_PITCH_INT_INT n = 0 →
    Answers (exec (.pitchWrite n v) s) fun t => (t.log n).genOn = false ∧ t.rd LOG_STAT_CFG_ERR n = 1 ∧ t.rd LOG_STAT_GEN_RUN n = 0) ∧
  (∀ (n : Fin 4) (s : State), Reaches s (LOG_LG_CTRL.off n 0) → s.flag LOG_LG_CTRL_RUN n = false → pitchOk (pitchOf (s.log n)) = true →
    isAhead (s.log n).c (s.rd2 LOG_LG_ORIGIN_LO_ORIGIN LOG_LG_ORIGIN_HI_ORIGIN n) = true →
    Answers (exec (.lineGenStart n) s) fun t => t.rd LOG_LG_CTRL_RUN n = 1 ∧ t.rd LOG_STAT_GEN_RUN n = 1 ∧ t.rd LOG_STAT_CFG_ERR n = 0 ∧
      (t.log n).genOn = true ∧ (t.log n).k = 0 ∧ (t.log n).pos = s.rd2 LOG_LG_ORIGIN_LO_ORIGIN LOG_LG_ORIGIN_HI_ORIGIN n) ∧
  (∀ (n : Fin 4) (s : State), Reaches s (LOG_LG_CTRL.off n 0) → s.flag LOG_LG_CTRL_RUN n = false → pitchOk (pitchOf (s.log n)) = false →
    Answers (exec (.lineGenStart n) s) fun t => t.rd LOG_STAT_GEN_RUN n = 0 ∧ t.rd LOG_STAT_CFG_ERR n = 1 ∧ t.logs = s.logs) ∧
  (∀ (n : Fin 4) (s : State), Reaches s (LOG_LG_CTRL.off n 0) →
    Answers (exec (.lineGenStop n) s) fun t => t.rd LOG_LG_CTRL_RUN n = 0 ∧ t.rd LOG_STAT_GEN_RUN n = 0 ∧ (t.log n).genOn = false ∧
      t.rd LOG_LG_CTRL_MINPER n = s.rd LOG_LG_CTRL_MINPER n) ∧
  (∀ (i : Fin 128) (hi : Word) (s : State), Reaches s (LOG_WP_POS_HI.off i 0) →
    Answers (exec (.wpPosApply i hi) s) fun t =>
      wpPos t i = (kvGet (fun _ => 0) s.wpLo i + 2 ^ 32 * (hi.toNat % 2 ^ 16)) % 2 ^ 48 ∧ ∀ k : Fin 128, k ≠ i → wpPos t k = wpPos s k) ∧
  (∀ (i : Fin 128) (v : Word) (s : State), Reaches s (LOG_WP_CTRL.off i 0) →
    Answers (exec (.wpModeWrite i v) s) fun t => t.rd LOG_WP_CTRL_MODE i = v.toNat % 8 ∧
      t.rd LOG_WP_CTRL_ARMED i = (if 1 ≤ v.toNat % 8 ∧ v.toNat % 8 ≤ 4 then 1 else 0) ∧ t.rd LOG_WP_CTRL_PERIOD i = v.toNat / 2 ^ 16 ∧
      ∀ o, settleMask o = 0 → o ≠ LOG_WP_CTRL.off i 0 → o ≠ GLB_ORDER_CNT.off 0 0 → t.get o = s.get o) ∧
  (∀ (hi : Word) (s : State), Reaches s (LOG_CHRONO_SET_HI.off 0 0) → isFollower s = false →
    s.chrono ≤ s.rd LOG_CHRONO_SET_LO + 2 ^ 32 * hi.toNat →
    Answers (exec (.chronoSet hi) s) fun t => t.chrono = s.rd LOG_CHRONO_SET_LO + 2 ^ 32 * hi.toNat ∧ Raised 30 s t) ∧
  (∀ (hi : Word) (s : State), Reaches s (LOG_CHRONO_SET_HI.off 0 0) → s.rd LOG_CHRONO_SET_LO + 2 ^ 32 * hi.toNat < s.chrono →
    Answers (exec (.chronoSet hi) s) fun t => t.chrono = s.chrono) ∧
  (∀ (n : Fin 4) (s : State), s.rd LOG_CFG_SRC n = 7 → isLead s = false → logsRun s = true → s.flag LOG_STAT_SRC_LOST n = false →
    Answers (exec (.logPathTimeout n) s) fun t => t.rd LOG_STAT_SRC_LOST n = 1 ∧ Raised (20 + n) s t ∧ t.ring.path = false ∧
      kvGet (fun _ => []) t.ring.waiting n = [] ∧ t.logs = s.logs) ∧
  (∀ (n : Fin 4) (s : State), s.rd LOG_CFG_SRC n ≠ 7 →
    Answers (exec (.logPathTimeout n) s) fun t => t.ring = s.ring ∧ ∀ o, settleMask o = 0 → t.get o = s.get o)

/-- The lanes (R102 to R105, R461): enabling and retraining begin at CDR with a TRAIN frame to every head; the training states follow
one another; a scan decides between UP and WEAK; a loss of lock is counted and relocked or retrained. -/
def Obligations.LanesTrainAndRelock : Prop :=
  (∀ (l : Fin 8) (s : State), Reaches s (SNS_LANE_CTRL.off l 0) → s.flag SNS_LANE_CTRL_EN l = false → s.domain (5 + l) = true →
    Answers (exec (.laneEnable l) s) fun t => t.rd SNS_LANE_CTRL_EN l = 1 ∧ t.rd SNS_LANE_CTRL_EYE_MIN l = s.rd SNS_LANE_CTRL_EYE_MIN l ∧
      t.rd SNS_LANE_STAT_STATE l = 1 ∧ ∀ h : Fin 4, Out.laneFrame l h 5 [] ∈ t.outs) ∧
  (∀ (l : Fin 8) (s : State), Reaches s (SNS_LANE_CTRL.off l 0) → s.flag SNS_LANE_CTRL_EN l = false → s.domain (5 + l) = false →
    Answers (exec (.laneEnable l) s) fun t => t.rd SNS_LANE_CTRL_EN l = 1 ∧ t.rd SNS_LANE_STAT_STATE l = 0) ∧
  (∀ (l : Fin 8) (s : State), Reaches s (SNS_LANE_CTRL.off l 0) → s.flag SNS_LANE_CTRL_EN l = true → s.domain (5 + l) = true →
    Answers (exec (.laneRetrain l) s) fun t => t.rd SNS_LANE_STAT_STATE l = 1 ∧ (∀ h : Fin 4, Out.laneFrame l h 5 [] ∈ t.outs) ∧
      ∀ c : Fin 12, s.rd SNS_CH_MAP_LANE c = l → ∀ o ∈ (t.chan c).outst, o.lock = true) ∧
  (∀ (l : Fin 8) (s : State), s.rd SNS_LANE_STAT_STATE l = 1 → Answers (exec (.laneCdrLock l) s) fun t => t.rd SNS_LANE_STAT_STATE l = 2 ∧
      ∀ o, settleMask o = 0 → o ≠ SNS_LANE_STAT.off l 0 → t.get o = s.get o) ∧
  (∀ (l : Fin 8) (s : State), s.rd SNS_LANE_STAT_STATE l = 2 → Answers (exec (.laneBlockLock l) s) fun t => t.rd SNS_LANE_STAT_STATE l = 3 ∧
      ∀ o, settleMask o = 0 → o ≠ SNS_LANE_STAT.off l 0 → t.get o = s.get o) ∧
  (∀ (l : Fin 8) (e : Fin 65) (c : Fin 12) (s : State), s.rd SNS_LANE_STAT_STATE l = 3 → s.rd SNS_CH_MAP_LANE c = l →
    Answers (exec (.laneEyescanDone l e) s) fun t => t.rd SNS_LANE_STAT_EYE l = e ∧ Raised (35 + 4 * c) s t ∧
      t.rd SNS_LANE_STAT_STATE l = if s.rd SNS_LANE_CTRL_EYE_MIN l ≤ e then 4 else 5) ∧
  (∀ (l : Fin 8) (s : State), s.rd SNS_LANE_STAT_STATE l = 5 → s.domain (5 + l) = true →
    Answers (exec (.laneWeakRetry l) s) fun t => t.rd SNS_LANE_STAT_STATE l = 1 ∧ ∀ h : Fin 4, Out.laneFrame l h 5 [] ∈ t.outs) ∧
  (∀ (l : Fin 8) (e : Fin 65) (c : Fin 12) (s : State), s.rd SNS_LANE_STAT_STATE l = 4 → s.rd SNS_CH_MAP_LANE c = l →
    Answers (exec (.laneEyeRescan l e) s) fun t => t.rd SNS_LANE_STAT_EYE l = e ∧ t.rd SNS_LANE_STAT_STATE l = 4 ∧
      (e < s.rd SNS_LANE_CTRL_EYE_MIN l → (s.laneSt l).below = false → Raised (35 + 4 * c) s t)) ∧
  (∀ (l : Fin 8) (s : State), s.rd SNS_LANE_STAT_STATE l = 4 →
    Answers (exec (.laneLossOfLock l) s) fun t => t.rd SNS_LANE_STAT_STATE l = 0 ∧ Counted SNS_LANE_ERR_LOCKLOSS l 1 s t ∧
      (t.laneSt l).relock = true ∧ ∀ c : Fin 12, s.rd SNS_CH_MAP_LANE c = l → ∀ o ∈ (t.chan c).outst, o.lock = true) ∧
  (∀ (l : Fin 8) (s : State), (s.laneSt l).relock = true → s.powered (5 + l) = true →
    Answers (exec (.laneRelock l) s) fun t => t.rd SNS_LANE_STAT_STATE l = 4 ∧ (t.laneSt l).relock = false) ∧
  (∀ (l : Fin 8) (s : State), s.powered (5 + l) = false →
    Answers (exec (.laneRelock l) s) fun t => t.lane = s.lane ∧ ∀ o, settleMask o = 0 → t.get o = s.get o) ∧
  (∀ (l : Fin 8) (s : State), (s.laneSt l).relock = true → s.domain (5 + l) = true →
    Answers (exec (.laneRelockTimeout l) s) fun t => t.rd SNS_LANE_STAT_STATE l = 1 ∧ (t.laneSt l).relock = false)

/-- Head commands and packets (R90, R98 to R100): what each frame carries, the READ's answer and its timeout, a packet that no head takes,
a bad header, a sub-line kept with its line, and a packet cut short kept as one whose check failed. -/
def Obligations.HeadsAndPacketsTakeEffect : Prop :=
  (∀ (l : Fin 8) (h : Fin 4) (a : BitVec 12) (s : State), Reaches s (SNS_HCMD.off l 0) →
    Answers (exec (.headWrite l h a) s) fun t => Out.laneFrame l h 2 [a.toNat, s.rd SNS_HDATA_DATA l] ∈ t.outs ∧ t.rd SNS_HDATA_DONE l = 1 ∧
      t.rd SNS_HDATA_TMO l = 0 ∧ ∀ o, settleMask o = 0 → o ≠ SNS_HDATA.off l 0 → o ≠ GLB_ORDER_CNT.off 0 0 → t.get o = s.get o) ∧
  (∀ (l : Fin 8) (h : Fin 4) (a : BitVec 12) (s : State), Reaches s (SNS_HCMD.off l 0) →
    Answers (exec (.headRead l h a) s) fun t => Out.laneFrame l h 3 [a.toNat] ∈ t.outs ∧ t.rd SNS_HDATA_DONE l = 0 ∧ t.rd SNS_HDATA_TMO l = 0 ∧
      (t.laneSt l).reading = some (h.val, a.toNat)) ∧
  (∀ (l : Fin 8) (h : Fin 4) (s : State), Reaches s (SNS_HCMD.off l 0) →
    Answers (exec (.resetHead l h) s) fun t => Out.laneFrame l h 6 [] ∈ t.outs ∧ t.rd SNS_HDATA_DONE l = 1 ∧ t.rd SNS_HDATA_TMO l = 0 ∧
      (t.laneSt l).reading = none) ∧
  (∀ (l : Fin 8) (s : State), (s.laneSt l).reading ≠ none → Answers (exec (.headReadTimeout l) s) fun t => t.rd SNS_HDATA_TMO l = 1 ∧
      (t.laneSt l).reading = none ∧ ∀ o, settleMask o = 0 → o ≠ SNS_HDATA.off l 0 → t.get o = s.get o) ∧
  (∀ (l : Fin 8) (d0 : BitVec 56) (ds : List (BitVec 64)) (d1 : BitVec 56) (s : State), TakesPackets s l →
    let p := parsePacket (upBytes d0 ds) (blockBytes 4 d1.toNat) true
    (p.hdrOk = false → Answers (exec (.upstreamPacket l (upBlocks d0 ds (.ctrl 0xE1 d1))) s) fun t =>
      Counted SNS_LANE_ERR_HDR l 1 s t ∧ t.ch = s.ch ∧ (t.laneSt l).rx = none) ∧
    (p.hdrOk = true → boundCh s l p.head = none → Answers (exec (.upstreamPacket l (upBlocks d0 ds (.ctrl 0xE1 d1))) s) fun t =>
      Counted SNS_LANE_ERR_UNMAPPED l 1 s t ∧ t.ch = s.ch ∧ (t.laneSt l).rx = none) ∧
    (p.hdrOk = true → boundCh s l p.head ≠ none → p.kind = 1 → (s.laneSt l).reading = some (p.head, p.regAddr) →
      Answers (exec (.upstreamPacket l (upBlocks d0 ds (.ctrl 0xE1 d1))) s) fun t => t.rd SNS_HDATA_DATA l = p.regData ∧ t.rd SNS_HDATA_DONE l = 1 ∧
        t.rd SNS_HDATA_TMO l = 0 ∧ (t.laneSt l).reading = none)) ∧
  (∀ (l : Fin 8) (d0 : BitVec 56) (ds : List (BitVec 64)) (d1 : BitVec 56) (c : Nat) (o : OLine) (os : List OLine) (s : State), TakesPackets s l →
    let p := parsePacket (upBytes d0 ds) (blockBytes 4 d1.toNat) true
    p.hdrOk = true → boundCh s l p.head = some c → p.kind = 0 → (s.chan c).outst = o :: os → o.logN = p.stampLog → o.logV = p.stamp →
    p.stamp ≠ 2 ^ 48 - 1 → s.rd SNS_TPL_CFG_HDR c = 0 → p.short = false → p.colour ≤ s.rd SNS_TPL_CFG_COLOURS c → o.subs = [] → 2 ≤ subCount s c →
    (Answers (exec (.upstreamPacket l (upBlocks d0 ds (.ctrl 0xE1 d1))) s) fun t => (t.chan c).outst = { o with subs := [(p.colour, p)] } :: os) ∧
    ∀ ty : BitVec 8, ty ≠ 0xE1 → ty ≠ 0x1E → Answers (exec (.upstreamPacketCut l (upBlocks d0 ds (.ctrl ty d1))) s) fun t =>
      (t.chan c).outst = { o with subs := [(p.colour, { p with crcOk := false })] } :: os)

/-- The channels (R80, R82, R83, R86 to R89, R92, R93, R99, R366, R367): enabling numbers from 0 and sends the pattern, disabling closes
every line, a settled line start is taken, lost or overrun, line events, the end of the template, a line's closing, exposure writes.
The model's choices in it: LATE on the channel's newest line (notes/assumptions/73.md), the phase of the slots, the slots of a message and when
an edge is late (notes/assumptions/91.md), the exposure in force behind one that is held (notes/assumptions/49.md), and the commands that
move the elapsed count to an event's effective time (notes/assumptions/101.md). -/
def Obligations.ChannelsTakeEffect : Prop :=
  (∀ (c : Fin 12) (s : State), Reaches s (SNS_CH_CFG.off c 0) → (s.chan c).on = false → tplBad s c = false → bindTaken s c = false →
    Answers (exec (.channelEnable c) s) fun t => t.rd SNS_CH_CFG_EN c = 1 ∧ (t.chan c).on = true ∧ (t.chan c).next = 0 ∧ (t.chan c).outst = [] ∧
      Out.laneFrame (s.rd SNS_CH_MAP_LANE c) (s.rd SNS_CH_MAP_HEAD c) 1 (s.rd SNS_TPL_CFG_PIXPER c :: s.rd SNS_TPL_CFG_SLOTS c ::
        (List.range (s.rd SNS_TPL_CFG_SLOTS c + 1)).flatMap fun k => [s.rd SNS_TPL_PIX_OFFSET c k, s.rd SNS_TPL_PIX_PHASES c k]) ∈ t.outs) ∧
  (∀ (c : Fin 12) (s : State), Reaches s (SNS_CH_CFG.off c 0) → (s.chan c).on = false → tplBad s c = true →
    Answers (exec (.channelEnable c) s) fun t => t.rd SNS_CH_CFG_EN c = 1 ∧ t.rd SNS_CH_STAT_CFG_ERR c = 1 ∧ (t.chan c).on = false) ∧
  (∀ (c : Fin 12) (s : State), Reaches s (SNS_CH_CFG.off c 0) → (s.chan c).on = true →
    Answers (exec (.channelDisable c) s) fun t => t.rd SNS_CH_CFG_EN c = 0 ∧ (t.chan c).on = false ∧ (t.chan c).outst = [] ∧
      t.rd SNS_CH_STAT_BUSY c = 0 ∧ t.rd SNS_CH_STAT_OUTST c = 0) ∧
  (∀ (c : Fin 12) (r : List Nat) (s : State), (s.chan c).settle = 0 :: r → (s.chan c).on = true → laneUp s (s.rd SNS_CH_MAP_LANE c) = true →
    s.loaded 1 = true → s.quiescing 1 = false → (s.chan c).busy = false → (s.chan c).outst = [] →
    Answers (exec (.settleLineStart c) s) fun t => (t.chan c).settle = r ∧ (t.chan c).busy = true ∧ (t.chan c).last = some (s.chan c).next ∧
      (t.chan c).next = ((s.chan c).next + 1) % 2 ^ 32 ∧ t.rd SNS_CH_STAT_BUSY c = 1 ∧ t.rd SNS_CH_STAT_OUTST c = 1 ∧
      edgeMessage s (s.rd SNS_CH_MAP_LANE c) (s.rd SNS_CH_MAP_HEAD c) 0 1 (slotAt s.elapsed + 15) ∈ t.outs) ∧
  (∀ (c : Fin 12) (r : List Nat) (s : State), (s.chan c).settle = 0 :: r → (s.chan c).on = true → laneUp s (s.rd SNS_CH_MAP_LANE c) = false →
    Answers (exec (.settleLineStart c) s) fun t => (t.chan c).settle = r ∧ (t.chan c).gap = true ∧ Counted SNS_CH_LOST_LOST c 1 s t ∧
      (t.chan c).outst = (s.chan c).outst) ∧
  (∀ (c : Fin 12) (r : List Nat) (s : State), (s.chan c).settle = 0 :: r → (s.chan c).on = true → laneUp s (s.rd SNS_CH_MAP_LANE c) = true →
    s.loaded 1 = true → s.quiescing 1 = false → (s.chan c).busy = true →
    Answers (exec (.settleLineStart c) s) fun t => (t.chan c).settle = r ∧ (t.chan c).gap = true ∧ Counted SNS_CH_LOST_OVERRUN c 1 s t ∧
      Raised (34 + 4 * c) s t ∧ (t.chan c).outst = (s.chan c).outst) ∧
  (∀ (c : Fin 12) (eff want w : Nat) (r : List (Nat × Nat × Nat)) (s : State), (s.chan c).sched = (eff, want, w) :: r →
    1 ≤ bitsOf w 28 4 → bitsOf w 28 4 ≤ 6 → (edgeSlots s (s.rd SNS_CH_MAP_LANE c) want).1 = want →
    Answers (exec (.lineEventEdge c) s) fun t =>
      edgeMessage s (s.rd SNS_CH_MAP_LANE c) (s.rd SNS_CH_MAP_HEAD c) (bitsOf w 28 4) (bitsOf w 27 1) want ∈ t.outs ∧
      t.chan c = { s.chan c with sched := r } ∧ ∀ o, settleMask o = 0 → t.get o = s.get o) ∧
  (∀ (c : Fin 12) (eff want w : Nat) (r : List (Nat × Nat × Nat)) (s : State), (s.chan c).sched = (eff, want, w) :: r →
    1 ≤ bitsOf w 28 4 → bitsOf w 28 4 ≤ 6 → (edgeSlots s (s.rd SNS_CH_MAP_LANE c) want).1 ≠ want →
    Answers (exec (.lineEventEdge c) s) fun t => Counted SNS_LANE_ERR_LATE (s.rd SNS_CH_MAP_LANE c) 1 s t ∧ (t.chan c).sched = r ∧
      edgeMessage s (s.rd SNS_CH_MAP_LANE c) (s.rd SNS_CH_MAP_HEAD c) (bitsOf w 28 4) (bitsOf w 27 1) want ∈ t.outs) ∧
  (∀ (c : Fin 12) (eff want w : Nat) (r : List (Nat × Nat × Nat)) (s : State), (s.chan c).sched = (eff, want, w) :: r → bitsOf w 28 4 = 9 →
    Answers (exec (.lineEventEdge c) s) fun t => (t.chan c).blank = (bitsOf w 27 1 == 1) ∧ (t.chan c).sched = r) ∧
  (∀ (c : Fin 12) (s : State), (s.chan c).busy = true →
    Answers (exec (.templateEnd c) s) fun t => (t.chan c).busy = false ∧ (t.chan c).winOpen = 0 ∧ (t.chan c).sched = [] ∧
      t.rd SNS_CH_STAT_BUSY c = 0 ∧ (∀ o ∈ (t.chan c).outst.getLast?, o.ended = true) ∧
      ((∀ x ∈ (s.chan c).sched, (s.chan c).endClk < x.1) → (s.chan c).endAt ≤ s.elapsed → timingRef s = true →
        (∀ x ∈ s.sink, x.2.since = none ∧ x.2.awl = none) → ∀ o, settleMask o = 0 → o ≠ SNS_CH_STAT.off c 0 → t.get o = s.get o)) ∧
  (∀ (c : Fin 12) (o : OLine) (os : List OLine) (s : State), (s.chan c).outst = o :: os → o.ended = true →
    Answers (exec (.lineCloseTimeout c) s) fun t => (t.chan c).outst = os ∧ t.rd SNS_CH_STAT_OUTST c = os.length % 8) ∧
  (∀ (c : Fin 12) (v : Word) (s : State), Reaches s (SNS_EXP_LONG.off c 0) → stampNow s = none →
    Answers (exec (.exposureWrite c false v) s) fun t => t.rd SNS_EXP_LONG_EXP c = v.toNat % 2 ^ 24 ∧ (t.chan c).holdL = none ∧
      t.rd SNS_EXP_SHORT_EXP c = s.rd SNS_EXP_SHORT_EXP c) ∧
  (∀ (c : Fin 12) (w : Nat) (v : Word) (s : State), Reaches s (SNS_EXP_SHORT.off c 0) → stampNow s = some (c.val, w) →
    lineAhead ((w + 1) % 2 ^ 32) ((s.chan c).last.getD minusOne) = true →
    Answers (exec (.exposureWrite c true v) s) fun t => t.rd SNS_EXP_SHORT_EXP c = v.toNat % 2 ^ 24 ∧ (t.chan c).holdS = some ((w + 1) % 2 ^ 32) ∧
      t.rd SNS_EXP_LONG_EXP c = s.rd SNS_EXP_LONG_EXP c)

/-- Captures, the detector and the store (R117, R119, R120, R122, R127): what a start, an abort, a restart and a write into the window do. -/
def Obligations.CapturesAndStoreTakeEffect : Prop :=
  (∀ (ch : Fin 16) (white force : Bool) (s : State), Reaches s (IPC_CAP_CTRL.off 0 0) → s.flag IPC_CAP_STAT_BUSY = false → ch.val < 12 →
    s.flag IPC_CH_CTRL_SHD_EN ch = true → white = false ∨ force = true ∨ s.flag IPC_CH_STAT_LAMP_STABLE ch = true →
    Answers (exec (.captureStart ch white force) s) fun t => t.rd IPC_CAP_STAT_BUSY = 1 ∧ t.rd IPC_CAP_STAT_ERR = 0 ∧
      t.rd IPC_CAP_STAT_CHANNEL = ch ∧ t.rd IPC_CAP_STAT_SEEN = 0 ∧ t.rd IPC_CAP_STAT_ACCEPTED = 0 ∧ t.cap.white = white ∧ t.cap.force = force ∧
      ∀ k p, k < 4 → p < 16384 → storeWord t (accOff k p) = 0) ∧
  (∀ (ch : Fin 16) (white force : Bool) (s : State), Reaches s (IPC_CAP_CTRL.off 0 0) → s.flag IPC_CAP_STAT_BUSY = true →
    Answers (exec (.captureStart ch white force) s) fun t => t.rd IPC_CAP_STAT_ERR = 1 ∧ t.rd IPC_CAP_STAT_BUSY = 1 ∧ t.cap = s.cap) ∧
  (∀ (ch : Fin 16) (white force : Bool) (s : State), Reaches s (IPC_CAP_CTRL.off 0 0) → s.flag IPC_CAP_STAT_BUSY = false →
    12 ≤ ch.val ∨ s.flag IPC_CH_CTRL_SHD_EN ch = false →
    Answers (exec (.captureStart ch white force) s) fun t => t.rd IPC_CAP_STAT_ERR = 2 ∧ t.rd IPC_CAP_STAT_BUSY = 0) ∧
  (∀ (ch : Fin 16) (s : State), Reaches s (IPC_CAP_CTRL.off 0 0) → s.flag IPC_CAP_STAT_BUSY = false → ch.val < 12 →
    s.flag IPC_CH_CTRL_SHD_EN ch = true → s.flag IPC_CH_STAT_LAMP_STABLE ch = false →
    Answers (exec (.captureStart ch true false) s) fun t => t.rd IPC_CAP_STAT_ERR = 3 ∧ t.rd IPC_CAP_STAT_BUSY = 0) ∧
  (∀ s : State, Reaches s (IPC_CAP_CTRL.off 0 0) → s.flag IPC_CAP_STAT_BUSY = true →
    Answers (exec .captureAbort s) fun t => t.rd IPC_CAP_STAT_BUSY = 0 ∧ t.rd IPC_CAP_STAT_ERR = 7 ∧ Raised 81 s t) ∧
  (∀ s : State, Reaches s (IPC_CAP_CTRL.off 0 0) → s.flag IPC_CAP_STAT_BUSY = false →
    Answers (exec .captureAbort s) fun t => ∀ o, settleMask o = 0 → o ≠ GLB_ORDER_CNT.off 0 0 → t.get o = s.get o) ∧
  (∀ (c : Fin 12) (s : State), Reaches s (IPC_WARM.off c 0) →
    Answers (exec (.warmRestart c) s) fun t => t.rd IPC_CH_STAT_LAMP_STABLE c = 0 ∧ t.rd IPC_CH_STAT_WARM_COUNT c = 0 ∧ t.warmSt c = {} ∧
      t.rd IPC_WARM_EN c = s.rd IPC_WARM_EN c ∧ t.rd IPC_WARM_LIMIT c = s.rd IPC_WARM_LIMIT c) ∧
  (∀ (c : Fin 12) (o : Nat) (v : Word) (s : State), Reaches s (0x1400000 + o) → o % 4 = 0 → o / 0x40000 = c → s.flag IPC_CH_CTRL_SHD_EN c = false →
    s.flag IPC_CAP_STAT_BUSY = false →
    Answers (exec (.shadingWindowWrite (BitVec.ofNat 22 o) v) s) fun t => t.get (0x1400000 + o) = v ∧ storeWord t o = v ∧ t.badPar.contains o = false ∧
      ∀ x, settleMask x = 0 → x ≠ GLB_ORDER_CNT.off 0 0 → t.get x = s.get x) ∧
  (∀ (c : Fin 12) (o : Nat) (v : Word) (s : State), Reaches s (0x1400000 + o) → o % 4 = 0 → o / 0x40000 = c → s.flag IPC_CH_CTRL_SHD_EN c = true →
    Answers (exec (.shadingWindowWrite (BitVec.ofNat 22 o) v) s) fun t => t.get (0x1400000 + o) = s.get (0x1400000 + o) ∧ t.badPar = s.badPar ∧
      Counted IPC_WIN_REJ_COUNT 0 1 s t) ∧
  (∀ (c : Fin 12) (o : Nat) (v : Word) (s : State), Reaches s (0x1700000 + o) → o % 4 = 0 → o / 0x10000 = c → s.flag IPC_CH_CTRL_LIN_EN c = false →
    Answers (exec (.shadingWindowWrite (BitVec.ofNat 22 (0x300000 + o)) v) s) fun t =>
      storeWord t (0x300000 + o) = v &&& 0xFFFFF#32)

/-- Parameters that apply at a line (R130, R150, R151, R366): a write stands in the register at once, the value in force stays until its
line, which for an unstamped write follows the channel's last line start and for a stamped one the line written; a second replaces the first and is counted. -/
def Obligations.TaggedWritesWaitForTheirLine : Prop :=
  (∀ (c : Fin 12) (v : Word) (s : State), Reaches s (IPC_KNEE.off c 0) → stampNow s = none →
    Answers (exec (.ipcParamWrite (BitVec.ofNat 25 (IPC_KNEE.off c 0)) v) s) fun t => t.rd IPC_KNEE_KNEE c = v.toNat % 2 ^ 20 ∧
      t.inForce IPC_KNEE_KNEE c = s.inForce IPC_KNEE_KNEE c ∧
      (kvGet (fun _ => {}) t.pend (tagKey IPC_KNEE_KNEE c 0)).e = ((s.chan c).last.getD minusOne + 1) % 2 ^ 32 ∧
      (kvGet (fun _ => {}) t.pend (tagKey IPC_KNEE_KNEE c 0)).ch = c ∧ t.ch = s.ch) ∧
  (∀ (c : Fin 12) (v : Word) (s : State), Reaches s (IPC_KNEE.off c 0) → stampNow s = none →
    (kvGet (fun _ => {}) s.pend (tagKey IPC_KNEE_KNEE c 0)).live = true →
    Answers (exec (.ipcParamWrite (BitVec.ofNat 25 (IPC_KNEE.off c 0)) v) s) fun t => Counted IPC_PEND_DISCARD_COUNT 0 1 s t) ∧
  (∀ (c : Fin 12) (w : Nat) (v : Word) (s : State), Reaches s (IPG_GEO_REF.off c 0) → stampNow s = some (c.val, w) →
    Answers (exec (.taggedWrite (BitVec.ofNat 25 (IPG_GEO_REF.off c 0)) v) s) fun t => t.rd IPG_GEO_REF_REF c = v.toNat ∧
      t.inForce IPG_GEO_REF_REF c = s.inForce IPG_GEO_REF_REF c ∧
      (kvGet (fun _ => {}) t.pend (tagKey IPG_GEO_REF_REF c 0)).e = (w + 1) % 2 ^ 32 ∧ t.rd GLB_ORDER_CNT_STAMP_IGN = s.rd GLB_ORDER_CNT_STAMP_IGN) ∧
  (∀ (c d : Fin 12) (w : Nat) (v : Word) (s : State), Reaches s (IPG_GEO_REF.off c 0) → stampNow s = some (d.val, w) → d ≠ c →
    Answers (exec (.taggedWrite (BitVec.ofNat 25 (IPG_GEO_REF.off c 0)) v) s) fun t => t.rd IPG_GEO_REF_REF c = v.toNat ∧
      (kvGet (fun _ => {}) t.pend (tagKey IPG_GEO_REF_REF c 0)).e = ((s.chan c).last.getD minusOne + 1) % 2 ^ 32 ∧
      Counted GLB_ORDER_CNT_STAMP_IGN 0 1 s t) ∧
  (∀ (p : Fin 64) (k : Fin 4) (v : Word) (s : State), Reaches s (IPG_FIR.off p k) → (∀ c : Fin 12, s.flag IPG_GEO_CFG_GEO_EN c = false ∧
      s.inForce IPG_GEO_CFG_GEO_EN c = 0) →
    Answers (exec (.firWrite p k v) s) fun t => t.get (IPG_FIR.off p k) = v ∧
      ∀ o, settleMask o = 0 → o ≠ IPG_FIR.off p k → o ≠ GLB_ORDER_CNT.off 0 0 → t.get o = s.get o) ∧
  (∀ (p : Fin 64) (k : Fin 4) (c : Fin 12) (v : Word) (s : State), Reaches s (IPG_FIR.off p k) → s.flag IPG_GEO_CFG_GEO_EN c = true →
    Answers (exec (.firWrite p k v) s) fun t => t.get (IPG_FIR.off p k) = s.get (IPG_FIR.off p k) ∧ Counted IPG_CNT_FIR_REJ 0 1 s t)

/-- The two paths of a line and the flush of a view (R145, R146, R148, R153): the oldest line leaves its zone and passes the stages, the
status shows the path and a missed deadline; a flush commits the open packet, whose queue raises its notice (R328). -/
def Obligations.LinesPassTheirPaths : Prop :=
  (∀ (c : Nat) (l : Line) (s : State), stagesOpen s = true → memoryChoice s = some (c, l) → c < 12 →
    Answers (exec .memoryPathTake s) fun t => (t.chan c).landed = (s.chan c).landed.drop 1 ∧
      t.rd IPG_CH_STAT_BACKLOG c = ((s.chan c).landed.length - 1) % 2 ^ 12) ∧
  (∀ (c : Nat) (l : Line) (s : State), stagesOpen s = true → memoryChoice s = some (c, l) → c < 12 → l.kind = 0 → deadline s c l < s.chrono →
    Answers (exec .memoryPathTake s) fun t => Counted IPG_CH_DROP_LATE c 1 s t ∧ Raised 87 s t ∧
      (kvGet (fun _ => 0) t.reflex.lineStat c).testBit 30 = true) ∧
  (∀ s : State, stagesOpen s = false → Answers (exec .memoryPathTake s) fun t => t.ch = s.ch ∧ ∀ o, settleMask o = 0 → t.get o = s.get o) ∧
  (∀ (c : Nat) (l : Line) (r : List Line) (s : State), inlineCh s = some c → (s.chan c).inl = l :: r → s.flag IPG_CH_STAT_INLINE_ACTIVE c = true →
    Answers (exec .inlineLineProcess s) fun t => (t.chan c).inl = r ∧ (t.chan c).landed = (s.chan c).landed ∧
      (l.kind = 0 → (kvGet (fun _ => 0) t.reflex.lineStat c).testBit 31 = true)) ∧
  (∀ (v : Fin 64) (s : State), Reaches s (IPG_VIEW_CFG.off v 0) → (s.viewSt v).lines ≠ 0 → (s.q (s.rd IPG_VIEW_CFG_QUEUE v)).held = [] →
    (s.q (s.rd IPG_VIEW_CFG_QUEUE v)).isOpen = true → (s.q (s.rd IPG_VIEW_CFG_QUEUE v)).prods.head? = some v.val →
    Answers (exec (.viewFlush v) s) fun t => (t.viewSt v).lines = 0 ∧ (t.viewSt v).key = [] ∧
      (t.q (s.rd IPG_VIEW_CFG_QUEUE v)).isOpen = false ∧ Raised (216 + s.rd IPG_VIEW_CFG_QUEUE v) s t ∧
      (t.q (s.rd IPG_VIEW_CFG_QUEUE v)).pkts.length = (s.q (s.rd IPG_VIEW_CFG_QUEUE v)).pkts.length + 1) ∧
  (∀ (v : Fin 64) (s : State), Reaches s (IPG_VIEW_CFG.off v 0) → (s.viewSt v).lines = 0 →
    Answers (exec (.viewFlush v) s) fun t => t.view = s.view ∧ t.rd IPG_VIEW_CFG_EN v = s.rd IPG_VIEW_CFG_EN v ∧
      t.rd IPG_VIEW_CFG_FLUSH v = s.rd IPG_VIEW_CFG_FLUSH v)

/-- Writes to an axis (R158, R164 to R167, R170, R172, R183, R187, R188): what a stop, a home command, a mode, an enable, a target, DMAX and JMAX and
a line pitch do, and when they are refused and counted. That a STOP is refused during the home sequence, and that a grid written is in
force from the next tick, are the model's choice (notes/assumptions/41.md, 98.md). -/
def Obligations.AxisCommandsTakeEffect : Prop :=
  (∀ (a : Fin 4) (s : State), Reaches s (AXS_CTRL.off a 0) → (s.ax a).home = 0 →
    Answers (exec (.axisStop a) s) fun t => t.rd AXS_CTRL_MODE a = 0 ∧ (t.ax a).v = (s.ax a).v ∧ t.rd AXS_CTRL_EN a = s.rd AXS_CTRL_EN a ∧
      t.rd AXS_CTRL_PROFILE a = s.rd AXS_CTRL_PROFILE a) ∧
  (∀ (a : Fin 4) (s : State), Reaches s (AXS_CTRL.off a 0) → (s.ax a).home ≠ 0 →
    Answers (exec (.axisStop a) s) fun t => Counted AXS_CNT_TGT_REJ a 1 s t ∧ Raised (98 + 4 * a) s t ∧ t.axis = s.axis) ∧
  (∀ (a : Fin 4) (s : State), Reaches s (AXS_CTRL.off a 0) → goalsClosed s a = false → limitAhead s a (homeDir s a) = false →
    Answers (exec (.axisHome a) s) fun t => t.rd AXS_CTRL_MODE a = 0 ∧ t.rd AXS_STAT_REF a = 0 ∧ (t.ax a).home = 1 ∧ (t.ax a).homeFrom = (s.ax a).p) ∧
  (∀ (a : Fin 4) (s : State), Reaches s (AXS_CTRL.off a 0) → s.flag AXS_SUP_STAT_STALL a = true →
    (s.rd AXS_CTRL_MODE a = 3 → (s.paceSt a).seam = false) →
    Answers (exec (.axisHome a) s) fun t => Counted AXS_CNT_TGT_REJ a 1 s t ∧ Raised (98 + 4 * a) s t ∧ t.axis = s.axis ∧
      t.rd AXS_STAT_REF a = s.rd AXS_STAT_REF a) ∧
  (∀ (a m : Fin 4) (s : State), Reaches s (AXS_CTRL.off a 0) → modeBad s a m = false →
    Answers (exec (.axisModeWrite a m) s) fun t => t.rd AXS_CTRL_MODE a = m ∧
      (m.val = 3 → s.rd AXS_CTRL_MODE a ≠ 3 → (s.paceSt a).seam = false → t.rd AXS_PACE_STAT_STATE a = 1)) ∧
  (∀ (a m : Fin 4) (s : State), Reaches s (AXS_CTRL.off a 0) → modeBad s a m = true → m ≠ 0 → s.rd AXS_CTRL_MODE a ≠ m →
    Answers (exec (.axisModeWrite a m) s) fun t => t.rd AXS_CTRL_MODE a = s.rd AXS_CTRL_MODE a ∧ t.axis = s.axis ∧
      Counted AXS_CNT_TGT_REJ a 1 s t ∧ Raised (98 + 4 * a) s t) ∧
  (∀ (a : Fin 4) (s : State), Reaches s (AXS_CTRL.off a 0) → s.flag AXS_CTRL_EN a = false → s.flag AXS_STAT_CFG_ERR a = false →
    s.flag AXS_SUP_STAT_OVERCURRENT a = false → calHoldsAxes s = false → s.pwr.d2dDown = false →
    (s.coilSt (2 * a)).st = 0 → (s.coilSt (2 * a + 1)).st = 0 →
    Answers (exec (.axisEnable a) s) fun t => t.rd AXS_CTRL_EN a = 1 ∧ t.rd AXS_SUP_STAT_ISET a = s.rd AXS_CUR_IRUN a ∧ t.rd AXS_DEV_DEV a = 0 ∧
      (t.coilSt (2 * a)).st = 1 ∧ (t.coilSt (2 * a + 1)).st = 1) ∧
  (∀ (a : Fin 4) (s : State), Reaches s (AXS_CTRL.off a 0) → s.flag AXS_CTRL_EN a = false →
    s.flag AXS_STAT_CFG_ERR a = true ∨ s.flag AXS_SUP_STAT_OVERCURRENT a = true → (s.rd AXS_CTRL_MODE a = 3 → (s.paceSt a).seam = false) →
    Answers (exec (.axisEnable a) s) fun t => t.rd AXS_CTRL_EN a = 0 ∧ t.coil = s.coil ∧ t.axis = s.axis) ∧
  (∀ (a : Fin 4) (v : Word) (s : State), Reaches s (AXS_TARGET.off a 0) → goalsClosed s a = false → targetBad s a (sext 32 v.toNat) = false →
    Answers (exec (.targetWrite a v) s) fun t => t.rd AXS_TARGET_TARGET a = v.toNat ∧ (t.ax a).newGoal = true ∧ (t.ax a).v = (s.ax a).v ∧
      ∀ o, settleMask o = 0 → o ≠ AXS_TARGET.off a 0 → o ≠ GLB_ORDER_CNT.off 0 0 → t.get o = s.get o) ∧
  (∀ (a : Fin 4) (v : Word) (s : State), Reaches s (AXS_TARGET.off a 0) → goalsClosed s a = true ∨ targetBad s a (sext 32 v.toNat) = true →
    Answers (exec (.targetWrite a v) s) fun t => t.rd AXS_TARGET_TARGET a = s.rd AXS_TARGET_TARGET a ∧ t.axis = s.axis ∧
      Counted AXS_CNT_TGT_REJ a 1 s t ∧ Raised (98 + 4 * a) s t) ∧
  (∀ (a : Fin 4) (v : Word) (s : State), Reaches s (AXS_DMAX.off a 0) →
    Answers (exec (.dmaxWrite a false v) s) fun t => t.rd AXS_DMAX_DMAX a = v.toNat ∧ t.axis = s.axis ∧
      ∀ o, settleMask o = 0 → o ≠ AXS_DMAX.off a 0 → o ≠ GLB_ORDER_CNT.off 0 0 → t.get o = s.get o) ∧
  (∀ (a : Fin 4) (v : Word) (s : State), Reaches s (AXS_JMAX.off a 0) →
    Answers (exec (.dmaxWrite a true v) s) fun t => t.rd AXS_JMAX_JMAX a = v.toNat ∧ t.axis = s.axis ∧
      ∀ o, settleMask o = 0 → o ≠ AXS_JMAX.off a 0 → o ≠ GLB_ORDER_CNT.off 0 0 → t.get o = s.get o) ∧
  (∀ (a : Fin 4) (v : Word) (s : State), Reaches s (AXS_LINE_PITCH.off a 0) →
    Answers (exec (.lineGridWrite a false v) s) fun t => t.rd AXS_LINE_PITCH_PITCH a = v.toNat ∧ t.ax a = { s.ax a with gridNew := true } ∧
      t.pace = s.pace ∧ ∀ o, settleMask o = 0 → o ≠ AXS_LINE_PITCH.off a 0 → o ≠ GLB_ORDER_CNT.off 0 0 → t.get o = s.get o) ∧
  (∀ (a : Fin 4) (v : Word) (s : State), Reaches s (AXS_LINE_ORIGIN.off a 0) →
    Answers (exec (.lineGridWrite a true v) s) fun t => t.rdS AXS_LINE_ORIGIN_ORIGIN a = sext 32 v.toNat ∧ t.ax a = { s.ax a with gridNew := true } ∧
      t.pace = s.pace ∧ ∀ o, settleMask o = 0 → o ≠ AXS_LINE_ORIGIN.off a 0 → o ≠ GLB_ORDER_CNT.off 0 0 → t.get o = s.get o) ∧
  (∀ (a : Fin 4) (s : State), s.loaded 4 = true → axOn s a = false → (s.ax a).gridNew = true →
    Answers (exec .plannerTick s) fun t => t.rd AXS_PACE_STAT_SEAM_PEND a = 0 ∧ (t.paceSt a).seam = false ∧ (t.ax a).gridNew = false ∧
      (t.ax a).pitch = s.rd AXS_LINE_PITCH_PITCH a ∧ (s.rd AXS_LINE_PITCH_PITCH a = 0 → (t.ax a).gridNext = (s.ax a).gridNext) ∧
      (s.rd AXS_LINE_PITCH_PITCH a ≠ 0 → (s.ax a).p * 65536 / uStep < (t.ax a).gridNext ∧
        (t.ax a).gridNext ≤ (s.ax a).p * 65536 / uStep + s.rd AXS_LINE_PITCH_PITCH a ∧
        ((t.ax a).gridNext - s.rdS AXS_LINE_ORIGIN_ORIGIN a * 65536) % s.rd AXS_LINE_PITCH_PITCH a = 0))

/-- What ticks and edges do to an axis (R156, R157, R159, R163, R164, R167, R175, R183). That one PLANNER_TICK is the tick of all axes and
moves the elapsed count to a multiple at which none has run, and how the edges of one sample are ordered, are the model's choice
(notes/assumptions/40.md, 41.md, 44.md). -/
def Obligations.AxisTicksAndEdgesTakeEffect : Prop :=
  (∀ s : State, (∀ a : Fin 4, axOn s a = false) →
    Answers (exec .plannerTick s) fun t => s.elapsed ≤ t.elapsed ∧
      (timingRef s = true → t.elapsed = nextRun s 0 8000 ∧ t.elapsed % 8000 = 0 ∧ t.elapsed ≤ s.elapsed + 8000) ∧
      ∀ a : Fin 4, (t.ax a).p = (s.ax a).p ∧ (t.ax a).v = (s.ax a).v ∧ (t.ax a).gap = (s.ax a).gap ∧ (t.ax a).steps = (s.ax a).steps ∧
        (t.ax a).home = (s.ax a).home) ∧
  (∀ (a : Fin 4) (s : State), axOn s a = true → (s.ax a).v = 0 → (s.ax a).home = 0 → (s.ax a).limStop = 0 → (s.ax a).holdStep = 0 →
    s.rd AXS_CTRL_MODE a = 2 → 0 < s.rdS AXS_VTARGET_VTARGET a → s.flag AXS_CTRL_PROFILE a = false → softLimits s a = none →
    limitAhead s a 1 = false → s.flag AXS_SUP_STAT_HOLDING a = false → s.flag AXS_ENC_CFG_ENC_EN a = false → paceState s a = 0 →
    s.quiescing 4 = false → calHoldsAxes s = false → 0 < s.rd AXS_VMAX_VMAX a →
    Answers (exec .plannerTick s) fun t => (t.ax a).v = min ((max 1 (s.rd AXS_AMAX_AMAX a) : Nat) * tickK)
        (min (s.rdS AXS_VTARGET_VTARGET a * (tickK * tickK)) ((min (s.rd AXS_VMAX_VMAX a) 500000 : Nat) * (tickK * tickK))) ∧
      t.rd AXS_STAT_MOVING a = 1) ∧
  (∀ (a : Fin 4) (d w : Int) (tk : Bool) (rest : List (Int × Int × Bool)) (s : State), (s.ax a).steps = (d, w, tk) :: rest →
    tk = true ∨ ((∀ n : Fin 4, s.rd LOG_CFG_SRC n ≠ 3 + a) ∧ (d ≤ 0 ∨ (s.ax a).pitch = 0 ∧ paceState s a ≠ 5)) →
    Answers (exec (.microstepIssue a) s) fun t => t.rd AXS_MPOS_MPOS a = toBits 32 (s.rdS AXS_MPOS_MPOS a + d) ∧ (t.ax a).steps = rest ∧
      t.rd AXS_SUP_STAT_QUAD a = axAngle t a / 256 ∧ (t.ax a).p = (s.ax a).p) ∧
  (∀ (a : Fin 4) (s : State), (s.ax a).steps = [] → s.peDue = [] →
    Answers (exec (.microstepIssue a) s) fun t => t.axis = s.axis ∧ ∀ o, settleMask o = 0 → t.get o = s.get o) ∧
  (∀ (a : Fin 4) (sw : Fin 2) (level : Bool) (now : Nat) (s : State), s.loaded 4 = true → SwitchesRest s a → s.rd AXS_CFG_SW_FILT a = 0 →
    (s.sw a sw).acc ≠ level → swFn s a sw = 1 →
    Answers (exec (switchSampled a sw level now s) s) fun t => t.rd AXS_LATCH_POS_POS a = toBits 32 (axWhole s a) ∧
      t.rd AXS_LATCH_ENC_ENC a = s.rd AXS_ENC_COUNT a ∧ t.rd2 AXS_LATCH_TIME_LO_NS AXS_LATCH_TIME_HI_NS a = t.chrono % 2 ^ 64 ∧
      t.rd AXS_LATCH_INFO_VALID a = 1 ∧ t.rd AXS_LATCH_INFO_SWITCH a = sw ∧ (s.flag AXS_LATCH_INFO_VALID a = true → t.rd AXS_LATCH_INFO_OVER a = 1) ∧
      Raised (97 + 4 * a) s t ∧ (t.ax a).v = (s.ax a).v ∧ (t.sw a sw).acc = level ∧
      (swActive s a sw level = true → (s.ax a).home = 1 → (t.ax a).home = 2) ∧
      (swActive s a sw level = false → (s.ax a).home = 3 → (t.ax a).home = 4 ∧ (t.ax a).homeEdge = axWhole s a)) ∧
  (∀ (a : Fin 4) (sw : Fin 2) (level : Bool) (now : Nat) (s : State), s.loaded 4 = true → SwitchesRest s a → s.rd AXS_CFG_SW_FILT a = 0 →
    (s.sw a sw).acc ≠ level → swFn s a sw = 3 → swActive s a sw level = true → axOn s a = true → 0 < (s.ax a).v → (s.ax a).limStop = 0 →
    (s.ax a).home = 0 →
    Answers (exec (switchSampled a sw level now s) s) fun t => (t.ax a).limStop = 1 ∧ (t.ax a).limDir = 1 ∧ (t.ax a).v = (s.ax a).v ∧
      Raised (97 + 4 * a) s t) ∧
  (∀ (a : Fin 4) (s : State), axOn s a = true → (s.ax a).v ≠ 0 → (s.ax a).limStop ≠ 0 → (s.ax a).home = 0 → s.rd AXS_DSTOP_DSTOP a = 0 →
    Answers (exec .plannerTick s) fun t => (t.ax a).v = 0 ∧ (t.ax a).limStop = 0 ∧ t.rd AXS_CTRL_MODE a = 0 ∧ t.rd AXS_STAT_MOVING a = 0 ∧
      Raised (97 + 4 * a) s t) ∧
  (∀ (a : Fin 4) (s : State), axOn s a = true → (s.ax a).v ≠ 0 → (s.ax a).limStop ≠ 0 → (s.ax a).home = 0 →
    tickK * (max (s.rd AXS_DSTOP_DSTOP a) (max 1 (max (s.ax a).dmax (s.rd AXS_DMAX_DMAX a))) : Nat) < (s.ax a).v.natAbs →
    s.rd AXS_DSTOP_DSTOP a ≠ 0 → s.flag AXS_ENC_CFG_ENC_EN a = false →
    Answers (exec .plannerTick s) fun t => (t.ax a).v ≠ 0 ∧ (t.ax a).v.natAbs < (s.ax a).v.natAbs ∧
      t.rd AXS_CTRL_MODE a = s.rd AXS_CTRL_MODE a ∧ (t.ax a).limStop = (s.ax a).limStop) ∧
  (∀ (a : Fin 4) (sw : Fin 2) (level : Bool) (now : Nat) (s : State), SwitchesRest s a → (s.sw a sw).acc ≠ level →
    0 < s.rd AXS_CFG_SW_FILT a →
    Answers (exec (switchSampled a sw level now s) s) fun t => (t.sw a sw).acc = (s.sw a sw).acc ∧ (t.sw a sw).raw = level ∧
      (t.sw a sw).since = t.elapsed ∧ (t.sw a sw).pos = axWhole s a ∧ (t.ax a).home = (s.ax a).home ∧ (t.ax a).limStop = (s.ax a).limStop ∧
      ∀ n : Fin 288, t.rd EVT_CNT n = s.rd EVT_CNT n ∨ n = 114 ∨ n = 117 ∨ n = 118 ∨ n = 166) ∧
  (∀ (a : Fin 4) (sw : Fin 2) (level : Bool) (now : Nat) (s : State), SwitchesRest s a → s.rd AXS_CFG_SW_FILT a = 0 → (s.sw a sw).acc ≠ level →
    swFn s a sw = 0 → now ≤ s.elapsed → timingRef s = true → (∀ x ∈ s.sink, x.2.since = none ∧ x.2.awl = none) →
    Answers (exec (switchSampled a sw level now s) s) fun t => (t.sw a sw).acc = level ∧ ∀ o, settleMask o = 0 → t.get o = s.get o) ∧
  (∀ (a : Fin 4) (sw : Fin 2) (level : Bool) (now : Nat) (s : State), s.loaded 4 = true → (s.sw a sw).raw = level → (s.sw a sw).acc ≠ level →
    (s.sw a (1 - sw)).raw = (s.sw a (1 - sw)).acc → timingRef s = true → 1000 * s.rd AXS_CFG_SW_FILT a ≤ max now s.elapsed - (s.sw a sw).since → swFn s a sw = 1 →
    Answers (exec (switchSampled a sw level now s) s) fun t => (t.sw a sw).acc = level ∧
      t.rd AXS_LATCH_POS_POS a = toBits 32 (s.sw a sw).pos ∧ t.rd AXS_LATCH_ENC_ENC a = (s.sw a sw).enc % 2 ^ 32 ∧
      t.rd2 AXS_LATCH_TIME_LO_NS AXS_LATCH_TIME_HI_NS a = (s.sw a sw).time % 2 ^ 64 ∧ t.rd AXS_LATCH_INFO_VALID a = 1 ∧ Raised (97 + 4 * a) s t) ∧
  (∀ (a : Fin 4) (sw : Fin 2) (now : Nat) (s : State), s.loaded 4 = true → SwitchesRest s a → s.rd AXS_CFG_SW_FILT a = 0 →
    2 ≤ swFn s a sw → swFn s a (1 - sw) = 1 →
    Answers (exec (.switchEdge a (!(s.sw a 0).acc) (!(s.sw a 1).acc) now) s) fun t => t.rd AXS_LATCH_INFO_SWITCH a = sw ∧
      t.rd AXS_LATCH_INFO_VALID a = 1 ∧ t.rd AXS_LATCH_INFO_OVER a = (if s.flag AXS_LATCH_INFO_VALID a then 1 else s.rd AXS_LATCH_INFO_OVER a) ∧
      t.rd AXS_LATCH_POS_POS a = toBits 32 (axWhole s a) ∧ t.isPend (97 + 4 * a) = true ∧
      (swActive s a (1 - sw) (!(s.sw a (1 - sw)).acc) = false → (s.ax a).home = 3 → (t.ax a).homeEdge = axWhole s a)) ∧
  (∀ (a : Fin 4) (ea eb : Bool) (now : Nat) (s : State), s.loaded 4 = true → s.flag AXS_ENC_CFG_ENC_EN a = true → s.rd AXS_ENC_CFG_ENC_FILT a = 0 →
    (quadPlace ea eb + 4 - quadPlace (s.ax a).encIn.a (s.ax a).encIn.b) % 4 = 1 →
    Answers (exec (.axisEncoderEdge a ea eb now) s) fun t =>
      t.rd AXS_ENC_COUNT a = (s.rd AXS_ENC_COUNT a + (if s.flag AXS_ENC_CFG_ENC_INV a then 2 ^ 32 - 1 else 1)) % 2 ^ 32 ∧
      (t.ax a).encIn.a = ea ∧ (t.ax a).encIn.b = eb) ∧
  (∀ (a : Fin 4) (ea eb : Bool) (now : Nat) (s : State), s.flag AXS_ENC_CFG_ENC_EN a = false →
    Answers (exec (.axisEncoderEdge a ea eb now) s) fun t => t.rd AXS_ENC_COUNT a = s.rd AXS_ENC_COUNT a ∧ s.elapsed ≤ t.elapsed ∧ now ≤ t.elapsed ∧
      (timingRef s = true → t.elapsed = max s.elapsed now) ∧ (s.rd AXS_ENC_CFG_ENC_FILT a = 0 → (t.ax a).encIn.a = ea ∧ (t.ax a).encIn.b = eb))

/-- The coil current and its supervision (R176 to R183): the chopper's states, overcurrent, the offset loop, and the clears. -/
def Obligations.CoilsAndSupervisionTakeEffect : Prop :=
  (∀ (a : Fin 4) (coil : Fin 2) (s : State), (s.coilSt (2 * a + coil)).st = 1 ∨ (s.coilSt (2 * a + coil)).st = 3 →
    Answers (exec (.chopperBlankEnd a coil) s) fun t => (t.coilSt (2 * a + coil)).st = (s.coilSt (2 * a + coil)).st + 1 ∧
      ∀ o, settleMask o = 0 → t.get o = s.get o) ∧
  (∀ (a : Fin 4) (coil : Fin 2) (s : State), (s.coilSt (2 * a + coil)).st = 2 →
    Answers (exec (.chopperThreshold a coil) s) fun t => (t.coilSt (2 * a + coil)).st = 3 ∧ (t.coilSt (2 * a + coil)).maxon = 0 ∧
      ((t.coilSt (2 * a + coil)).fast = true ↔ coilTarget s a coil ≠ 0 ∧
        (s.rd AXS_CHOP_DECAY a = 1 ∨ 2 ≤ s.rd AXS_CHOP_DECAY a ∧ s.rd AXS_CHOP_TFAST a ≠ 0)) ∧ ∀ o, settleMask o = 0 → t.get o = s.get o) ∧
  (∀ (a : Fin 4) (coil : Fin 2) (s : State), (s.coilSt (2 * a + coil)).st = 1 →
    Answers (exec (.chopperMaxon a coil) s) fun t => (t.coilSt (2 * a + coil)).st = 3 ∧ (t.coilSt (2 * a + coil)).maxon = 0) ∧
  (∀ (a : Fin 4) (coil : Fin 2) (s : State), (s.coilSt (2 * a + coil)).st = 2 → 128 ≤ (coilTarget s a coil).natAbs → (s.coilSt (2 * a + coil)).maxon = 7 →
    Answers (exec (.chopperMaxon a coil) s) fun t => (t.coilSt (2 * a + coil)).st = 3 ∧ (t.coilSt (2 * a + coil)).maxon = 0 ∧
      (if coil = 0 then t.rd AXS_SUP_STAT_OPEN_A a = 1 else t.rd AXS_SUP_STAT_OPEN_B a = 1) ∧ Raised (99 + 4 * a) s t) ∧
  (∀ (a : Fin 4) (coil : Fin 2) (s : State), (s.coilSt (2 * a + coil)).st = 2 → 128 ≤ (coilTarget s a coil).natAbs → (s.coilSt (2 * a + coil)).maxon < 7 →
    Answers (exec (.chopperMaxon a coil) s) fun t => (t.coilSt (2 * a + coil)).maxon = (s.coilSt (2 * a + coil)).maxon + 1 ∧
      ∀ o, settleMask o = 0 → t.get o = s.get o) ∧
  (∀ (a : Fin 4) (coil : Fin 2) (s : State), (s.coilSt (2 * a + coil)).st = 4 →
    Answers (exec (.chopperOffEnd a coil) s) fun t => (t.coilSt (2 * a + coil)).st = 1 ∧ (t.coilSt (2 * a + coil)).fast = false) ∧
  (∀ (a : Fin 4) (coil : Fin 2) (s : State), (s.coilSt (2 * a + coil)).fast = true →
    Answers (exec (.fastDecayEnd a coil) s) fun t => (t.coilSt (2 * a + coil)).fast = false ∧
      (t.coilSt (2 * a + coil)).st = (s.coilSt (2 * a + coil)).st ∧ ∀ o, settleMask o = 0 → t.get o = s.get o) ∧
  (∀ (a : Fin 4) (coil : Fin 2) (s : State), (s.coilSt (2 * a + coil)).st ≠ 0 → (s.coilSt (2 * a + coil)).st ≠ 1 → (s.coilSt (2 * a + coil)).st ≠ 3 →
    Answers (exec (.overcurrent a coil) s) fun t => t.rd AXS_CTRL_EN a = 0 ∧ t.rd AXS_CTRL_MODE a = 0 ∧ t.rd AXS_STAT_REF a = 0 ∧
      t.rd AXS_SUP_STAT_OVERCURRENT a = 1 ∧ (t.ax a).v = 0 ∧ 
      t.coilSt (2 * a) = { quad := s.rd AXS_SUP_STAT_QUAD a } ∧ t.coilSt (2 * a + 1) = { quad := s.rd AXS_SUP_STAT_QUAD a } ∧ Raised (99 + 4 * a) s t) ∧
  (∀ (a : Fin 4) (coil : Fin 2) (s : State), (s.coilSt (2 * a + coil)).st = 0 ∨ (s.coilSt (2 * a + coil)).st = 1 ∨ (s.coilSt (2 * a + coil)).st = 3 →
    Answers (exec (.overcurrent a coil) s) fun t => t.coil = s.coil ∧ t.axis = s.axis ∧ ∀ o, settleMask o = 0 → t.get o = s.get o) ∧
  (∀ (a : Fin 4) (coil : Fin 2) (q : Fin 4) (n T : Nat) (m : Int) (s : State), s.loaded 4 = true → s.flag AXS_OFFS_CFG_ADAPT_EN a = true →
    (s.coilSt (2 * a + coil)).ended = some (q.val, n, T) →
    Answers (exec (.adaptPassageEnd a coil m) s) fun t =>
      t.rdS AXS_OFFS_OFFS a (4 * coil + q) = max (-(s.rd AXS_OFFS_CFG_OFFS_MAX a : Nat) : Int) (min (s.rd AXS_OFFS_CFG_OFFS_MAX a)
        (s.rdS AXS_OFFS_OFFS a (4 * coil + q) - divNearest (m - T) (n * 2 ^ s.rd AXS_OFFS_CFG_GAIN_SHIFT a))) ∧
      (t.coilSt (2 * a + coil)).ended = none ∧ ∀ o, settleMask o = 0 → o ≠ AXS_OFFS.off a (4 * coil + q) → t.get o = s.get o) ∧
  (∀ (a : Fin 4) (coil : Fin 2) (m : Int) (s : State), (s.coilSt (2 * a + coil)).ended = none ∨ s.flag AXS_OFFS_CFG_ADAPT_EN a = false →
    Answers (exec (.adaptPassageEnd a coil m) s) fun t => (t.coilSt (2 * a + coil)).ended = none ∧ ∀ o, settleMask o = 0 → t.get o = s.get o) ∧
  (∀ (a : Fin 4) (coil : Fin 2) (s : State), (s.coilSt (2 * a + coil)).st = 4 → (s.ax a).v ≠ 0 →
    Answers (exec (.chopperOffEnd a coil) s) fun t => (t.coilSt (2 * a + coil)).cycles = (s.coilSt (2 * a + coil)).cycles + 1 ∧
      (t.coilSt (2 * a + coil)).sumT = (s.coilSt (2 * a + coil)).sumT + (s.coilSt (2 * a + coil)).nowT) ∧
  (∀ (a : Fin 4) (s : State), axOn s a = true → (s.ax a).v = 0 → s.rd AXS_HOLD_THOLD a ≠ 0 → s.flag AXS_SUP_STAT_HOLDING a = false →
    (s.ax a).holdStep = 0 → s.rd AXS_SUP_STAT_ISET a = s.rd AXS_CUR_IRUN a →
    Answers (exec (.holdCurrentTimeout a) s) fun t => (t.ax a).holdStep = 16 ∧ ∀ o, settleMask o = 0 → t.get o = s.get o) ∧
  (∀ (a : Fin 4) (s : State), Reaches s (AXS_OFFS_CFG.off a 0) →
    Answers (exec (.offsetClear a) s) fun t => (∀ k : Fin 8, t.rd AXS_OFFS_OFFS a k = 0) ∧
      t.rd AXS_OFFS_CFG_ADAPT_EN a = s.rd AXS_OFFS_CFG_ADAPT_EN a ∧ t.rd AXS_OFFS_CFG_OFFS_MAX a = s.rd AXS_OFFS_CFG_OFFS_MAX a ∧
      t.rd AXS_OFFS_CFG_GAIN_SHIFT a = s.rd AXS_OFFS_CFG_GAIN_SHIFT a) ∧
  (∀ (a : Fin 4) (s : State), Reaches s (AXS_SUP_STAT.off a 0) → s.flag AXS_SUP_STAT_STALL a = true →
    Answers (exec (.stallClear a) s) fun t => t.rd AXS_SUP_STAT_STALL a = 0 ∧ t.rd AXS_DEV_DEV a = 0 ∧
      t.rd AXS_SUP_STAT_ISET a = s.rd AXS_SUP_STAT_ISET a ∧ t.rd AXS_SUP_STAT_OVERCURRENT a = s.rd AXS_SUP_STAT_OVERCURRENT a)

/-- The emitter (R204 to R206, R208, R210, R211, R214, R215): arming and its refusals, the phases and shots of a frame, the exposure window, and
what stops it. Where a clause is about one command's own effect, no line inhibits the emitter. That a stop sets its trip bit and raises
its source on a disarmed emitter too, that FAULT_IN follows the level held, and which sources the frame's end raises are the model's choice
(notes/assumptions/16.md, 66.md, 100.md). -/
def Obligations.EmitterTakesEffect : Prop :=
  (∀ s : State, Reaches s (RGE_CTRL.off 0 0) → armErr s = 0 → s.flag RGE_STAT_ARMED = false → s.rd EVT_HAL_INH_LINES = 0 →
    Answers (exec .emitterArm s) fun t => t.rd RGE_STAT_ARMED = 1 ∧ t.rd RGE_STAT_ARM_ERR = 0 ∧ t.rge.holdoff = true ∧
      t.rge.lfsr = codeSeed (s.rd RGE_CODE_FAMILY) ∧ ∀ o, settleMask o = 0 → o ≠ GLB_ORDER_CNT.off 0 0 → o ≠ EVT_CNT.off 118 0 →
        o ≠ EVT_PEND.off 3 0 → t.get o = s.get o) ∧
  (∀ s : State, Reaches s (RGE_CTRL.off 0 0) → armErr s ≠ 0 → s.flag RGE_STAT_ARMED = false →
    Answers (exec .emitterArm s) fun t => t.rd RGE_STAT_ARMED = 0 ∧ t.rd RGE_STAT_ARM_ERR = armErr s ∧ t.rgh = s.rgh) ∧
  (∀ s : State, Reaches s (RGE_CTRL.off 0 0) → s.flag RGE_STAT_ARMED = true →
    Answers (exec .emitterDisarm s) fun t => t.rd RGE_STAT_ARMED = 0 ∧ t.rge.holdoff = false ∧ t.rge.stb = (s.rge.stb && s.frameNow.isNone) ∧
      (s.frameNow.isSome = true → t.rd RGE_STAT_ABORTED = 1 ∧ t.rd RGE_STAT_BUSY = 0 ∧ t.rgh.frames = s.rgh.frames.dropLast) ∧
      t.rd RGE_STAT_SAFE_TRIP = s.rd RGE_STAT_SAFE_TRIP) ∧
  (∀ s : State, s.rge.holdoff = true →
    Answers (exec .armHoldoffEnd s) fun t => t.rge.holdoff = false ∧ ∀ o, settleMask o = 0 → t.get o = s.get o) ∧
  (∀ s : State, s.flag RGE_STAT_SAFE_OK = false →
    Answers (exec .safeOkTimer s) fun t => t.rd RGE_STAT_SAFE_OK = 1 ∧ ∀ o, settleMask o = 0 → t.get o = s.get o) ∧
  (∀ (f : FrameSt) (k : Nat) (s : State), s.frameNow = some f → (phaseList (f.rd RGE_FP_SEQ f.prof))[f.phases.length]? = some k →
    f.phases = [] ∨ phaseFired f f.now = true → f.buf < 2 → s.rd EVT_HAL_INH_LINES = 0 →
    Answers (exec .phaseStart s) fun t => t.rd RGE_STAT_PHASE = k ∧ t.frameNow.map (fun g => g.phases) = some (f.phases ++ [({ code := k, t0 := s.elapsed } : PhSt)]) ∧
      t.rge.steer = k ∧ t.rge.par = ((k / 2 + k) % 2 == 0) ∧
      ∀ w < 65536, t.get (0x1800000 + f.buf * 0x100000 + k * 0x40000 + 4 * w) = 0) ∧
  (∀ s : State, s.flag RGE_STAT_BUSY = true → s.rd EVT_HAL_INH_LINES = 0 →
    Answers (exec (.steerStrobe true) s) fun t => t.rge.stb = true ∧ t.outs.contains (.strobe s.rge.steer s.rge.par) = true ∧
      ∀ o, settleMask o = 0 → t.get o = s.get o) ∧
  (∀ s : State, Answers (exec (.steerStrobe false) s) fun t => t.rge.stb = false ∧ ∀ o, settleMask o = 0 → t.get o = s.get o) ∧
  (∀ (f : FrameSt) (s : State), s.frameNow = some f → f.phases ≠ [] → f.now.firedC < f.shotsC → s.rd EVT_HAL_INH_LINES = 0 →
    Answers (exec .shotFire s) fun t => t.frameNow.map (fun g => g.now.firedC) = some (f.now.firedC + 1) ∧ t.rge.lfsr = lfsr8 s.rge.lfsr) ∧
  (∀ (f : FrameSt) (s : State), s.frameNow = some f → f.phases ≠ [] → f.now.firedC = f.shotsC → f.now.firedZ < f.shotsZ → f.now.coarseDone = true →
    s.rd EVT_HAL_INH_LINES = 0 →
    Answers (exec .shotFire s) fun t => t.frameNow.map (fun g => g.now.firedZ) = some (f.now.firedZ + 1) ∧ t.rge.lfsr = lfsr8 s.rge.lfsr) ∧
  (∀ (f : FrameSt) (l : Fin 8) (s : State), s.frameNow = some f → f.phases ≠ [] → f.now.firedC < f.shotsC → s.rd EVT_HAL_INH_LINES = 0 →
    f.rd RGE_FP_SEQ_LINE_MASK f.prof = 2 ^ l.val → f.now.code < 4 → segCan s (4 * l + f.now.code) = true →
    Answers (exec .shotFire s) fun t =>
      let g := 4 * l + f.now.code
      let w := effWidth (f.rd RGE_FP_TIME_WIDTH f.prof) + 2
      (windowSum s g + w ≤ s.rd RGE_SAFE_LIMIT_LIMIT g → windowSum t g = windowSum s g + w ∧ t.rgh.expect = true ∧
        (∀ h, t.frameNow = some h → kvGet (fun _ => 0) h.pulses g = kvGet (fun _ => 0) f.pulses g + 1) ∧ t.rd RGE_CNT_WITHHELD = s.rd RGE_CNT_WITHHELD) ∧
      (s.rd RGE_SAFE_LIMIT_LIMIT g < windowSum s g + w → windowSum t g = windowSum s g ∧ Counted RGE_CNT_WITHHELD 0 1 s t ∧
        t.rgh.expect = false ∧ (s.rge.limitedBin = false → Raised 115 s t))) ∧
  (∀ s : State, s.frameNow = none →
    Answers (exec .shotFire s) fun t => t.rgh = s.rgh ∧ t.acct = s.acct ∧ ∀ o, settleMask o = 0 → t.get o = s.get o) ∧
  (∀ (f : FrameSt) (s : State), s.frameNow = some f → f.phases.length = (phaseList (f.rd RGE_FP_SEQ f.prof)).length → phaseFired f f.now = true →
    f.delivered = false →
    Answers (exec .frameEnd s) fun t => t.rd RGE_STAT_BUSY = 0 ∧ t.rd RGH_STAT_PASS = 0 ∧ t.frameNow = none ∧
      t.rgh.frames = s.rgh.frames.dropLast ++ [{ f with ended := true }]) ∧
  (∀ (f : FrameSt) (s : State), s.frameNow = some f → f.phases.length = (phaseList (f.rd RGE_FP_SEQ f.prof)).length → phaseFired f f.now = true →
    f.delivered = true → s.rgh.frames = [f] →
    Answers (exec .frameEnd s) fun t => t.rd RGE_STAT_BUSY = 0 ∧ t.rgh.frames = [] ∧ t.rd RGH_STAT_BUSY = 0 ∧ (f.miss = true → Raised 120 s t)) ∧
  (∀ s : State, s.flag RGE_STAT_ARMED = true →
    Answers (exec .safeLow s) fun t => t.rd RGE_STAT_SAFE_OK = 0 ∧ t.rd RGE_STAT_ARMED = 0 ∧ t.rd RGE_STAT_SAFE_TRIP = 1 ∧ Raised 112 s t ∧
      (s.frameNow.isSome = true → t.rd RGE_STAT_ABORTED = 1 ∧ t.rd RGE_STAT_BUSY = 0)) ∧
  (∀ s : State, s.flag RGE_STAT_ARMED = false →
    Answers (exec .safeLow s) fun t => t.rd RGE_STAT_SAFE_OK = 0 ∧ t.rd RGE_STAT_ARMED = 0 ∧ t.rd RGE_STAT_SAFE_TRIP = 1 ∧ Raised 112 s t ∧ t.rgh = s.rgh) ∧
  (∀ (held : Bool) (s : State),
    Answers (exec (.emitFaultLow held) s) fun t => t.rd RGE_STAT_FAULT_IN = held.toNat ∧ t.rd RGE_STAT_ARMED = 0 ∧ t.rd RGE_STAT_FAULT_TRIP = 1 ∧
      Raised 113 s t ∧ (s.flag RGE_STAT_ARMED = true → s.frameNow.isSome = true → t.rd RGE_STAT_ABORTED = 1 ∧ t.rd RGE_STAT_BUSY = 0)) ∧
  (∀ (g : Fin 32) (s : State), Answers (exec .exposureBinEnd s) fun t =>
      windowSum t g = ((kvGet (fun _ => []) s.acct g).take 50).sum ∧ t.rd RGE_SAFE_ACC_SUM g = min (windowSum t g) (2 ^ 32 - 1) ∧
      t.rge.limitedBin = false) ∧
  (∀ s : State, s.flag RGE_STAT_BLACKOUT = true →
    Answers (exec .blackoutEnd s) fun t => t.rd RGE_STAT_BLACKOUT = 0 ∧ ∀ o, settleMask o = 0 → t.get o = s.get o)

/-- The measurement of a shot and the analysis of its phase (R221, R223 to R225, R228, R231, R233, R241, R250). No line inhibits the emitter. -/
def Obligations.MeasurementsTakeEffect : Prop :=
  (∀ (x : Nat) (f : FrameSt) (s : State), s.rgh.expect = true → s.frameNow = some f → f.phases ≠ [] → f.now.firedZ = 0 → s.loaded 6 = true →
    convDead s 64 x = false → s.rd EVT_HAL_INH_LINES = 0 →
    Answers (exec (.startEdge x) s) fun t => t.rgh.expect = false ∧ t.rgh.start = some x ∧ t.rgh.isOpen = true ∧ t.rgh.edges = [] ∧
      t.frameNow.map (fun g => g.now.nC) = some (f.now.nC + 1) ∧
      kvGet (fun _ => 0) t.fix.edges 64 = kvGet (fun _ => 0) s.fix.edges 64 + 1 ∧ kvGet (fun _ => 0) t.rgh.deadT 64 = x + 1 ∧ ∀ o, settleMask o = 0 → t.get o = s.get o) ∧
  (∀ (x : Nat) (s : State), s.rgh.expect = false → s.loaded 6 = true → convDead s 64 x = false → s.rd EVT_HAL_INH_LINES = 0 →
    Answers (exec (.startEdge x) s) fun t => t.rgh = { s.rgh with deadT := kvSet (fun _ => 0) s.rgh.deadT 64 (x + 1) } ∧
      kvGet (fun _ => 0) t.fix.edges 64 = kvGet (fun _ => 0) s.fix.edges 64 + 1 ∧ ∀ o, settleMask o = 0 → t.get o = s.get o) ∧
  (∀ (x : Nat) (s : State), s.loaded 6 = false ∨ convDead s 64 x = true → s.rd EVT_HAL_INH_LINES = 0 →
    Answers (exec (.startEdge x) s) fun t => t.rgh = s.rgh ∧ t.fix = s.fix ∧ ∀ o, settleMask o = 0 → t.get o = s.get o) ∧
  (∀ (f : FrameSt) (s : State), s.rgh.expect = true → s.frameNow = some f → s.rd EVT_HAL_INH_LINES = 0 →
    Answers (exec .startWindowExpiry s) fun t => t.rgh.expect = false ∧ Counted RGH_CNT_START_MISS 0 1 s t ∧
      t.frameNow = some { f with miss := true }) ∧
  (∀ (i : Fin 64) (x : Nat) (s : State), s.loaded 6 = true → s.rd EVT_HAL_INH_LINES = 0 → kvGet (fun _ => 0) s.rgh.deadT i ≠ 0 →
    x + 1 < kvGet (fun _ => 0) s.rgh.deadT i + 512 →
    Answers (exec (.timingEdge i x) s) fun t => t.rgh = s.rgh ∧ t.fix = s.fix ∧ ∀ o, settleMask o = 0 → t.get o = s.get o) ∧
  (∀ (i : Fin 64) (x : Nat) (s : State), s.loaded 6 = true → kvGet (fun _ => 0) s.rgh.deadT i = 0 ∨ kvGet (fun _ => 0) s.rgh.deadT i + 512 ≤ x + 1 →
    4 ≤ kvGet (fun _ => 0) s.rgh.edges i →
    Answers (exec (.timingEdge i x) s) fun t => Counted RGH_EVT_OVER_COUNT 0 1 s t) ∧
  (∀ (i : Fin 64) (x t0 b m : Nat) (f : FrameSt) (p : PhSt) (s : State), s.loaded 6 = true → s.rd EVT_HAL_INH_LINES = 0 →
    kvGet (fun _ => 0) s.rgh.deadT i = 0 ∨ kvGet (fun _ => 0) s.rgh.deadT i + 512 ≤ x + 1 → kvGet (fun _ => 0) s.rgh.edges i < 3 →
    s.rgh.start = some t0 → s.rgh.isOpen = true → refPlace s = some m → s.rgh.frames.getD m {} = f → s.rgh.ref.2.2 = false →
    f.phases.getD s.rgh.ref.2.1 {} = p → f.buf < 2 → p.code < 4 →
    rcEnabled s (64 * p.code + i) = true → (f.phases.drop (s.rgh.ref.2.1 + 1)).any (fun y => y.code == p.code) = false → x = t0 + 64 * f.rd RGH_FP_WIN_CSTART f.prof + 64 * b + 63 → b < 1024 →
    Answers (exec (.timingEdge i x) s) fun t =>
      let o := 0x1800000 + f.buf * 0x100000 + (64 * p.code + i) * 0x1000 + b / 2 * 4
      bitsOf (t.get o).toNat (16 * (b % 2)) 16 = (bitsOf (s.get o).toNat (16 * (b % 2)) 16 + 1) % 2 ^ 16 ∧
      kvGet (fun _ => 0) t.rgh.edges i = kvGet (fun _ => 0) s.rgh.edges i + 1 ∧ kvGet (fun _ => 0) t.rgh.deadT i = x + 1) ∧
  (∀ s : State, s.rgh.isOpen = true → s.rd EVT_HAL_INH_LINES = 0 →
    Answers (exec .measurementClose s) fun t => t.rgh.isOpen = false ∧ t.rgh.frames = s.rgh.frames) ∧
  (∀ (i j : Nat) (n : Fin 256) (s : State), findPhase s (fun f p => p.firedC == f.shotsC && !p.coarseDone) = some (i, j) →
    (s.rgh.frames.getD i {}).zoomPass = true → s.rd EVT_HAL_INH_LINES = 0 →
    Answers (exec .coarseAnalysisDone s) fun t =>
      let f := s.rgh.frames.getD i {}
      let p := f.phases.getD j {}
      let p' := (t.rgh.frames.getD i {}).phases.getD j {}
      p'.coarseDone = true ∧ (n.val ∈ phaseChannels s p.code → p'.coarseOf n = coarseChannel s f p n) ∧
        ∀ o, settleMask o = 0 → t.get o = s.get o) ∧
  (∀ (j : Nat) (s : State), findPhase s (fun f p => p.firedC == f.shotsC && !p.coarseDone) = some (0, j) →
    (s.rgh.frames.getD 0 {}).zoomPass = false → (s.rgh.frames.getD 0 {}).delivered = false →
    (s.rgh.frames.getD 0 {}).phases.length < (phaseList ((s.rgh.frames.getD 0 {}).rd RGE_FP_SEQ (s.rgh.frames.getD 0 {}).prof)).length →
    s.rd EVT_HAL_INH_LINES = 0 →
    Answers (exec .coarseAnalysisDone s) fun t =>
      let p := (t.rgh.frames.getD 0 {}).phases.getD j {}
      p.coarseDone = true ∧ p.done = true ∧ t.rgh.frames.length = s.rgh.frames.length) ∧
  (∀ (i j : Nat) (f : FrameSt) (s : State), findPhase s (fun f p => phaseFired f p && p.coarseDone && !p.done) = some (i, j) →
    s.rgh.frames.getD i {} = f → i = 0 → f.phases.length < (phaseList (f.rd RGE_FP_SEQ f.prof)).length → s.rd EVT_HAL_INH_LINES = 0 →
    Answers (exec .zoomAnalysisDone s) fun t => ((t.rgh.frames.getD i {}).phases.getD j {}).done = true ∧
      t.rgh.frames.length = s.rgh.frames.length) ∧
  (∀ (j : Nat) (f : FrameSt) (s : State), findPhase s (fun f p => phaseFired f p && p.coarseDone && !p.done) = some (0, j) →
    s.rgh.frames.getD 0 {} = f → f.ended = true → f.delivered = false → f.phases.length = (phaseList (f.rd RGE_FP_SEQ f.prof)).length →
    (∀ k < f.phases.length, k ≠ j → (f.phases.getD k {}).done = true) → s.rgh.frames.length = 1 → s.rd EVT_HAL_INH_LINES = 0 →
    Answers (exec .zoomAnalysisDone s) fun t => t.rd RGH_FRAME_NUMBER = f.num % 2 ^ 32 ∧ t.rgh.frames = [] ∧ Raised 124 s t ∧ t.rd RGH_STAT_BUSY = 0) ∧
  (∀ (j : Nat) (f : FrameSt) (s : State), findPhase s (fun f p => phaseFired f p && p.coarseDone && !p.done) = some (0, j) →
    s.rgh.frames = [f] → f.ended = false → f.delivered = false → f.phases.length = (phaseList (f.rd RGE_FP_SEQ f.prof)).length →
    (∀ k < f.phases.length, k ≠ j → (f.phases.getD k {}).done = true) → s.rd EVT_HAL_INH_LINES = 0 →
    Answers (exec .zoomAnalysisDone s) fun t => t.rd RGH_FRAME_NUMBER = f.num % 2 ^ 32 ∧ Raised 124 s t ∧
      t.rgh.frames.map (fun g => (g.num, g.delivered, g.ended)) = [(f.num, true, false)]) ∧
  (∀ s : State, Reaches s (RGH_CTRL.off 0 0) → s.rd EVT_HAL_INH_LINES = 0 →
    Answers (exec .freezeSet s) fun t => t.rd RGH_CTRL_FREEZE = 1 ∧ t.rgh.freezeReq = !s.flag RGH_STAT_FROZEN ∧
      t.rd RGH_STAT_FROZEN = s.rd RGH_STAT_FROZEN) ∧
  (∀ s : State, Reaches s (RGH_CTRL.off 0 0) → s.rd EVT_HAL_INH_LINES = 0 →
    Answers (exec .freezeClear s) fun t => t.rd RGH_CTRL_FREEZE = 0 ∧ t.rgh.freezeReq = false ∧ t.rd RGH_STAT_FROZEN = 0)

/-- Background calibration and the load envelope (R254 to R257). The delay-line tables change outside a frame only. -/
def Obligations.CalibrationOfFixesTakesEffect : Prop :=
  (∀ (cell : Fin 256) (x : Nat) (s : State), calRuns s = true → measuring s = false → convDead s (s.rd RGH_CAL_STAT_INPUT) x = false →
    s.fix.total < 262144 →
    Answers (exec (.calHit cell x) s) fun t => t.fix.total = s.fix.total + 1 ∧
      kvGet (fun _ => 0) t.fix.hits cell = kvGet (fun _ => 0) s.fix.hits cell + 1 ∧ ∀ o, settleMask o = 0 → t.get o = s.get o) ∧
  (∀ (cell : Fin 256) (x : Nat) (s : State), calRuns s = false ∨ measuring s = true ∨ convDead s (s.rd RGH_CAL_STAT_INPUT) x = true ∨
      262144 ≤ s.fix.total →
    Answers (exec (.calHit cell x) s) fun t => t.fix.total = s.fix.total ∧ t.fix.hits = s.fix.hits ∧ ∀ o, settleMask o = 0 → t.get o = s.get o) ∧
  (∀ (i : Fin 65) (s : State), calRuns s = true → s.fix.total = 262144 → s.rd RGH_CAL_STAT_INPUT = i → s.frameNow = none → s.fix.waiting = [] →
    (∀ j : Fin 256, 0 < kvGet (fun _ => 0) s.fix.hits j ∧ kvGet (fun _ => 0) s.fix.hits j ≤ 4096) → s.rd EVT_HAL_INH_LINES = 0 →
    Answers (exec .calConverterDone s) fun t => t.table i = cellTable s.fix.hits ∧
      kvGet (fun _ => 0) t.fix.made i = s.elapsed ∧ t.fix.total = 0 ∧ t.fix.hits = [] ∧
      (i.val < 64 → t.rd RGH_CAL_STAT_INPUT = i + 1) ∧ (i.val = 64 → t.rd RGH_CAL_STAT_INPUT = 0 ∧ Raised 146 s t)) ∧
  (∀ (i : Fin 65) (j : Fin 256) (s : State), calRuns s = true → s.fix.total = 262144 → s.rd RGH_CAL_STAT_INPUT = i → s.fix.waiting = [] →
    kvGet (fun _ => 0) s.fix.hits j = 0 ∨ 4096 < kvGet (fun _ => 0) s.fix.hits j → s.rd EVT_HAL_INH_LINES = 0 →
    Answers (exec .calConverterDone s) fun t => t.fix.tables = s.fix.tables ∧ t.fix.made = s.fix.made ∧ t.rd RGH_FIX_STAT_CAL_FAULT = 1 ∧
      Raised 147 s t ∧ t.fix.total = 0) ∧
  (∀ (i : Fin 65) (s : State), s.loaded 6 = true → tableStale s i = true →
    Answers (exec (.calTableStale i) s) fun t => t.rd RGH_FIX_STAT_CAL_STALE = 1) ∧
  (∀ (i : Fin 65) (s : State), tableStale s i = false →
    Answers (exec (.calTableStale i) s) fun t => ∀ o, settleMask o = 0 → t.get o = s.get o) ∧
  (∀ s : State, s.powered 22 = false →
    Answers (exec .rateBinEnd s) fun t => t.fix = s.fix ∧ ∀ o, settleMask o = 0 → t.get o = s.get o) ∧
  (∀ s : State, s.loaded 6 = true → s.powered 22 = true → s.fix.part = true →
    Answers (exec .rateBinEnd s) fun t => t.fix.edges = [] ∧ t.fix.part = false ∧ ∀ o, settleMask o = 0 → t.get o = s.get o) ∧
  (∀ (i : Fin 65) (s : State), s.loaded 6 = true → s.powered 22 = true → s.fix.part = false →
    Answers (exec .rateBinEnd s) fun t => t.rd RGH_RATE_RATE i = min (10 * kvGet (fun _ => 0) s.fix.edges i) (2 ^ 32 - 1) ∧ t.fix.edges = [] ∧
      (inLoad s i = false → s.rd RGH_RATE_CAL_RATE i ≠ 0 → 4 * s.rd RGH_RATE_CAL_RATE i < 10 * kvGet (fun _ => 0) s.fix.edges i →
        inLoad t i = true ∧ t.isPend 145 = true ∧ t.rd RGH_FIX_STAT_LOAD_ANY = 1) ∧
      (inLoad s i = true → 10 * kvGet (fun _ => 0) s.fix.edges i ≤ 3 * s.rd RGH_RATE_CAL_RATE i → inLoad t i = false))

/-- The sinks (R262 to R266, R271, R283, R285, R286): periods, on-phases, measurements and the watch over unlit sinks. That these commands
move the elapsed count to the moment they stand for, the common period count and the roundings are the model's choice
(notes/assumptions/61.md, 62.md, 101.md). -/
def Obligations.SinksTakeEffect : Prop :=
  (∀ (k : Fin 24) (s : State), s.loaded 7 = true → sinkGated s k = false →
    Answers (exec (.sinkPeriodStart k) s) fun t => (timingRef s = true → t.elapsed = max s.elapsed (nextPeriod s k)) ∧ (t.sinkSt k).t0 = t.elapsed ∧
      (t.sinkSt k).lit = false ∧ (t.sinkSt k).since = none ∧ (t.sinkSt k).run = s.flag ILU_SINK_CTRL_EN k ∧
      bitsOf (t.sinkSt k).ctrl 14 18 = bitsOf (s.rd ILU_SINK_CTRL k) 14 18 ∧
      sinkCur t k = (if s.quiesced 7 then sinkCur s k else s.rd ILU_SINK_CTRL_CUR k) ∧
      (t.sinkSt k).duty = (if s.quiesced 7 then (s.sinkSt k).duty else s.rd ILU_SINK_DUTY_DUTY k)) ∧
  (∀ (k : Fin 24) (s : State), s.loaded 7 = true → nextPeriod s k ≤ s.elapsed → timingRef s = true →
    (∀ x ∈ s.sink, x.2.since = none ∧ x.2.awl = none) →
    Answers (exec (.sinkPeriodStart k) s) fun t => t.rd ILU_SINK_STAT_ON k = (s.sinkSt k).lit.toNat ∧ t.elapsed = s.elapsed ∧
      ∀ o, settleMask o = 0 → o ≠ ILU_SINK_STAT.off k 0 → t.get o = s.get o) ∧
  (∀ (k : Fin 24) (s : State), s.loaded 7 = true → sinkGated s k = true →
    Answers (exec (.sinkPeriodStart k) s) fun t => (timingRef s = true → t.elapsed = max s.elapsed (nextPeriod s k)) ∧ (t.sinkSt k).t0 = t.elapsed ∧
      (t.sinkSt k).lit = false ∧ (t.sinkSt k).ctrl = (s.sinkSt k).ctrl ∧ (t.sinkSt k).duty = (s.sinkSt k).duty) ∧
  (∀ (k : Fin 24) (s : State), sinkLights s k = true → sinkGate s k = 2 → (s.sinkSt k).since = none → timingRef s = true →
    Answers (exec (.sinkOnPhase k) s) fun t => (t.sinkSt k).since = some s.elapsed ∧ (t.sinkSt k).began = s.elapsed ∧
      (t.sinkSt k).stop = none ∧ (t.sinkSt k).ticks = (windowEnd s k - s.elapsed) / 10 ∧ (t.sinkSt k).lit = true ∧ t.elapsed = s.elapsed) ∧
  (∀ (k : Fin 24) (u : Nat) (s : State), sinkLights s k = true → sinkGate s k ≠ 2 → (s.sinkSt k).since = none →
    nextOn (s.sinkSt k).duty (sinkSpread s k) ((s.elapsed - (s.sinkSt k).t0 + 9) / 10) = some u →
    Answers (exec (.sinkOnPhase k) s) fun t =>
      let a := (s.sinkSt k).t0 + 10 * u
      let e := (s.sinkSt k).t0 + 10 * runEnd (s.sinkSt k).duty (sinkSpread s k) u
      (timingRef s = true → t.elapsed = max s.elapsed a) ∧ (t.sinkSt k).since = some a ∧ (t.sinkSt k).began = a ∧ (t.sinkSt k).stop = some e ∧
        (t.sinkSt k).ticks = ((if sinkGated s k then min e (windowEnd s k) else e) - a) / 10 ∧ (t.sinkSt k).lit = true) ∧
  (∀ (k : Fin 24) (u a e : Nat) (s : State), sinkLights s k = true → sinkGate s k ≠ 2 → (s.sinkSt k).since = some a → (s.sinkSt k).stop = some e →
    (s.sinkSt k).awl = none → timingRef s = true →
    nextOn (s.sinkSt k).duty (sinkSpread s k) ((max s.elapsed e - (s.sinkSt k).t0 + 9) / 10) = some u →
    Answers (exec (.sinkOnPhase k) s) fun t =>
      let n := (e - a) / 10
      t.elapsed = max s.elapsed ((s.sinkSt k).t0 + 10 * u) ∧ (t.sinkSt k).since = some ((s.sinkSt k).t0 + 10 * u) ∧
      (t.sinkSt k).binQ = (s.sinkSt k).binQ + sinkCur s k * n ∧
      (t.sinkSt k).onRem = ((s.sinkSt k).onRem + n) % 100 ∧ (t.sinkSt k).chRem = ((s.sinkSt k).chRem + 2 * (sinkCur s k * n)) % 16383 ∧
      t.rd2 LGB_CTR_LO_COUNT LGB_CTR_HI_COUNT k = (s.rd2 LGB_CTR_LO_COUNT LGB_CTR_HI_COUNT k + ((s.sinkSt k).onRem + n) / 100) % 2 ^ 64 ∧
      t.rd2 LGB_CTR_LO_COUNT LGB_CTR_HI_COUNT (24 + k) =
        (s.rd2 LGB_CTR_LO_COUNT LGB_CTR_HI_COUNT (24 + k) + ((s.sinkSt k).chRem + 2 * (sinkCur s k * n)) / 16383) % 2 ^ 64) ∧
  (∀ (k : Fin 24) (s : State), sinkLights s k = false → (s.sinkSt k).awl = none →
    Answers (exec (.sinkOnPhase k) s) fun t => (t.sinkSt k).lit = (s.sinkSt k).lit ∧ (t.sinkSt k).onRem = (s.sinkSt k).onRem ∧
      (t.sinkSt k).chRem = (s.sinkSt k).chRem ∧ (t.sinkSt k).binQ = (s.sinkSt k).binQ ∧
      t.rd2 LGB_CTR_LO_COUNT LGB_CTR_HI_COUNT k = s.rd2 LGB_CTR_LO_COUNT LGB_CTR_HI_COUNT k) ∧
  (∀ (k : Fin 24) (s : State), sinkGate s k ≠ 2 → (s.sinkSt k).since = none →
    nextOn (s.sinkSt k).duty (sinkSpread s k) ((s.elapsed - (s.sinkSt k).t0 + 9) / 10) = none →
    Answers (exec (.sinkOnPhase k) s) fun t => t.sink = s.sink ∧ t.elapsed = s.elapsed ∧ ∀ o, settleMask o = 0 → t.get o = s.get o) ∧
  (∀ (k : Fin 24) (mv : Nat) (reg : Bool) (s : State), 40 ≤ (s.sinkSt k).ticks → sinkMay s k = true → measOld s k 10000 = true →
    (s.sinkSt k).since = none ∨ sinkLights s k = true →
    Answers (exec (.sinkMeasure k mv reg) s) fun t => (timingRef s = true → t.elapsed = max s.elapsed ((s.sinkSt k).began + 300)) ∧
      t.rd ILU_SINK_STAT_HEAD k = min ((mv + 10) / 20) 4095 ∧
      t.rd ILU_SINK_STAT_REG k = reg.toNat ∧ t.rd ILU_SINK_STAT_UNVERIFIED k = 0 ∧ (t.sinkSt k).meas = some (mv, t.elapsed) ∧
      (t.sinkSt k).ticks = 0 ∧ (reg = false → mv < 100 → (s.sinkSt k).low = 7 → s.flag ILU_SINK_CFG_CONV k = false →
        t.rd ILU_SINK_STAT_OPEN k = 1 ∧ Raised 160 s t)) ∧
  (∀ (k : Fin 24) (mv : Nat) (reg : Bool) (s : State),
    (s.sinkSt k).ticks < 40 ∨ sinkMay s k = false ∨ (measOld s k 10000 = false ∧ (s.sinkSt k).began + 300 ≤ s.elapsed ∧ timingRef s = true) →
    Answers (exec (.sinkMeasure k mv reg) s) fun t => (t.sinkSt k).meas = (s.sinkSt k).meas ∧
      t.rd ILU_SINK_STAT_HEAD k = s.rd ILU_SINK_STAT_HEAD k ∧ t.rd ILU_SINK_STAT_OPEN k = s.rd ILU_SINK_STAT_OPEN k) ∧
  (∀ (k : Fin 24) (mv : Nat) (reg : Bool) (s : State), sinkWatched s k = true → s.flag ILU_SINK_CTRL_AWL_EN k = true →
    unmeasured s k (awlInt s) = true → sinkMay s k = true → sinkChannel s k = true → blankLong s (s.rd ILU_SINK_CFG_GCH k) = true →
    Answers (exec (.awlPulse k mv reg) s) fun t => Counted ILU_CNT_AWL 0 1 s t ∧ (t.sinkSt k).meas = some (mv, t.elapsed) ∧
      (timingRef s = true → t.elapsed = max s.elapsed ((s.chan (s.rd ILU_SINK_CFG_GCH k)).blankAt + 100) + 300 ∧
        ((s.sinkSt k).since = none → (s.sinkSt k).awl = none → (t.sinkSt k).awl = some (t.elapsed, t.elapsed + 100) ∧
          (t.sinkSt k).binQ = (s.sinkSt k).binQ + 30 * sinkCur s k)) ∧
      t.rd ILU_SINK_STAT_HEAD k = min ((mv + 10) / 20) 4095 ∧ t.rd ILU_SINK_STAT_REG k = reg.toNat) ∧
  (∀ (k : Fin 24) (mv : Nat) (reg : Bool) (s : State), unmeasured s k (awlInt s) = false ∨ blankLong s (s.rd ILU_SINK_CFG_GCH k) = false →
    Answers (exec (.awlPulse k mv reg) s) fun t => t.sink = s.sink ∧ ∀ o, settleMask o = 0 → t.get o = s.get o) ∧
  (∀ (k : Fin 24) (s : State), s.loaded 7 = true → sinkWatched s k = true → unmeasured s k (4 * awlInt s) = true →
    s.flag ILU_SINK_STAT_UNVERIFIED k = false →
    Answers (exec (.sinkUnverified k) s) fun t => t.rd ILU_SINK_STAT_UNVERIFIED k = 1 ∧ Raised 162 s t)

/-- The headroom converter, lamp off, dissipation and the short test (R267 to R270, R282). The bins of dissipation on the elapsed count, the
roundings, LED_DISC where the rules do not name it, and that PGOOD_LOST leaves STATE are the model's choice (notes/assumptions/61.md, 62.md,
101.md). -/
def Obligations.ConverterAndLampTakeEffect : Prop :=
  (∀ s : State, s.rd ILU_CONV_STAT_STATE ≠ 2 → Answers (exec .headroomUpdate s) fun t => t.conv = s.conv ∧ ∀ o, settleMask o = 0 → t.get o = s.get o) ∧
  (∀ s : State, s.rd ILU_CONV_STAT_STATE = 2 → s.conv.meas = [] →
    Answers (exec .headroomUpdate s) fun t => t.rd ILU_CONV_STAT_NEEDY = 31 ∧ t.conv = s.conv ∧
      t.rd ILU_CONV_STAT_TARGET = s.rd ILU_CONV_STAT_TARGET) ∧
  (∀ (k : Fin 24) (mv : Nat) (s : State), s.rd ILU_CONV_STAT_STATE = 2 → s.conv.meas = [(k.val, mv)] → s.flag ILU_SINK_CFG_CONV k = true →
    s.flag ILU_SINK_STAT_OPEN k = false →
    Answers (exec .headroomUpdate s) fun t => t.rd ILU_CONV_STAT_NEEDY = k ∧ t.conv.meas = [] ∧
      t.rd ILU_CONV_STAT_TARGET = (t.conv.target + 5) / 10 ∧
      (let h := min (max (s.rd ILU_CONV_CTRL_HEAD_SET) 250) 1000
       let x := if mv < h then convTarget s + min (h - mv + 50) 1000 else convTarget s - min ((mv - h) / 8) 100
       t.conv.target = min (max x (convVmin s)) (convVmax s))) ∧
  (∀ s : State, Reaches s (ILU_CONV_CTRL.off 0 0) → s.flag ILU_CONV_CTRL_EN = false → convBlocked s = false →
    Answers (exec .convEnable s) fun t => t.rd ILU_CONV_CTRL_EN = 1 ∧ t.rd ILU_CONV_STAT_STATE = 1 ∧ t.rd ILU_CONV_STAT_PGOOD = 0 ∧
      t.rd ILU_CONV_STAT_TARGET = 0 ∧ t.conv.ramp = some s.elapsed ∧ t.conv.disc = true ∧ t.conv.target = convVmin s) ∧
  (∀ s : State, Reaches s (ILU_CONV_CTRL.off 0 0) → s.flag ILU_CONV_CTRL_EN = false → convBlocked s = true →
    Answers (exec .convEnable s) fun t => t.rd ILU_CONV_CTRL_EN = 0 ∧ t.conv = s.conv ∧ t.rd ILU_CONV_STAT_STATE = s.rd ILU_CONV_STAT_STATE) ∧
  (∀ s : State, s.rd ILU_CONV_STAT_STATE = 1 →
    Answers (exec .convPgood s) fun t => t.rd ILU_CONV_STAT_STATE = 2 ∧ t.rd ILU_CONV_STAT_PGOOD = 1 ∧ Raised 168 s t) ∧
  (∀ s : State, Answers (exec .pgoodLost s) fun t => t.rd ILU_CONV_STAT_PGOOD = 0 ∧ t.rd ILU_CONV_STAT_STATE = s.rd ILU_CONV_STAT_STATE ∧
      ∀ o, settleMask o = 0 → o ≠ ILU_CONV_STAT.off 0 0 → t.get o = s.get o) ∧
  (∀ s : State, s.loaded 7 = true →
    (s.conv.excursions.filter fun x => decide (s.elapsed - x ≤ 1000000)).length < 7 →
    Answers (exec .convOvervoltage s) fun t => t.conv.stopped = true ∧ t.conv.excursions.head? = some s.elapsed ∧
      ∀ o, settleMask o = 0 → t.get o = s.get o) ∧
  (∀ s : State, s.loaded 7 = true →
    7 ≤ (s.conv.excursions.filter fun x => decide (s.elapsed - x ≤ 1000000)).length →
    Answers (exec .convOvervoltage s) fun t => t.conv.stopped = true ∧ t.rd ILU_CONV_STAT_STATE = 3 ∧ t.rd ILU_CONV_STAT_OVP = 1 ∧
      t.rd ILU_CONV_CTRL_EN = 0 ∧ t.conv.disc = false ∧ (s.rd ILU_CONV_STAT_STATE ≠ 3 → Raised 167 s t)) ∧
  (∀ s : State, s.conv.stopped = true →
    Answers (exec .vledBelowVmax s) fun t => t.conv.stopped = false ∧ t.conv.target = s.conv.target ∧ ∀ o, settleMask o = 0 → t.get o = s.get o) ∧
  (∀ (c : ConvFault) (s : State), s.loaded 7 = true → c ≠ .loss ∨ s.rd ILU_CONV_STAT_STATE = 2 →
    Answers (exec (.convFault c) s) fun t => t.rd (convFlag c) = 1 ∧ t.rd ILU_CONV_STAT_STATE = 3 ∧ t.rd ILU_CONV_CTRL_EN = 0 ∧
      t.conv.disc = false ∧ (s.rd ILU_CONV_STAT_STATE ≠ 3 → Raised 167 s t)) ∧
  (∀ (c : ConvFault) (s : State), s.loaded 7 = false ∨ (c = .loss ∧ s.rd ILU_CONV_STAT_STATE ≠ 2) →
    Answers (exec (.convFault c) s) fun t => ∀ o, settleMask o = 0 → t.get o = s.get o) ∧
  (∀ (b : Bool) (s : State), Reaches s (ILU_CTRL.off 0 0) →
    Answers (exec (.lampOffWrite b) s) fun t => t.rd ILU_CTRL_LAMP_OFF = b.toNat ∧ t.rd ILU_STAT_DISS_TRIP = s.rd ILU_STAT_DISS_TRIP) ∧
  (∀ s : State, Reaches s (ILU_CTRL.off 0 0) → s.rd ILU_HAL_LINES = 0 →
    Answers (exec .lampClr s) fun t => t.rd ILU_STAT_LAMP_TRIP = 0 ∧ t.rd ILU_CTRL_LAMP_OFF = s.rd ILU_CTRL_LAMP_OFF) ∧
  (∀ s : State, Reaches s (ILU_CTRL.off 0 0) → s.lampLine = true → s.flag ILU_STAT_LAMP_TRIP = true →
    Answers (exec .lampClr s) fun t => t.rd ILU_STAT_LAMP_TRIP = 1) ∧
  (∀ s : State, s.loaded 7 = true →
    Answers (exec .dissBinEnd s) fun t => (timingRef s = true → t.elapsed = nextRun s 12 1000000) ∧ t.diss.drop 1 = s.diss.take 99 ∧
      t.rd ILU_STAT_DISS = min ((2 * t.diss.sum / (16383 * 100000000000) + 1) / 2) 65535 ∧
      t.rd ILU_STAT_DISS_WARN = (if dissWarn s ≤ t.rd ILU_STAT_DISS then 1 else 0) ∧
      (1500 < t.rd ILU_STAT_DISS → s.flag ILU_STAT_DISS_TRIP = false → t.rd ILU_STAT_DISS_TRIP = 1 ∧ Raised 165 s t) ∧
      (t.rd ILU_STAT_DISS ≤ 1500 → t.rd ILU_STAT_DISS_TRIP = s.rd ILU_STAT_DISS_TRIP) ∧ ∀ k : Fin 24, (t.sinkSt k).binQ = 0) ∧
  (∀ (k : Fin 24) (mv m : Nat) (x : SinkSt) (s : State), s.loaded 7 = true → s.sink = [(k.val, x)] → timingRef s = true → x.since = none → x.awl = none → x.meas = some (mv, m) →
    nextRun s 12 1000000 - m ≤ 100000000 →
    Answers (exec .dissBinEnd s) fun t => t.diss.head? = some (mv * (200 * x.binQ) * 10)) ∧
  (∀ s : State, s.loaded 7 = false →
    Answers (exec .dissBinEnd s) fun t => t.diss = s.diss ∧ (timingRef s = true → t.elapsed = nextRun s 12 1000000) ∧ t.rd ILU_STAT_DISS = s.rd ILU_STAT_DISS) ∧
  (∀ s : State, Reaches s (ILU_CTRL.off 0 0) → s.rd ILU_STAT_DISS < dissWarn s →
    Answers (exec .dissClr s) fun t => t.rd ILU_STAT_DISS_TRIP = 0 ∧ t.rd ILU_STAT_DISS = s.rd ILU_STAT_DISS) ∧
  (∀ s : State, Reaches s (ILU_CTRL.off 0 0) → dissWarn s ≤ s.rd ILU_STAT_DISS →
    Answers (exec .dissClr s) fun t => t.rd ILU_STAT_DISS_TRIP = s.rd ILU_STAT_DISS_TRIP) ∧
  (∀ s : State, Reaches s (ILU_CTRL.off 0 0) → s.flag ILU_CONV_CTRL_EN = false → (∀ k : Fin 24, s.flag ILU_SINK_CTRL_EN k = false) →
    Answers (exec .shortTest s) fun t => t.rd ILU_STAT_SHORT_BUSY = 1 ∧ t.conv.disc = false) ∧
  (∀ (k : Fin 24) (s : State), Reaches s (ILU_CTRL.off 0 0) → s.flag ILU_SINK_CTRL_EN k = true →
    Answers (exec .shortTest s) fun t => t.rd ILU_STAT_SHORT_BUSY = s.rd ILU_STAT_SHORT_BUSY) ∧
  (∀ (adj gnd : BitVec 24) (k : Fin 24) (s : State), s.flag ILU_STAT_SHORT_BUSY = true → s.flag ILU_SINK_CFG_USED k = true →
    Answers (exec (.shortTestDone adj gnd) s) fun t => t.rd ILU_STAT_SHORT_BUSY = 0 ∧ t.rd ILU_SINK_STAT_SHORT_GND k = (gnd.getLsbD k).toNat ∧
      t.rd ILU_SINK_STAT_SHORT_ADJ k = ((decide (k.val < 23) && adj.getLsbD k) || (decide (0 < k.val) && adj.getLsbD (k - 1))).toNat ∧
      (gnd.getLsbD k = true → t.rd ILU_STAT_SHORT_FOUND = 1 ∧ t.isPend 161 = true)) ∧
  (∀ (adj gnd : BitVec 24) (k : Fin 24) (s : State), s.flag ILU_STAT_SHORT_BUSY = true → s.flag ILU_SINK_CFG_USED k = false →
    Answers (exec (.shortTestDone adj gnd) s) fun t => t.rd ILU_SINK_STAT_SHORT_GND k = s.rd ILU_SINK_STAT_SHORT_GND k ∧
      t.rd ILU_SINK_STAT_SHORT_ADJ k =
        if pinSeen s k then (pairShort s adj.toNat k || (decide (0 < k.val) && pairShort s adj.toNat (k - 1))).toNat
        else s.rd ILU_SINK_STAT_SHORT_ADJ k) ∧
  (∀ (adj gnd : BitVec 24) (s : State), s.flag ILU_STAT_SHORT_BUSY = false →
    Answers (exec (.shortTestDone adj gnd) s) fun t => ∀ o, settleMask o = 0 → t.get o = s.get o)

/-- The pattern engines (R272 to R275): what the first step of each kind does, the stop, and time passing in a step. -/
def Obligations.PatternEnginesTakeEffect : Prop :=
  (∀ (e : Fin 16) (s : State), Reaches s (ILU_PE_CFG.off e 0) → peActive s e = false → s.quiescing 7 = false →
    bitsOf (peWord s e (s.rd ILU_PE_CFG_START e)) 60 4 = 1 →
    Answers (exec (.peStart e) s) fun t => t.rd ILU_PE_STAT_ACTIVE e = 1 ∧ t.rd ILU_PE_CFG_RUN e = 1 ∧
      t.rd ILU_PE_STAT_STEP e = s.rd ILU_PE_CFG_START e ∧ (t.peSt e).held = false ∧
      peStepWord t e = peWord s e (s.rd ILU_PE_CFG_START e) ∧
      ∀ k : Fin 24, s.rd ILU_SINK_CFG_PE k = e → t.rd ILU_SINK_STAT_OWNED k = 1 ∧
        (let w := peWord s e (s.rd ILU_PE_CFG_START e)
         bit w k = true → (if bit w 57 then t.rd ILU_SINK_CTRL_CUR k = min (bitsOf w 24 16) 16383 else t.rd ILU_SINK_DUTY_DUTY k = bitsOf w 24 16))) ∧
  (∀ (e : Fin 16) (s : State), Reaches s (ILU_PE_CFG.off e 0) → peActive s e = false → s.quiescing 7 = false →
    bitsOf (peWord s e (s.rd ILU_PE_CFG_START e)) 60 4 = 0 →
    Answers (exec (.peStart e) s) fun t => t.rd ILU_PE_STAT_ACTIVE e = 0 ∧ t.rd ILU_PE_CFG_RUN e = 0 ∧ Raised 170 s t) ∧
  (∀ (e : Fin 16) (s : State), Reaches s (ILU_PE_CFG.off e 0) → peActive s e = false → s.quiescing 7 = false →
    7 ≤ bitsOf (peWord s e (s.rd ILU_PE_CFG_START e)) 60 4 →
    Answers (exec (.peStart e) s) fun t => t.rd ILU_PE_STAT_ACTIVE e = 0 ∧ t.rd ILU_PE_STAT_ILLEGAL e = 1 ∧ Raised 170 s t ∧ Raised 171 s t) ∧
  (∀ (e : Fin 16) (s : State), Reaches s (ILU_PE_CFG.off e 0) → peActive s e = false → s.quiescing 7 = false →
    bitsOf (peWord s e (s.rd ILU_PE_CFG_START e)) 60 4 = 6 →
    Answers (exec (.peStart e) s) fun t => t.rd ILU_PE_STAT_ACTIVE e = 1 ∧ Raised 169 s t ∧
      t.rd ILU_PE_STAT_EVDATA e = bitsOf (peWord s e (s.rd ILU_PE_CFG_START e)) 24 16) ∧
  (∀ (e : Fin 16) (s : State), Reaches s (ILU_PE_CFG.off e 0) → peActive s e = false → s.quiescing 7 = false →
    bitsOf (peWord s e (s.rd ILU_PE_CFG_START e)) 60 4 = 4 → bitsOf (peWord s e (s.rd ILU_PE_CFG_START e)) 40 16 = 0 →
    Answers (exec (.peStart e) s) fun t => t.rd ILU_PE_STAT_ACTIVE e = 1 ∧
      (t.peSt e).next = bitsOf (peWord s e (s.rd ILU_PE_CFG_START e)) 24 6) ∧
  (∀ (e : Fin 16) (s : State), Reaches s (ILU_PE_CFG.off e 0) → peActive s e = true →
    Answers (exec (.peStart e) s) fun t => t.pe = s.pe ∧ t.rd ILU_PE_STAT_STEP e = s.rd ILU_PE_STAT_STEP e ∧ t.rd ILU_PE_CFG_RUN e = 1) ∧
  (∀ (e : Fin 16) (s : State), Reaches s (ILU_PE_CFG.off e 0) → peActive s e = true →
    Answers (exec (.peStop e) s) fun t => t.rd ILU_PE_STAT_ACTIVE e = 0 ∧ t.rd ILU_PE_CFG_RUN e = 0 ∧
      ∀ k : Fin 24, (s.rd ILU_SINK_CFG_PE k = e → t.rd ILU_SINK_STAT_OWNED k = 0) ∧ t.rd ILU_SINK_CTRL_CUR k = s.rd ILU_SINK_CTRL_CUR k ∧
        t.rd ILU_SINK_DUTY_DUTY k = s.rd ILU_SINK_DUTY_DUTY k) ∧
  (∀ (e : Fin 16) (n : Nat) (s : State), peActive s e = false ∨ (s.peSt e).held = true →
    Answers (exec (.peWaitEnd e n) s) fun t => t.pe = s.pe ∧ ∀ o, settleMask o = 0 → t.get o = s.get o) ∧
  (∀ (e : Fin 16) (n : Nat) (s : State), peActive s e = true → (s.peSt e).held = false → s.quiescing 7 = false →
    peWaits (peStepWord s e) = false ∨ (bitsOf (peStepWord s e) 58 2 = 0 ∧ bitsOf (peStepWord s e) 40 16 ≤ (s.peSt e).unit + n) →
    Answers (exec (.peWaitEnd e n) s) fun t => t.rd ILU_PE_STAT_STEP e = (s.peSt e).next % 64) ∧
  (∀ (e : Fin 16) (n k v : Nat) (s : State), peOn s e 0 = true → bitsOf (peStepWord s e) 60 4 = 2 → (s.peSt e).v0 = [(k, v)] → k < 24 →
    v ≤ 16383 → bit (peStepWord s e) 57 = true → (s.peSt e).unit + n < bitsOf (peStepWord s e) 40 16 →
    Answers (exec (.peWaitEnd e n) s) fun t => (t.peSt e).unit = (s.peSt e).unit + n ∧
      t.rd ILU_PE_STAT_STEP e = s.rd ILU_PE_STAT_STEP e ∧
      (t.rd ILU_SINK_CTRL_CUR k : Int) = v + divNearest (((peValue (peStepWord s e) : Int) - v) * ((s.peSt e).unit + n : Nat))
        (bitsOf (peStepWord s e) 40 16))

/-- The single-wire chains (R277, R280, R281): sending, returning, the gap, and strobes. That strobes wait while `P7` is quiesced and go after
its release is the model's choice (notes/assumptions/101.md). -/
def Obligations.ChainsTakeEffect : Prop :=
  (∀ (ch : Fin 2) (s : State), Reaches s (ILU_SW_CTRL.off ch 0) → chainEn s ch = true → s.quiescing 7 = false → s.rd ILU_SW_STAT_STATE ch = 0 →
    chainBad s ch = false →
    Answers (exec (.chainSend ch) s) fun t => t.rd ILU_SW_STAT_STATE ch = 1 ∧ t.rd ILU_SW_STAT_SEQ ch = (s.rd ILU_SW_STAT_SEQ ch + 1) % 256 ∧
      t.outs.contains (.chainFrame ch (dataFrame s ch ((s.rd ILU_SW_STAT_SEQ ch + 1) % 256))) = true) ∧
  (∀ (ch : Fin 2) (s : State), Reaches s (ILU_SW_CTRL.off ch 0) → chainEn s ch = true → s.quiescing 7 = false → chainState s ch ≠ 0 →
    Answers (exec (.chainSend ch) s) fun t => (t.chainSt ch).held = true ∧ t.rd ILU_SW_STAT_SEQ ch = s.rd ILU_SW_STAT_SEQ ch) ∧
  (∀ (ch : Fin 2) (s : State), chainEn s ch = true → s.loaded 7 = true → s.quiescing 7 = false → s.rd ILU_SW_STAT_STATE ch = 0 →
    chainBad s ch = false → s.rd ILU_SW_CTRL_REFRESH ch ≠ 0 →
    Answers (exec (.chainRefresh ch) s) fun t => t.rd ILU_SW_STAT_STATE ch = 1 ∧ t.rd ILU_SW_STAT_SEQ ch = (s.rd ILU_SW_STAT_SEQ ch + 1) % 256) ∧
  (∀ (ch : Fin 2) (s : State), chainEn s ch = true → s.loaded 7 = true → s.quiescing 7 = false → s.rd ILU_SW_STAT_STATE ch = 0 →
    chainBad s ch = true → s.rd ILU_SW_CTRL_REFRESH ch ≠ 0 →
    Answers (exec (.chainRefresh ch) s) fun t => t.rd ILU_SW_STAT_ERR ch = 5 ∧ t.rd ILU_SW_STAT_STATE ch = 0 ∧
      t.rd ILU_SW_STAT_SEQ ch = s.rd ILU_SW_STAT_SEQ ch) ∧
  (∀ (ch : Fin 2) (s : State), s.rd ILU_SW_CTRL_REFRESH ch = 0 →
    Answers (exec (.chainRefresh ch) s) fun t => t.chain = s.chain ∧ ∀ o, settleMask o = 0 → t.get o = s.get o) ∧
  (∀ (ch : Fin 2) (h x : Byte) (s : State), s.rd ILU_SW_STAT_STATE ch = 1 ∨ s.rd ILU_SW_STAT_STATE ch = 2 →
    (∀ d, d < s.rd ILU_SW_CTRL_DRIVERS ch → sBytes s ch d = 0) → h.toNat / 64 = 2 → x.toNat = s.rd ILU_SW_STAT_SEQ ch →
    Answers (exec (.chainReturn ch [h, x, BitVec.ofNat 8 (crc8 [h.toNat, x.toNat])]) s) fun t => t.rd ILU_SW_STAT_STATE ch = 3 ∧
      t.rd ILU_SW_STAT_ERR ch = 0 ∧ (t.chainSt ch).failed = false ∧ t.rd ILU_SW_CNT_FRAME_ERR ch = s.rd ILU_SW_CNT_FRAME_ERR ch) ∧
  (∀ (ch : Fin 2) (h x v : Byte) (s : State), s.rd ILU_SW_STAT_STATE ch = 1 ∨ s.rd ILU_SW_STAT_STATE ch = 2 →
    s.rd ILU_SW_CTRL_DRIVERS ch = 1 → sBytes s ch 0 = 1 → h.toNat / 64 = 2 → x.toNat = s.rd ILU_SW_STAT_SEQ ch →
    Answers (exec (.chainReturn ch [h, x, BitVec.ofNat 8 (crc8 [h.toNat, x.toNat]), v, BitVec.ofNat 8 (crc8 [v.toNat])]) s) fun t =>
      t.rd ILU_SW_STAT_STATE ch = 3 ∧ t.rd ILU_SW_STAT_ERR ch = 0 ∧ t.rd ILU_SW_STS_BYTES ch 0 % 256 = v.toNat ∧
      t.rd ILU_SW_STS_BYTES ch 0 / 256 = s.rd ILU_SW_STS_BYTES ch 0 / 256 ∧ (v.toNat / 128 = 1 → Counted ILU_SW_CNT_SHARE_ERR ch 1 s t)) ∧
  (∀ (ch : Fin 2) (h x v c : Byte) (s : State), s.rd ILU_SW_STAT_STATE ch = 1 ∨ s.rd ILU_SW_STAT_STATE ch = 2 →
    s.rd ILU_SW_CTRL_DRIVERS ch = 1 → sBytes s ch 0 = 1 → h.toNat / 64 = 2 → x.toNat = s.rd ILU_SW_STAT_SEQ ch → c.toNat ≠ crc8 [v.toNat] →
    Answers (exec (.chainReturn ch [h, x, BitVec.ofNat 8 (crc8 [h.toNat, x.toNat]), v, c]) s) fun t =>
      t.rd ILU_SW_STAT_STATE ch = 3 ∧ t.rd ILU_SW_STAT_ERR ch = 4 ∧ t.rd ILU_SW_STAT_ERR_DRV ch = 0 ∧
      t.rd ILU_SW_STS_BYTES ch 0 = s.rd ILU_SW_STS_BYTES ch 0 ∧ Counted ILU_SW_CNT_FRAME_ERR ch 1 s t) ∧
  (∀ (ch : Fin 2) (h x c : Byte) (l : List Byte) (s : State), s.rd ILU_SW_STAT_STATE ch = 1 ∨ s.rd ILU_SW_STAT_STATE ch = 2 →
    h.toNat / 64 ≠ 2 ∨ x.toNat ≠ s.rd ILU_SW_STAT_SEQ ch ∨ c.toNat ≠ crc8 [h.toNat, x.toNat] →
    Answers (exec (.chainReturn ch (h :: x :: c :: l)) s) fun t => t.rd ILU_SW_STAT_STATE ch = 3 ∧ t.rd ILU_SW_STAT_ERR ch = 2 ∧
      (t.chainSt ch).failed = true ∧ Counted ILU_SW_CNT_FRAME_ERR ch 1 s t) ∧
  (∀ (ch : Fin 2) (h x : Byte) (l : List Byte) (s : State), s.rd ILU_SW_STAT_STATE ch = 1 ∨ s.rd ILU_SW_STAT_STATE ch = 2 →
    h.toNat / 64 = 2 → x.toNat = s.rd ILU_SW_STAT_SEQ ch → 3 + l.length ≠ returnLen s ch →
    Answers (exec (.chainReturn ch (h :: x :: BitVec.ofNat 8 (crc8 [h.toNat, x.toNat]) :: l)) s) fun t => t.rd ILU_SW_STAT_STATE ch = 3 ∧
      t.rd ILU_SW_STAT_ERR ch = 3 ∧ Counted ILU_SW_CNT_FRAME_ERR ch 1 s t) ∧
  (∀ (ch : Fin 2) (l : List Byte) (s : State), s.rd ILU_SW_STAT_STATE ch = 0 ∨ s.rd ILU_SW_STAT_STATE ch = 3 →
    Answers (exec (.chainReturn ch l) s) fun t => ∀ o, settleMask o = 0 → t.get o = s.get o) ∧
  (∀ (ch : Fin 2) (s : State), s.rd ILU_SW_STAT_STATE ch = 1 ∨ s.rd ILU_SW_STAT_STATE ch = 2 →
    Answers (exec (.chainReturnTimeout ch) s) fun t => t.rd ILU_SW_STAT_STATE ch = 3 ∧ t.rd ILU_SW_STAT_ERR ch = 1 ∧ (t.chainSt ch).failed = true ∧
      Counted ILU_SW_CNT_FRAME_ERR ch 1 s t) ∧
  (∀ (ch : Fin 2) (s : State), s.rd ILU_SW_STAT_STATE ch = 3 → (s.chainSt ch).held = false →
    Answers (exec (.chainGapEnd ch) s) fun t => t.rd ILU_SW_STAT_STATE ch = 0 ∧ Raised (if (s.chainSt ch).failed then 174 + ch else 172 + ch) s t) ∧
  (∀ (ch : Fin 2) (s : State), s.rd ILU_SW_STAT_STATE ch = 3 → (s.chainSt ch).held = true → chainEn s ch = true → s.loaded 7 = true →
    s.quiescing 7 = false → chainBad s ch = false →
    Answers (exec (.chainGapEnd ch) s) fun t => t.rd ILU_SW_STAT_STATE ch = 1 ∧ (t.chainSt ch).held = false ∧
      t.rd ILU_SW_STAT_SEQ ch = (s.rd ILU_SW_STAT_SEQ ch + 1) % 256) ∧
  (∀ (ch : Fin 2) (d : Nat) (l : List Nat) (s : State), (s.chainSt ch).waiting = d :: l → s.quiesced 7 = false →
    Answers (exec (.chainStrobeSend ch) s) fun t => (t.chainSt ch).waiting = l ∧ (t.chainSt ch).flight = (s.chainSt ch).flight ++ [d] ∧
      t.outs.contains (.chainFrame ch (withCrc [192, d])) = true) ∧
  (∀ (ch : Fin 2) (s : State), (s.chainSt ch).waiting = [] ∨ s.quiesced 7 = true →
    Answers (exec (.chainStrobeSend ch) s) fun t => t.chain = s.chain ∧ ∀ o, settleMask o = 0 → t.get o = s.get o) ∧
  (∀ (ch : Fin 2) (d : Byte) (ok : Bool) (e : Nat) (l : List Nat) (s : State), (s.chainSt ch).flight = e :: l →
    Answers (exec (.strobeReturn ch d ok) s) fun t => (t.chainSt ch).flight = l ∧
      (ok = true ∧ d.toNat = e → t.rd ILU_SW_CNT_FRAME_ERR ch = s.rd ILU_SW_CNT_FRAME_ERR ch) ∧
      (ok = false ∨ d.toNat ≠ e → Counted ILU_SW_CNT_FRAME_ERR ch 1 s t))

/-- Triggers (R312 to R315, R321, R323): the start of a pass, delays, lost triggers, the end of the wait for a pair and a converter disabled. -/
def Obligations.TriggersStartPasses : Prop :=
  (∀ (cv : Fin 2) (k : Nat) (s : State), Reaches s (CNV_CTRL.off cv 0) → CvIdle s cv → s.rd CNV_TRIG_DELAY cv 0 = 0 →
    s.rd CNV_SEQ_SETUP cv 0 = k → setupBad s cv k = false → s.flag CNV_SHARED_EN = false →
    Answers (exec (.swtrigRegular cv) s) fun t => (t.cvSt cv).phase = 2 ∧ (t.cvSt cv).setup = k ∧ (t.cvSt cv).entry = 0 ∧
      (t.cvSt cv).regRun = true ∧ (t.cvSt cv).inj = false ∧ t.rd CNV_PASS_REG cv = (s.rd CNV_PASS_REG cv + 1) % 2 ^ 16 ∧
      t.rd CNV_STAT_BUSY cv = 1 ∧ (t.cvSt cv).range = s.rd AFE_SU_IN_RANGE k ∧
      (t.cvSt cv).sources = setupSources s k ∧ (s.afe.d2d = true → (t.cvSt cv).sources = [])) ∧
  (∀ (cv : Fin 2) (k : Nat) (s : State), Reaches s (CNV_CTRL.off cv 0) → CvIdle s cv → s.rd CNV_TRIG_DELAY cv 1 = 0 →
    s.rd CNV_INJ_SETUP cv 0 = k → setupBad s cv k = false →
    Answers (exec (.swtrigInjected cv) s) fun t => (t.cvSt cv).phase = 2 ∧ (t.cvSt cv).setup = k ∧ (t.cvSt cv).entry = 0 ∧
      (t.cvSt cv).injRun = true ∧ (t.cvSt cv).inj = true ∧ t.rd CNV_PASS_INJ cv = (s.rd CNV_PASS_INJ cv + 1) % 2 ^ 16 ∧
      t.rd CNV_STAT_BUSY cv = 1 ∧ t.rd CNV_STAT_INJ cv = 1) ∧
  (∀ (cv : Fin 2) (s : State), Reaches s (CNV_CTRL.off cv 0) → CvIdle s cv → s.rd CNV_TRIG_DELAY cv 0 ≠ 0 →
    Answers (exec (.swtrigRegular cv) s) fun t => (t.cvSt cv).delR = some (s.rd CNV_TRIG_DELAY cv 0) ∧ t.rd CNV_STAT_DELAYING cv = 1 ∧
      t.rd CNV_PASS_REG cv = s.rd CNV_PASS_REG cv) ∧
  (∀ (cv : Fin 2) (s : State), Reaches s (CNV_CTRL.off cv 0) → cvOn s cv = true → cvHeld s = true → (s.cvSt 0).phase ≠ 5 →
    Answers (exec (.swtrigInjected cv) s) fun t => Counted CNV_CNT_LOST cv 1 s t ∧ Raised 205 s t ∧ t.cv = s.cv) ∧
  (∀ (cv : Fin 2) (s : State), Reaches s (CNV_CTRL.off cv 0) → cvOn s cv = false → (s.cvSt 0).phase ≠ 5 →
    Answers (exec (.swtrigRegular cv) s) fun t => t.cv = s.cv ∧ t.rd CNV_CNT_LOST cv = s.rd CNV_CNT_LOST cv) ∧
  (∀ (cv : Fin 2) (k : Nat) (s : State), s.rd CNV_TRIG_TSRC cv 0 = 1 → CvIdle s cv → s.rd CNV_TRIG_DELAY cv 0 = 0 →
    s.rd CNV_SEQ_SETUP cv 0 = k → setupBad s cv k = false → s.flag CNV_SHARED_EN = false →
    Answers (exec (.cnvTimerTrigger cv 0) s) fun t => (t.cvSt cv).phase = 2 ∧ (t.cvSt cv).setup = k ∧
      t.rd CNV_PASS_REG cv = (s.rd CNV_PASS_REG cv + 1) % 2 ^ 16 ∧ t.rd CNV_STAT_BUSY cv = 1) ∧
  (∀ (cv q : Fin 2) (s : State), s.rd CNV_TRIG_TSRC cv q ≠ 1 →
    Answers (exec (.cnvTimerTrigger cv q) s) fun t => t.cv = s.cv ∧ ∀ o, settleMask o = 0 → t.get o = s.get o) ∧
  (∀ (cv : Fin 2) (d : Nat) (s : State), (s.cvSt cv).delR = some d → (s.cvSt cv).rpend = false → (s.cvSt cv).regRun = true →
    Answers (exec (.triggerDelayEnd cv 0) s) fun t => (t.cvSt cv).delR = none ∧ (t.cvSt cv).rpend = true ∧ t.rd CNV_STAT_RPEND cv = 1) ∧
  (∀ (cv : Fin 2) (d k : Nat) (s : State), (s.cvSt cv).delR = some d → CvIdle (s.updCvSt cv fun x => { x with delR := none }) cv →
    s.rd CNV_SEQ_SETUP cv 0 = k → setupBad s cv k = false → s.flag CNV_SHARED_EN = false →
    Answers (exec (.triggerDelayEnd cv 0) s) fun t => (t.cvSt cv).delR = none ∧ (t.cvSt cv).phase = 2 ∧ (t.cvSt cv).setup = k ∧
      t.rd CNV_PASS_REG cv = (s.rd CNV_PASS_REG cv + 1) % 2 ^ 16) ∧
  (∀ s : State, (s.cvSt 0).phase = 5 → (s.cvSt 0).second = false → sourceBusy s 0 (setupSources s (s.cvSt 0).setup) = false →
    Answers (exec .pairJoinTimeout s) fun t => (t.cvSt 0).phase = 2 ∧ (t.cvSt 0).alone = true ∧
      t.rd CNV_PLAUS_CNT_UNPAIRED = s.rd CNV_PLAUS_CNT_UNPAIRED) ∧
  (∀ s : State, (s.cvSt 0).phase ≠ 5 →
    Answers (exec .pairJoinTimeout s) fun t => t.cv = s.cv ∧ ∀ o, settleMask o = 0 → t.get o = s.get o) ∧
  (∀ (cv : Fin 2) (s : State), Reaches s (CNV_CTRL.off cv 0) → cvOn s cv = true → (s.cvSt cv).pair = false → (s.cvSt (1 - cv)).phase = 0 →
    (s.cvSt (1 - cv)).pair = false → cvOn s (1 - cv) = false →
    Answers (exec (.converterDisable cv) s) fun t => t.rd CNV_CTRL_EN cv = 0 ∧ (t.cvSt cv).phase = 0 ∧ (t.cvSt cv).regRun = false ∧
      (t.cvSt cv).rpend = false ∧ (t.cvSt cv).ipend = false ∧ (t.cvSt cv).delR = none ∧ (t.cvSt cv).delI = none ∧ t.rd CNV_STAT_BUSY cv = 0 ∧
      t.rd CNV_CTRL_RLEN cv = s.rd CNV_CTRL_RLEN cv)

/-- Conversions (R291, R293, R296, R303, R304, R309, R311, R318): from settling to the result, on a converter without its pair. -/
def Obligations.ConversionsTakeEffect : Prop :=
  (∀ (cv : Fin 2) (s : State), (s.cvSt cv).phase = 2 → (s.cvSt cv).pair = false →
    Answers (exec (.settlingEnd cv) s) fun t => (t.cvSt cv).phase = 3 ∧
      (t.cvSt cv).stamp = (if (s.cvSt cv).second then (s.cvSt cv).stamp else s.chrono) ∧ (t.cvSt cv).code = (s.cvSt cv).code) ∧
  (∀ (cv : Fin 2) (s : State), (s.cvSt cv).phase ≠ 2 → (s.cvSt 0).pair = false →
    Answers (exec (.settlingEnd cv) s) fun t => t.cv = s.cv ∧ ∀ o, settleMask o = 0 → t.get o = s.get o) ∧
  (∀ (cv : Fin 2) (r : RawConv) (k : Nat) (s : State), CvLast s cv → (s.cvSt cv).phase = 3 → (s.cvSt cv).setup = k → k < 32 → setupSwaps s k = false →
    (s.cvSt cv).second = false → (s.cvSt cv).ovr = false → s.flag AFE_SU_SET_OW_EN k = false →
    Answers (exec (.conversionDone cv r) s) fun t =>
      t.rd CNV_RES_CODE_CODE cv (s.cvSt cv).entry = toBits 32 (clampCode r).1 ∧ (t.cvSt cv).phase = 0 ∧ (t.cvSt cv).regRun = false ∧
      Raised (200 + cv) s t ∧ t.rd CNV_STAT_BUSY cv = 0 ∧ ((clampCode r).2 = true → Counted CNV_CNT_OVR cv 1 s t ∧ Raised 204 s t) ∧
      (s.rd AFE_SU_CURVE_CURVE k = 0 → f32IsNaN (f32Enc (quantity (clampCode r).1 (s.cvSt cv).range (s.rd AFE_SU_K_K k))) = false →
        t.rd AFE_SU_LAST_Y k = f32Enc (quantity (clampCode r).1 (s.cvSt cv).range (s.rd AFE_SU_K_K k)) % 2 ^ 32)) ∧
  (∀ (cv : Fin 2) (r : RawConv) (k : Nat) (s : State), CvLast s cv → (s.cvSt cv).phase = 3 → (s.cvSt cv).setup = k → setupSwaps s k = false →
    s.flag AFE_SU_SET_OW_EN k = false → (s.cvSt cv).alone = true →
    Answers (exec (.conversionDone cv r) s) fun t => Counted CNV_PLAUS_CNT_UNPAIRED 0 1 s t ∧ Raised 208 s t ∧ (t.cvSt cv).phase = 0 ∧
      bit (t.rd CNV_RES_FLAG_CNV cv (s.cvSt cv).entry) 5 = true) ∧
  (∀ (cv : Fin 2) (r : RawConv) (s : State), (s.cvSt cv).phase ≠ 3 →
    Answers (exec (.conversionDone cv r) s) fun t => t.cv = s.cv ∧ ∀ o, settleMask o = 0 → t.get o = s.get o) ∧
  (∀ (cv : Fin 2) (mv : Nat) (s : State), (s.cvSt cv).phase = 4 →
    Answers (exec (.openWireSample cv mv) s) fun t =>
      (t.cvSt cv).owOpen = some (decide (50 * max 1 (s.rd AFE_SU_SET_OW_V (s.cvSt cv).setup) < mv)) ∧ (t.cvSt cv).phase = 4) ∧
  (∀ (cv : Fin 2) (mv : Nat) (s : State), (s.cvSt cv).phase ≠ 4 →
    Answers (exec (.openWireSample cv mv) s) fun t => t.cv = s.cv ∧ ∀ o, settleMask o = 0 → t.get o = s.get o) ∧
  (∀ (cv : Fin 2) (k : Nat) (s : State), CvLast s cv → (s.cvSt cv).phase = 4 → (s.cvSt cv).setup = k → k < 32 → (s.cvSt cv).owOpen = some true →
    Answers (exec (.openWirePulseEnd cv) s) fun t => t.rd AFE_SU_STAT_OWCOUNT k = min (s.rd AFE_SU_STAT_OWCOUNT k + 1) 2 ∧
      (t.cvSt cv).phase = 0 ∧ Raised (200 + cv) s t ∧
      (1 ≤ s.rd AFE_SU_STAT_OWCOUNT k → bit (s.rd AFE_BROKEN_SETUP) k = false → bit (t.rd AFE_BROKEN_SETUP) k = true ∧ Raised 185 s t)) ∧
  (∀ (cv : Fin 2) (s : State), (s.cvSt cv).phase ≠ 4 →
    Answers (exec (.openWirePulseEnd cv) s) fun t => t.cv = s.cv ∧ ∀ o, settleMask o = 0 → t.get o = s.get o) ∧
  (∀ (k : Fin 32) (r : Fin 16) (cv : Fin 2) (s : State), Reaches s (AFE_SU_IN.off k 0) → (s.cvSt cv).phase = 3 → (s.cvSt cv).setup = k →
    (s.cvSt cv).pair = false → (s.cvSt (1 - cv)).phase = 0 →
    Answers (exec (.rangeWrite k r) s) fun t => t.rd AFE_SU_IN_RANGE k = r ∧ Counted AFE_CNT_RANGE_RESTART 0 1 s t ∧ (t.cvSt cv).phase = 2 ∧
      (t.cvSt cv).range = r) ∧
  (∀ (k : Fin 32) (r : Fin 16) (s : State), Reaches s (AFE_SU_IN.off k 0) → (s.cvSt 0).phase = 0 → (s.cvSt 1).phase = 0 →
    Answers (exec (.rangeWrite k r) s) fun t => t.rd AFE_SU_IN_RANGE k = r ∧ t.rd AFE_SU_IN_INP k = s.rd AFE_SU_IN_INP k ∧
      ∀ o, settleMask o = 0 → o ≠ AFE_SU_IN.off k 0 → o ≠ GLB_ORDER_CNT.off 0 0 → t.get o = s.get o) ∧
  (∀ (cv : Fin 2) (s : State), (s.cvSt cv).phase = 1 → (s.cvSt cv).second = false → sourceBusy s cv (setupSources s (s.cvSt cv).setup) = false →
    Answers (exec (.excWaitResume cv) s) fun t => (t.cvSt cv).phase = 2 ∧ (t.cvSt cv).sources = setupSources s (s.cvSt cv).setup) ∧
  (∀ (cv : Fin 2) (s : State), (s.cvSt cv).phase ≠ 1 →
    Answers (exec (.excWaitResume cv) s) fun t => t.cv = s.cv ∧ ∀ o, settleMask o = 0 → t.get o = s.get o)

/-- The front end (R297, R301, R305, R306): mains tracking, stale sources, latched switches and coefficient sets. That SOURCE_STALE moves
the elapsed count to the end of SRC_AGE is the model's choice (notes/assumptions/106.md). -/
def Obligations.FrontEndTakesEffect : Prop :=
  (∀ (p : Nat) (s : State), s.loaded 8 = true → s.flag AFE_CFG_SYNC_EN = true → 1000000000 ≤ 70 * p → 40 * p ≤ 1000000000 →
    Answers (exec (.mainsEdge p) s) fun t => t.afe.periods = (p :: s.afe.periods).take 8 ∧
      (s.afe.good = 7 → s.flag AFE_MAINS_LOCK = false → (∀ x ∈ s.afe.periods, x = p) → t.rd AFE_MAINS_LOCK = 1 ∧ t.rd AFE_MAINS_FALLBACK = 0 ∧
        Raised 186 s t ∧ t.rd AFE_MAINS_PERIOD = p / 10)) ∧
  (∀ (p : Nat) (s : State), s.loaded 8 = true → s.flag AFE_CFG_SYNC_EN = true → 70 * p < 1000000000 ∨ 1000000000 < 40 * p →
    Answers (exec (.mainsEdge p) s) fun t => t.afe.periods = [] ∧ t.rd AFE_MAINS_LOCK = 0 ∧ t.rd AFE_MAINS_FALLBACK = 1 ∧
      t.rd AFE_MAINS_PERIOD = nominalPeriod s) ∧
  (∀ s : State, s.loaded 8 = true → s.flag AFE_CFG_SYNC_EN = true →
    Answers (exec .mainsTimeout s) fun t => t.afe.periods = [] ∧ t.rd AFE_MAINS_LOCK = 0 ∧ t.rd AFE_MAINS_FALLBACK = 1 ∧
      t.rd AFE_MAINS_PERIOD = nominalPeriod s ∧ (s.flag AFE_MAINS_LOCK = true → Raised 186 s t)) ∧
  (∀ s : State, s.loaded 8 = false ∨ s.flag AFE_CFG_SYNC_EN = false →
    Answers (exec .mainsTimeout s) fun t => ∀ o, settleMask o = 0 → t.get o = s.get o) ∧
  (∀ (n : Fin 16) (s : State), s.loaded 8 = true → s.rd AFE_CFG_SRC_AGE ≠ 0 →
    Answers (exec (.sourceStale n) s) fun t => bit (t.rd AFE_TS_STAT_SAFE_ACT) n = true ∧ s.elapsed ≤ t.elapsed ∧
      (timingRef s = true →
        t.elapsed = max s.elapsed (((s.suSt (s.rd AFE_TS_CFG_SETUP n)).last.map fun l => l + s.rd AFE_CFG_SRC_AGE * 1000000).getD 0))) ∧
  (∀ (n : Fin 16) (s : State), s.loaded 8 = true → s.rd AFE_CFG_SRC_AGE ≠ 0 → (s.suSt (s.rd AFE_TS_CFG_SETUP n)).last = none →
    Answers (exec (.sourceStale n) s) fun t => bit (t.rd AFE_TS_STAT_SAFE_ACT) n = true ∧ ∀ o, settleMask o = 0 → t.get o = s.get o) ∧
  (∀ (n : Fin 16) (s : State), s.loaded 8 = false ∨ s.rd AFE_CFG_SRC_AGE = 0 →
    Answers (exec (.sourceStale n) s) fun t => t.elapsed = s.elapsed ∧ ∀ o, settleMask o = 0 → t.get o = s.get o) ∧
  (∀ (m : BitVec 16) (n : Fin 16) (s : State), Reaches s (AFE_TS_CLR.off 0 0) → m.getLsbD n = true → s.flag AFE_TS_CFG_LATCH n = true →
    bit (s.rd AFE_TS_STAT_STATE) n = true → kvGet (fun _ => false) s.afe.tsHeld n = false →
    Answers (exec (.tsUnlatch m) s) fun t => bit (t.rd AFE_TS_STAT_STATE) n = false ∧ bit (t.rd AFE_TS_EVT_CHANGED) n = true ∧ t.isPend 184 = true) ∧
  (∀ (m : BitVec 16) (n : Fin 16) (s : State), Reaches s (AFE_TS_CLR.off 0 0) → m.getLsbD n = false ∨ kvGet (fun _ => false) s.afe.tsHeld n = true →
    Answers (exec (.tsUnlatch m) s) fun t => bit (t.rd AFE_TS_STAT_STATE) n = bit (s.rd AFE_TS_STAT_STATE) n) ∧
  (∀ (m : BitVec 8) (p : Fin 8) (i : Fin 24) (s : State), Reaches s (AFE_POLY_APPLY.off 0 0) →
    Answers (exec (.polyApply m) s) fun t => polyCoef t p i = if m.getLsbD p then s.rd AFE_POLY_COEF p i else polyCoef s p i)

/-- The queue commands (R329, R334 to R339, R342) and the spill (R331; which words it takes is the model's choice, notes/assumptions/18.md). -/
def Obligations.QueueCommandsTakeEffect : Prop :=
  (∀ (q : Fin 64) (s : State), Reaches s (0x1A00000 + 0x1000 * q) → s.flag QUE_CFG_DMA_EN q = false → qAt (s.q q) = none →
    Answers (exec (.queuePop q) s) fun t =>
      t.outs.contains (.readData (0x1A00000 + 0x1000 * q) [s.get (QUE_IDLE_LO.off q 0), s.get (QUE_IDLE_HI.off q 0), 0, 0]) = true ∧
      (t.q q).rd = (s.q q).rd ∧ (t.q q).pkts = (s.q q).pkts ∧ ∀ o, settleMask o = 0 → t.get o = s.get o) ∧
  (∀ (q : Fin 64) (w : QWord) (n k : Nat) (s : State), Reaches s (0x1A00000 + 0x1000 * q) → s.flag QUE_CFG_DMA_EN q = false →
    qAt (s.q q) = some (w, n, k) → qInSpill (s.q q) = false →
    Answers (exec (.queuePop q) s) fun t =>
      t.outs.contains (.readData (0x1A00000 + 0x1000 * q)
        ((popItem w.data n k (s.q q).loss false true (w.p || w.bad) w.f w.l).map (BitVec.ofNat 32))) = true ∧
      (t.q q).rd = adv (s.q q).rd 1 ∧ (t.q q).pkts = (s.q q).pkts ∧ (t.q q).rel = (s.q q).rel ∧
      (w.bad = true → Counted QUE_CNT_ERR_PARITY q 1 s t)) ∧
  (∀ (q : Fin 64) (s : State), Reaches s (QUE_CMD.off q 0) → qDisabled s q = true →
    Answers (exec (.mark q) s) fun t => t.rd QUE_STAT_CMD_ERR q = 5 ∧ t.qs = s.qs) ∧
  (∀ (q : Fin 64) (s : State), Reaches s (QUE_CMD.off q 0) → qDisabled s q = false → s.flag QUE_CFG_DMA_EN q = false →
    Answers (exec (.rewind q) s) fun t =>
      ((s.q q).markV = true → (t.q q).rd = (s.q q).mark ∧ t.rd QUE_STAT_CMD_ERR q = 0) ∧
      ((s.q q).markV = false → (s.q q).markLost = true → (t.q q).rd = (s.q q).rel ∧ (t.q q).loss = true ∧ t.rd QUE_STAT_CMD_ERR q = 3) ∧
      ((s.q q).markV = false → (s.q q).markLost = false → t.qs = s.qs ∧ t.rd QUE_STAT_CMD_ERR q = 2)) ∧
  (∀ (q : Fin 64) (p : QPkt) (r : List QPkt) (s : State), Reaches s (QUE_CMD.off q 0) → qDisabled s q = false → s.flag QUE_CFG_DMA_EN q = false →
    (s.q q).pkts = p :: r → p.words.length ≤ Machine.dist (s.q q).rel (s.q q).rd →
    Answers (exec (.release q 1) s) fun t => (t.q q).pkts = r ∧ (t.q q).rel = adv (s.q q).rel p.words.length ∧ t.rd QUE_STAT_CMD_ERR q = 0) ∧
  (∀ (q : Fin 64) (s : State), Reaches s (QUE_CMD.off q 0) → qDisabled s q = false → s.quiesced 10 = false → s.flag QUE_CFG_DMA_EN q = false →
    Answers (exec (.flush q) s) fun t => (t.q q).pkts = [] ∧ (t.q q).rd = (s.q q).cmt ∧ (t.q q).rel = (s.q q).cmt ∧ (t.q q).wr = (s.q q).cmt ∧
      (t.q q).isOpen = false ∧ t.rd QUE_STAT_EMPTY q = 1 ∧ t.rd QUE_STAT_CMD_ERR q = 0 ∧ Counted QUE_CNT_MISC_FLUSHES q 1 s t) ∧
  (∀ (q : Fin 64) (s : State), Reaches s (QUE_CMD.off q 0) → qDisabled s q = true ∨ s.quiesced 10 = true →
    Answers (exec (.flush q) s) fun t => t.rd QUE_STAT_CMD_ERR q = 5 ∧ t.qs = s.qs) ∧
  (∀ (q : Fin 64) (n : Nat) (s : State), n = 0 ∨ qSpillWaits s q = [] →
    Answers (exec (.spillWriteDone q n) s) fun t => t.qs = s.qs ∧ ∀ o, settleMask o = 0 → t.get o = s.get o) ∧
  (∀ (q : Fin 64) (i : Nat) (l : List Nat) (w : QWord) (s : State), qSpillWaits s q = i :: l → (qWords (s.q q))[i]? = some w → w.data < 2 ^ 64 →
    (spillSlot s q ((freePlaces (s.q q) 1).headD 0)).1 + 64 ≤ s.board.dramSize →
    Answers (exec (.spillWriteDone q 1) s) fun t =>
      let k := (freePlaces (s.q q) 1).headD 0
      qWords (t.q q) = (qWords (s.q q)).modify i (fun x => { x with dram := some k }) ∧
        spillGet t q k = { w with cover := 0, dram := none } ∧ (t.q q).rd = (s.q q).rd ∧ (t.q q).wr = (s.q q).wr ∧
        ∀ o, settleMask o = 0 → t.get o = s.get o) ∧
  (∀ (q : Fin 64) (n i : Nat) (s : State), Machine.dist (s.q q).rel (s.q q).rd ≤ i → i < Machine.dist (s.q q).rel (s.q q).rd + 512 →
    Answers (exec (.spillWriteDone q n) s) fun t => (qWords (t.q q))[i]? = (qWords (s.q q))[i]?) ∧
  (∀ (q : Fin 64) (n : Nat) (s : State), n = 0 ∨ qReturns s q = [] →
    Answers (exec (.spillReadDone q n) s) fun t => t.qs = s.qs ∧ ∀ o, settleMask o = 0 → t.get o = s.get o) ∧
  (∀ (q : Fin 64) (i k : Nat) (l : List Nat) (w : QWord) (s : State), qReturns s q = i :: l → (qWords (s.q q))[i]? = some w → w.dram = some k →
    Answers (exec (.spillReadDone q 1) s) fun t =>
      qWords (t.q q) = (qWords (s.q q)).modify i (fun _ => { spillGet s q k with cover := w.cover }) ∧
        (t.q q).rd = (s.q q).rd ∧ (t.q q).wr = (s.q q).wr ∧ ∀ o, settleMask o = 0 → t.get o = s.get o)

/-- The DMA channels and their descriptors (R345, R354 to R357): each of the six rows answers a next state. That HEAD goes back over entries
whose fetch is not answered is the model's choice (notes/assumptions/108.md). -/
def Obligations.DmaChannelsFetchDescriptors : Prop :=
  (∀ (ch : Fin 8) (s : State), Reaches s (PCR_DMA_CTRL.off ch 0) → s.flag PCR_DMA_CTRL_EN ch = false → 3 ≤ s.rd PCR_DMA_CTRL_SIZE ch →
    Answers (exec (.dmaEnable ch) s) fun t => t.rd PCR_DMA_CTRL_EN ch = 1 ∧ t.rd PCR_DMA_STAT_STATE ch = 1 ∧ t.rd PCR_DMA_STAT_ERR ch = 0 ∧
      t.dma = s.dma) ∧
  (∀ (ch : Fin 8) (s : State), Reaches s (PCR_DMA_CTRL.off ch 0) → s.flag PCR_DMA_CTRL_EN ch = false → s.rd PCR_DMA_CTRL_SIZE ch < 3 →
    Answers (exec (.dmaEnable ch) s) fun t => t.rd PCR_DMA_STAT_STATE ch = 2 ∧ t.rd PCR_DMA_STAT_ERR ch = 5 ∧ Raised 3 s t) ∧
  (∀ (ch : Fin 8) (s : State), Reaches s (PCR_DMA_CTRL.off ch 0) → s.flag PCR_DMA_CTRL_EN ch = true →
    Answers (exec (.dmaDisable ch) s) fun t => t.rd PCR_DMA_CTRL_EN ch = 0 ∧ t.rd PCR_DMA_STAT_STATE ch = 0 ∧ (t.dmaCh ch).descs = [] ∧
      (t.dmaCh ch).asked = [] ∧ (s.rd PCR_DMA_STAT_STATE ch = 1 → ∀ d ∈ (s.dmaCh ch).descs, t.outs.contains (.dmaWrite
        (s.rd PCR_DMA_BASE_LO_BASE ch * 64 + 2 ^ 32 * s.rd PCR_DMA_BASE_HI ch + 32 * d.idx + 16)
        [d.seq * 2 ^ 32 + d.got % 2 ^ 25, 0 * 2 ^ 32 + min d.npk 65535 * 2 ^ 16 + (if d.err then 2 ^ 6 else 0) + (if d.cont then 2 ^ 5 else 0) +
          (if d.poison then 2 ^ 4 else 0) + (if d.loss then 2 ^ 3 else 0) + 4 + 1] (s.flag QUE_CFG_RELAXED d.q)) = true)) ∧
  (∀ (ch : Fin 8) (v : Word) (s : State), Reaches s (PCR_DMA_TAIL.off ch 0) →
    Answers (exec (.dmaTailWrite ch v) s) fun t => t.rd PCR_DMA_TAIL_TAIL ch = v.toNat % 2 ^ 16 ∧ t.dma = s.dma ∧
      ∀ o, settleMask o = 0 → o ≠ PCR_DMA_TAIL.off ch 0 → o ≠ GLB_ORDER_CNT.off 0 0 → t.get o = s.get o) ∧
  (∀ (ch : Fin 8) (s : State), s.rd PCR_DMA_STAT_STATE ch = 1 →
    s.rd PCR_DMA_HEAD_HEAD ch % 2 ^ s.rd PCR_DMA_CTRL_SIZE ch ≠ s.rd PCR_DMA_TAIL_TAIL ch % 2 ^ s.rd PCR_DMA_CTRL_SIZE ch →
    (s.dmaCh ch).descs.length + (s.dmaCh ch).asked.length < 512 →
    Answers (exec (.dmaDescFetch ch) s) fun t =>
      let n := 2 ^ s.rd PCR_DMA_CTRL_SIZE ch
      let h := s.rd PCR_DMA_HEAD_HEAD ch % n
      t.rd PCR_DMA_HEAD_HEAD ch = (h + 1) % n ∧ (t.dmaCh ch).asked = (s.dmaCh ch).asked ++ [h] ∧
      t.outs.contains (.dmaFetch (s.rd PCR_DMA_BASE_LO_BASE ch * 64 + 2 ^ 32 * s.rd PCR_DMA_BASE_HI ch + 32 * h)) = true) ∧
  (∀ (ch : Fin 8) (s : State), s.rd PCR_DMA_STAT_STATE ch ≠ 1 ∨
    s.rd PCR_DMA_HEAD_HEAD ch % 2 ^ s.rd PCR_DMA_CTRL_SIZE ch = s.rd PCR_DMA_TAIL_TAIL ch % 2 ^ s.rd PCR_DMA_CTRL_SIZE ch →
    Answers (exec (.dmaDescFetch ch) s) fun t => t.dma = s.dma ∧ ∀ o, settleMask o = 0 → t.get o = s.get o) ∧
  (∀ (ch : Fin 8) (w0 w1 : BitVec 64) (i : Nat) (r : List Nat) (s : State), (s.dmaCh ch).asked = i :: r → dmaBound s ch (bitsOf w1.toNat 32 6) = true →
    bitsOf w1.toNat 0 25 % 64 = 0 → 64 ≤ bitsOf w1.toNat 0 25 → bitsOf w1.toNat 0 25 ≤ 16777216 →
    Answers (exec (.dmaDescFetched ch w0 w1) s) fun t => (t.dmaCh ch).asked = r ∧ t.rd PCR_DMA_STAT_FETCHED ch = ((s.dmaCh ch).descs.length + 1) % 2 ^ 10 ∧
      (t.dmaCh ch).descs = (s.dmaCh ch).descs ++
        [{ idx := i, addr := w0.toNat, len := bitsOf w1.toNat 0 25, q := bitsOf w1.toNat 32 6, irq := bit w1.toNat 39, err := false }]) ∧
  (∀ (ch : Fin 8) (w0 w1 : BitVec 64) (i : Nat) (r : List Nat) (s : State), (s.dmaCh ch).asked = i :: r →
    dmaBound s ch (bitsOf w1.toNat 32 6) = false ∨ bitsOf w1.toNat 0 25 % 64 ≠ 0 ∨ bitsOf w1.toNat 0 25 = 0 ∨
      16777216 < bitsOf w1.toNat 0 25 →
    (∀ d ∈ (s.dmaCh ch).descs, d.idx ≠ i) →
    Answers (exec (.dmaDescFetched ch w0 w1) s) fun t => (t.dmaCh ch).asked = r ∧ (t.dmaCh ch).descs = (s.dmaCh ch).descs ∧
      t.outs.contains (.dmaWrite (s.rd PCR_DMA_BASE_LO_BASE ch * 64 + 2 ^ 32 * s.rd PCR_DMA_BASE_HI ch + 32 * i + 16) [0, 65]
        (s.flag QUE_CFG_RELAXED (bitsOf w1.toNat 32 6))) = true) ∧
  (∀ (ch : Fin 8) (e : FetchErr) (s : State), s.rd PCR_DMA_STAT_STATE ch = 1 → (s.dmaCh ch).asked ≠ [] →
    Answers (exec (.dmaFetchError ch e) s) fun t => t.rd PCR_DMA_STAT_STATE ch = 2 ∧ t.rd PCR_DMA_STAT_ERR ch = fetchErrCode e ∧
      (t.dmaCh ch).asked = [] ∧ t.rd PCR_DMA_HEAD_HEAD ch = (s.dmaCh ch).asked.headD 0 % 2 ^ 16 ∧ Raised 3 s t) ∧
  (∀ (ch : Fin 8) (e : FetchErr) (s : State), s.rd PCR_DMA_STAT_STATE ch ≠ 1 ∨ (s.dmaCh ch).asked = [] →
    Answers (exec (.dmaFetchError ch e) s) fun t => t.dma = s.dma ∧ ∀ o, settleMask o = 0 → t.get o = s.get o)

/-- The buffers of the DMA channels (R345 to R347): each of the three rows answers a next state. -/
def Obligations.DmaBuffersTakeWords : Prop :=
  (∀ (ch : Fin 8) (q : Fin 64) (d : Desc) (w : QWord) (n k : Nat) (s : State), s.rd PCR_DMA_STAT_STATE ch = 1 → dmaBound s ch q = true →
    (s.dmaCh ch).descs = [d] → d.q = q.val → d.got < d.len → qAt (s.q q) = some (w, n, k) → qInSpill (s.q q) = false →
    Answers (exec (.dmaDataWrite ch q) s) fun t => (t.q q).rd = adv (s.q q).rd 1 ∧
      t.outs.contains (.dmaWrite (d.addr + d.got) [w.data] (s.flag QUE_CFG_RELAXED q)) = true ∧
      (t.dmaCh ch).descs.map (fun x => (x.idx, x.got, x.npk)) = [(d.idx, d.got + 8, if w.l then d.npk + 1 else d.npk)]) ∧
  (∀ (ch : Fin 8) (q : Fin 64) (d : Desc) (s : State), s.rd PCR_DMA_STAT_STATE ch = 1 → (s.dmaCh ch).descs = [d] → d.q = q.val → d.got = d.len →
    Answers (exec (.dmaDescComplete ch q) s) fun t => (t.dmaCh ch).descs = [] ∧ t.rd PCR_DMA_STAT_FETCHED ch = 0 ∧
      t.outs.contains (.dmaWrite (s.rd PCR_DMA_BASE_LO_BASE ch * 64 + 2 ^ 32 * s.rd PCR_DMA_BASE_HI ch + 32 * d.idx + 16)
        [d.seq * 2 ^ 32 + d.got % 2 ^ 25,
         min d.npk 65535 * 2 ^ 16 + d.err.toNat * 64 + d.cont.toNat * 32 + d.poison.toNat * 16 + d.loss.toNat * 8 + 1]
        (s.flag QUE_CFG_RELAXED q)) = true) ∧
  (∀ (ch : Fin 8) (q : Fin 64) (d : Desc) (s : State), s.rd PCR_DMA_STAT_STATE ch = 1 → (s.dmaCh ch).descs = [d] → d.q = q.val → 0 < d.got → d.got < d.len →
    s.rd QUE_CFG_DEADLINE q ≠ 0 →
    Answers (exec (.dmaDeadline ch q) s) fun t => (t.dmaCh ch).descs = [] ∧
      t.outs.contains (.dmaWrite (s.rd PCR_DMA_BASE_LO_BASE ch * 64 + 2 ^ 32 * s.rd PCR_DMA_BASE_HI ch + 32 * d.idx + 16)
        [d.seq * 2 ^ 32 + d.got % 2 ^ 25, (64 - d.got % 64) % 64 * 2 ^ 32 + min d.npk 65535 * 2 ^ 16 + d.err.toNat * 64 + d.cont.toNat * 32 +
          d.poison.toNat * 16 + d.loss.toNat * 8 + 3] (s.flag QUE_CFG_RELAXED q)) = true) ∧
  (∀ (ch : Fin 8) (q : Fin 64) (s : State), (s.dmaCh ch).descs = [] →
    Answers (exec (.dmaDeadline ch q) s) fun t => t.qs = s.qs ∧ ∀ o, settleMask o = 0 → t.get o = s.get o) ∧
  (∀ (ch : Fin 8) (q : Fin 64) (s : State), s.rd PCR_DMA_STAT_STATE ch ≠ 1 ∨ (s.dmaCh ch).descs = [] →
    Answers (exec (.dmaDataWrite ch q) s) fun t => t.qs = s.qs ∧ t.dma = s.dma ∧ ∀ o, settleMask o = 0 → t.get o = s.get o) ∧
  (∀ (ch : Fin 8) (q : Fin 64) (s : State), s.rd PCR_DMA_STAT_STATE ch ≠ 1 ∨ (s.dmaCh ch).descs = [] →
    Answers (exec (.dmaDescComplete ch q) s) fun t => t.qs = s.qs ∧ t.dma = s.dma ∧ ∀ o, settleMask o = 0 → t.get o = s.get o)

/-- The host link and its messages (R358, R363, R366, R376, R380 to R382, R440, R470). Where a message goes out, no line of the device raises
another. That a command's messages go out at its end, that CINCH completes within its command, and the link's training in standby are the
model's choice (notes/assumptions/5.md, 80.md, 106.md). -/
def Obligations.LinkAndMessagesTakeEffect : Prop :=
  (∀ (l1 : Bool) (w : LinkWidth) (v : LinkSpeed) (s : State), s.rd PCR_PWR_STAT_STATE ≠ 2 →
    Answers (exec (.pcieLinkChange true l1 w v) s) fun t => t.rd PCR_LINK_UP = 1 ∧ t.rd PCR_LINK_L1 = l1.toNat ∧ t.rd PCR_LINK_WIDTH = widthCode w ∧
      t.rd PCR_LINK_SPEED = speedCode v ∧
      (s.flag PCR_LINK_UP = false ∨ s.rd PCR_LINK_WIDTH ≠ widthCode w ∨ s.rd PCR_LINK_SPEED ≠ speedCode v → Raised 5 s t) ∧
      (s.flag PCR_LINK_UP = true → s.rd PCR_LINK_WIDTH = widthCode w → s.rd PCR_LINK_SPEED = speedCode v → t.rd EVT_CNT 5 = s.rd EVT_CNT 5) ∧ t.dma = s.dma) ∧
  (∀ (l1 : Bool) (w : LinkWidth) (v : LinkSpeed) (s : State), s.rd PCR_PWR_STAT_STATE = 2 →
    Answers (exec (.pcieLinkChange true l1 w v) s) fun t => t.rd PCR_LINK_UP = 1 ∧ t.rd PCR_LINK_WIDTH = 1 ∧ t.rd PCR_LINK_SPEED = 1) ∧
  (∀ (l1 : Bool) (w : LinkWidth) (v : LinkSpeed) (ch : Fin 8) (s : State), s.flag PCR_LINK_UP = true →
    Answers (exec (.pcieLinkChange false l1 w v) s) fun t => t.rd PCR_LINK_UP = 0 ∧ t.rd GLB_RST_CAUSE_PERST = 1 ∧ t.dmaCh ch = {} ∧
      t.rd PCR_DMA_STAT_STATE ch = 0 ∧ t.funcMask = false ∧ Raised 5 s t) ∧
  (∀ (l1 : Bool) (w : LinkWidth) (v : LinkSpeed) (s : State), s.flag PCR_LINK_UP = false →
    Answers (exec (.pcieLinkChange false l1 w v) s) fun t => t.dma = s.dma ∧ ∀ o, settleMask o = 0 → t.get o = s.get o) ∧
  (∀ (v : Fin 64) (s : State), s.rd EVT_HAL_INH_LINES = 0 → s.rd ILU_HAL_LINES = 0 → s.vecReq = [] → s.funcMask = false →
    (s.get (0x1109000 + 4 * (v / 32))).getLsbD (v % 32) = true →
    Answers (exec (.msixUnmask v false false) s) fun t => t.masked v = false ∧ (t.get (0x1109000 + 4 * (v / 32))).getLsbD (v % 32) = false ∧
      t.rd EVT_VSTAT_SENT v = (s.rd EVT_VSTAT_SENT v + 1) % 2 ^ 16 ∧
      t.outs.contains (.msix (s.get (0x1108000 + 16 * v)) (s.get (0x1108004 + 16 * v)) (s.get (0x1108008 + 16 * v))) = true) ∧
  (∀ (v : Fin 64) (s : State), s.rd EVT_HAL_INH_LINES = 0 → s.rd ILU_HAL_LINES = 0 → s.vecReq = [] →
    (s.get (0x1109000 + 4 * (v / 32))).getLsbD (v % 32) = false →
    Answers (exec (.msixUnmask v false false) s) fun t => (t.get (0x110800C + 16 * v)).getLsbD 0 = false ∧ t.outs = s.outs) ∧
  (∀ (v : Fin 64) (s : State), s.rd EVT_HAL_INH_LINES = 0 → s.rd ILU_HAL_LINES = 0 → s.vecReq = [] →
    Answers (exec (.msixUnmask v false true) s) fun t => (t.get (0x110800C + 16 * v)).getLsbD 0 = true ∧ t.masked v = true ∧ t.outs = s.outs) ∧
  (∀ (v : Fin 64) (b : Bool) (s : State), Answers (exec (.msixUnmask v true b) s) fun t => t.funcMask = b ∧ (b = true → ∀ u : Fin 64, t.masked u = true)) ∧
  (∀ (v u : Fin 64) (s : State), s.rd EVT_HAL_INH_LINES = 0 → s.rd ILU_HAL_LINES = 0 → s.vecReq = [] →
    (s.get (0x110800C + 16 * u)).getLsbD 0 = false → (s.get (0x1109000 + 4 * (u / 32))).getLsbD (u % 32) = true →
    Answers (exec (.msixUnmask v true false) s) fun t => (t.get (0x1109000 + 4 * (u / 32))).getLsbD (u % 32) = false ∧
      t.rd EVT_VSTAT_SENT u = (s.rd EVT_VSTAT_SENT u + 1) % 2 ^ 16 ∧
      t.outs.contains (.msix (s.get (0x1108000 + 16 * u)) (s.get (0x1108004 + 16 * u)) (s.get (0x1108008 + 16 * u))) = true) ∧
  (∀ (v : Word) (s : State), Reaches s (GLB_CINCH.off 0 0) →
    Answers (exec (.cinch v) s) fun t => t.rd GLB_CINCH_STAT_COUNT = (s.rd GLB_CINCH_STAT_COUNT + 1) % 2 ^ 16 ∧
      ∀ o, settleMask o = 0 → o ≠ GLB_CINCH_STAT.off 0 0 → o ≠ GLB_ORDER_CNT.off 0 0 → t.get o = s.get o) ∧
  (∀ s : State, s.captures = [] →
    Answers (exec .cinchStatRead s) fun t => t.outs.contains (.readData 0x84 [s.get 0x84]) = true ∧ ∀ o, settleMask o = 0 → t.get o = s.get o) ∧
  (∀ (v : Word) (s : State), Reaches s (GLB_ALINE_CTRL.off 0 0) →
    Answers (exec (.alineCtrlWrite v) s) fun t => t.rd GLB_ALINE_CTRL_EN = v.toNat / 2 ^ 31 ∧ t.rd GLB_ALINE_CTRL_CH = v.toNat % 16 ∧
      ∀ o, settleMask o = 0 → o ≠ GLB_ALINE_CTRL.off 0 0 → t.get o = s.get o) ∧
  (∀ (v : Word) (s : State), Reaches s (GLB_ALINE_LINE.off 0 0) →
    Answers (exec (.alineLineWrite v) s) fun t => t.rd GLB_ALINE_LINE_LINE = v.toNat ∧
      ∀ o, settleMask o = 0 → o ≠ GLB_ALINE_LINE.off 0 0 → t.get o = s.get o) ∧
  (∀ (v : Fin 64) (s : State), s.rd EVT_HAL_INH_LINES = 0 → s.rd ILU_HAL_LINES = 0 → s.vecReq = [] → s.active 11 = true → s.flag EVT_VSTAT_HOLDOFF v = true → s.flag EVT_VSTAT_DUE v = true →
    s.masked v = false →
    Answers (exec (.holdoffEnd v) s) fun t => t.rd EVT_VSTAT_DUE v = 0 ∧ t.rd EVT_VSTAT_SENT v = (s.rd EVT_VSTAT_SENT v + 1) % 2 ^ 16 ∧
      t.rd EVT_VSTAT_HOLDOFF v = (if s.rd EVT_VMOD_HOLD v = 0 then 0 else 1) ∧
      t.outs.contains (.msix (s.get (0x1108000 + 16 * v)) (s.get (0x1108004 + 16 * v)) (s.get (0x1108008 + 16 * v))) = true) ∧
  (∀ (v : Fin 64) (s : State), s.rd EVT_HAL_INH_LINES = 0 → s.rd ILU_HAL_LINES = 0 → s.vecReq = [] → s.flag EVT_VSTAT_DUE v = false →
    Answers (exec (.holdoffEnd v) s) fun t => t.rd EVT_VSTAT_HOLDOFF v = 0 ∧ t.outs = s.outs) ∧
  (∀ (w : Fin 9) (m : Word) (j : Fin 32) (s : State), Reaches s (EVT_PEND.off w 0) → 32 * w.val + j ≠ 114 → 32 * w.val + j ≠ 117 → 32 * w.val + j ≠ 118 →
    32 * w.val + j ≠ 166 → s.raised.contains (32 * w.val + j) = false →
    Answers (exec (.pendingClear w m) s) fun t => t.isPend (32 * w + j) = (s.isPend (32 * w + j) && !m.getLsbD j) ∧
      t.rd EVT_CNT (32 * w + j) = s.rd EVT_CNT (32 * w + j)) ∧
  (∀ (w : Fin 9) (v : Word) (j : Fin 32) (s : State), Reaches s (EVT_EN.off w 0) → s.rd EVT_HAL_INH_LINES = 0 → s.rd ILU_HAL_LINES = 0 → s.vecReq = [] →
    s.active 11 = true → s.enabled (32 * w + j) = false → v.getLsbD j = true → s.isPend (32 * w + j) = true →
    s.flag EVT_MAP_VEN (32 * w + j) = true → s.flag EVT_VSTAT_HOLDOFF (s.rd EVT_MAP_VEC (32 * w + j)) = false →
    s.masked (s.rd EVT_MAP_VEC (32 * w + j)) = false →
    Answers (exec (.evtEnableWrite w v) s) fun t => t.rd EVT_EN w = v.toNat ∧
      t.rd EVT_VSTAT_SENT (s.rd EVT_MAP_VEC (32 * w + j)) = (s.rd EVT_VSTAT_SENT (s.rd EVT_MAP_VEC (32 * w + j)) + 1) % 2 ^ 16) ∧
  (∀ (w : Fin 9) (v : Word) (s : State), Reaches s (EVT_EN.off w 0) →
    Answers (exec (.evtEnableWrite w v) s) fun t => t.rd EVT_EN w = v.toNat ∧ ∀ o, settleMask o = 0 → o ≠ EVT_EN.off w 0 → o ≠ GLB_ORDER_CNT.off 0 0 →
      t.get o = s.get o)

/-- Training, addressing and fold-back (R383, R384, R388, R389, R391, R398). The model's choice: the ports and the links' places as
notes/assumptions/26.md, 30.md and 105.md have them (the verdict, the report of 0, SEQ of a known ENUM, ties of fixed IDs). -/
def Obligations.RingTrainsAddressesAndFolds : Prop :=
  (∀ (s : State), Reaches s (BRD_CTRL.off 0 0) → s.flag BRD_CTRL_EN = false →
    Answers (exec .ringEnable s) fun t => t.rd BRD_CTRL_EN = 1 ∧ t.rd BRD_STAT_STATE = 1 ∧ (∀ p : Fin 2, t.rd BRD_PORT_STAT_STATE p = 1) ∧
      t.rd BRD_STAT_ID = (if leadRole s ∧ s.flag BRD_CFG_ID_MODE = true then s.rd BRD_CFG_ID else 0) ∧ t.rd BRD_STAT_FOLDED = 0 ∧ t.rd BRD_STAT_ID_CONFLICT = 0 ∧ t.rd BRD_STAT_P_EXCEED = 0 ∧
      t.rd BRD_STAT_LEAD = (if s.rd BRD_CFG_ROLE = 1 ∨ (s.rd BRD_CFG_ROLE ≠ 2 ∧ s.ring.strapLead = true) then 1 else 0) ∧ t.dram = s.dram) ∧
  (∀ (s : State), Reaches s (BRD_CTRL.off 0 0) → s.flag BRD_CTRL_EN = true → s.loaded 12 = true → s.flag BRD_STAT_LEAD = true →
    Answers (exec .ringRetrain s) fun t => t.rd BRD_STAT_STATE = 1 ∧ (∀ p : Fin 2, t.rd BRD_PORT_STAT_STATE p = 1) ∧
      t.rd BRD_STAT_ID = (if leadRole s ∧ s.flag BRD_CFG_ID_MODE = true then s.rd BRD_CFG_ID else 0) ∧
      (s.rd BRD_STAT_STATE = 4 → t.isPend 282 = true) ∧ t.ring.lat = [] ∧ t.ring.ids = [] ∧ t.ring.waiting = s.ring.waiting ∧
      t.rd BRD_STAT_FOLDED = 0 ∧ (s.flag BRD_STAT_FOLDED = true → t.ring.refold = some (s.rd BRD_STAT_FOLD_PORT))) ∧
  (∀ (s : State), Reaches s (BRD_CTRL.off 0 0) → s.flag BRD_CTRL_EN = true → isLead s = false →
    Answers (exec .ringRetrain s) fun t => t.ring = s.ring ∧ ∀ o, settleMask o = 0 → o ≠ GLB_ORDER_CNT.off 0 0 → t.get o = s.get o) ∧
  (∀ (p : Fin 2) (s : State), ringForwards s = true → s.rd BRD_PORT_STAT_STATE p = 1 →
    Answers (exec (.ringPortTrained p .cdrLock) s) fun t => t.rd BRD_PORT_STAT_STATE p = 2 ∧ t.ring = s.ring ∧
      ∀ o, settleMask o = 0 → o ≠ BRD_PORT_STAT.off p 0 → t.get o = s.get o) ∧
  (∀ (p : Fin 2) (s : State), ringForwards s = true → s.rd BRD_PORT_STAT_STATE p = 2 →
    Answers (exec (.ringPortTrained p .blockLock) s) fun t => t.rd BRD_PORT_STAT_STATE p = 3 ∧ t.ring = s.ring ∧
      ∀ o, settleMask o = 0 → o ≠ BRD_PORT_STAT.off p 0 → t.get o = s.get o) ∧
  (∀ (p : Fin 2) (eye : Fin 65) (s : State), ringForwards s = true → s.rd BRD_PORT_STAT_STATE p = 3 →
    Answers (exec (.ringPortTrained p (.eyeScan eye)) s) fun t => t.rd BRD_PORT_STAT_EYE p = eye ∧
      (eye < Config.portEyeMin → t.rd BRD_PORT_STAT_STATE p = 5 ∧ t.rd BRD_STAT_FOLDED = s.rd BRD_STAT_FOLDED) ∧
      (Config.portEyeMin ≤ eye → t.rd BRD_PORT_STAT_STATE p = 4 ∧ t.isPend 282 = true ∧
        (s.flag BRD_STAT_FOLDED = true → s.rd BRD_STAT_FOLD_PORT = p → s.flag BRD_STAT_P_EXCEED = false → s.ring.refold ≠ some p.val →
          s.rd BRD_STAT_STATE ≠ 4 → t.rd BRD_STAT_FOLDED = 0 ∧ Raised 281 s t) ∧
        (s.flag BRD_STAT_FOLDED = true → s.rd BRD_STAT_FOLD_PORT = 1 → p = 1 → s.flag BRD_STAT_P_EXCEED = false → s.rd BRD_STAT_STATE = 4 →
          t.rd BRD_STAT_FOLDED = 1 ∧ t.outs.contains (ownFrame s 1 2 false 0 (measureBlocks s.chrono 0 0)) = true) ∧
        (s.flag BRD_STAT_FOLDED = false ∨ s.rd BRD_STAT_FOLD_PORT ≠ p ∨ s.flag BRD_STAT_P_EXCEED = true →
          t.rd BRD_STAT_FOLDED = s.rd BRD_STAT_FOLDED))) ∧
  (∀ (p : Fin 2) (s : State), ringForwards s = true → s.rd BRD_PORT_STAT_STATE p = 0 → s.ring.relock.contains p.val = true →
    Answers (exec (.ringPortTrained p .relocked) s) fun t => t.rd BRD_PORT_STAT_STATE p = 4 ∧ t.rd BRD_PORT_STAT_EYE p = s.rd BRD_PORT_STAT_EYE p ∧
      t.isPend 282 = true ∧ t.ring.relock.contains p.val = false ∧
      (s.ring.refold = some p.val → s.flag BRD_STAT_FOLDED = false → t.ring.refold = none ∧ Raised 281 s t)) ∧
  (∀ (p : Fin 2) (eye : Fin 65) (s : State), ringForwards s = true → portUp s p = true →
    Answers (exec (.ringPortTrained p (.eyeScan eye)) s) fun t => t.rd BRD_PORT_STAT_EYE p = eye ∧ portUp t p = true ∧ t.ring = s.ring ∧
      ∀ o, settleMask o = 0 → o ≠ BRD_PORT_STAT.off p 0 → t.get o = s.get o) ∧
  (∀ (p : Fin 2) (s : State), isLead s = true → s.rd BRD_PORT_STAT_STATE p = 0 → s.ring.relock.contains p.val = true → portUp s (1 - p.val) = true →
    s.flag BRD_STAT_FOLDED = false → s.rd BRD_STAT_STATE = 1 →
    Answers (exec (.ringPortTrained p .relocked) s) fun t => t.rd BRD_STAT_STATE = 2 ∧ t.outs.contains (ownFrame s 1 1 true 0 [1]) = true) ∧
  (∀ (p : Fin 2) (eye : Fin 65) (s : State), isLead s = true → s.rd BRD_PORT_STAT_STATE p = 3 → portUp s (1 - p.val) = true →
    s.flag BRD_STAT_FOLDED = false → s.rd BRD_STAT_STATE = 1 →
    Answers (exec (.ringPortTrained p (.eyeScan eye)) s) fun t => t.rd BRD_STAT_STATE = (if Config.portEyeMin ≤ eye then 2 else 1) ∧
      (Config.portEyeMin ≤ eye → t.outs.contains (ownFrame s 1 1 true 0 [1]) = true)) ∧
  (∀ (p : Fin 2) (e : PortStep) (s : State), ringForwards s = false →
    Answers (exec (.ringPortTrained p e) s) fun t => t.ring = s.ring ∧ ∀ o, settleMask o = 0 → t.get o = s.get o) ∧
  (∀ (p : Fin 2) (s : State), s.rd BRD_PORT_STAT_STATE p = 0 → s.ring.relock.contains p.val = false →
    Answers (exec (.ringPortTrained p .relocked) s) fun t => t.ring = s.ring ∧ ∀ o, settleMask o = 0 → t.get o = s.get o) ∧
  (∀ (p : Fin 2) (s : State), ringForwards s = true →
    Answers (exec (.ringPortLoss p) s) fun t => t.rd BRD_PORT_STAT_STATE p = 0 ∧ t.rd BRD_STAT_FOLDED = 1 ∧ t.rd BRD_STAT_FOLD_PORT = p ∧
      (portUp s p = true → Counted BRD_PORT_STAT_LOCKLOSS p 1 s t ∧ t.isPend 282 = true ∧ t.ring.relock.contains p.val = true) ∧
      (s.flag BRD_STAT_FOLDED = false ∨ s.rd BRD_STAT_FOLD_PORT ≠ p → Raised 281 s t) ∧
      (portUp s (1 - p.val) = false → t.ring.path = false ∧ t.nbr.filter (fun x => decide (kvGet (fun _ => 0) s.ring.nbrPort (x.1 / 16) < 2)) = [] ∧
        (s.rd BRD_STAT_STATE = 4 → t.rd BRD_STAT_STATE = 1)) ∧
      t.nbr.filter (fun x => kvGet (fun _ => 0) s.ring.nbrPort (x.1 / 16) == p.val) = []) ∧
  (∀ (p : Fin 2) (s : State), ringForwards s = true → s.rd BRD_PORT_STAT_STATE p = 0 ∨ s.rd BRD_PORT_STAT_STATE p = 5 →
    Answers (exec (.ringPortRetry p) s) fun t => t.rd BRD_PORT_STAT_STATE p = 1 ∧ t.rd BRD_PORT_STAT_LOCKLOSS p = s.rd BRD_PORT_STAT_LOCKLOSS p ∧
      t.ring = { s.ring with relock := s.ring.relock.filter fun x => x != p.val } ∧
      ∀ o, settleMask o = 0 → o ≠ BRD_PORT_STAT.off p 0 → t.get o = s.get o) ∧
  (∀ (h : RingHdr) (next : BitVec 11) (own : Bool) (s : State), ringOn s = true → portUp s h.port = true → h.hops ≠ 2047 →
    s.flag BRD_STAT_LEAD = false → s.ring.enumSeq ≠ some h.seq.toNat → s.flag BRD_CFG_ID_MODE = false → next ≠ 0 →
    Answers (exec (.enumFrame h next own) s) fun t => t.rd BRD_STAT_ID = next.toNat ∧ t.ring.idTaken = true ∧ t.rd BRD_STAT_STATE = 2 ∧
      t.rd BRD_STAT_ID_CONFLICT = 0 ∧ t.ring.leadId = h.src.toNat ∧ t.ring.toLead = h.port ∧ t.ring.enumSeq = some h.seq.toNat ∧
      t.outs.contains (forwarded s h 1 [if h.port = 1 then next.toNat - 1 else (next.toNat + 1) % 2048]) = true) ∧
  (∀ (h : RingHdr) (next : BitVec 11) (own : Bool) (s : State), ringOn s = true → portUp s h.port = true → h.hops ≠ 2047 →
    s.flag BRD_STAT_LEAD = false → s.ring.enumSeq ≠ some h.seq.toNat → s.flag BRD_CFG_ID_MODE = false → next = 0 →
    Answers (exec (.enumFrame h next own) s) fun t => t.rd BRD_STAT_ID_CONFLICT = 1 ∧ t.rd BRD_STAT_OVERFLOW = 1 ∧ t.ring.idTaken = false ∧
      t.outs.contains (forwarded s h 1 [0]) = true) ∧
  (∀ (h : RingHdr) (next : BitVec 11) (own : Bool) (s : State), ringOn s = true → portUp s h.port = true → h.hops ≠ 2047 →
    s.flag BRD_STAT_LEAD = false → s.ring.enumSeq ≠ some h.seq.toNat → s.flag BRD_CFG_ID_MODE = true →
    Answers (exec (.enumFrame h next own) s) fun t =>
      let taken := s.rd BRD_CFG_ID = h.src.toNat ∨ (if h.port = 1 then next.toNat < s.rd BRD_CFG_ID else s.rd BRD_CFG_ID < next.toNat)
      (taken → t.rd BRD_STAT_ID_CONFLICT = 1 ∧ t.ring.idTaken = false ∧ t.rd BRD_STAT_ID = s.rd BRD_STAT_ID) ∧
      (¬taken → t.rd BRD_STAT_ID_CONFLICT = 0 ∧ t.ring.idTaken = true ∧ t.rd BRD_STAT_ID = s.rd BRD_CFG_ID) ∧
      t.outs.contains (forwarded s h 1 [next.toNat]) = true) ∧
  (∀ (h : RingHdr) (next : BitVec 11) (own : Bool) (s : State), ringForwards s = true → portUp s h.port = true → h.hops ≠ 2047 →
    isLead s = false → ringOn s = false ∨ s.ring.enumSeq = some h.seq.toNat →
    Answers (exec (.enumFrame h next own) s) fun t => t.outs.contains (forwarded s h 1 [next.toNat]) = true ∧ t.ring = s.ring ∧
      ∀ o, settleMask o = 0 → t.get o = s.get o) ∧
  (∀ (h : RingHdr) (next : BitVec 11) (own : Bool) (s : State), ringForwards s = true → portUp s h.port = true → h.hops = 2047 →
    isLead s = false →
    Answers (exec (.enumFrame h next own) s) fun t => Counted BRD_CNT_BAD 0 1 s t ∧ t.ring = s.ring) ∧
  (∀ (h : RingHdr) (next : BitVec 11) (own : Bool) (s : State), isLead s = true → portUp s h.port = true → s.rd BRD_STAT_STATE ≠ 2 ∨ own = false →
    Answers (exec (.enumFrame h next own) s) fun t => t.rd BRD_STAT_LEAD_CONFLICT = 1 ∧ t.ring = s.ring ∧ t.rd BRD_STAT_STATE = s.rd BRD_STAT_STATE) ∧
  (∀ (h : RingHdr) (next : BitVec 11) (s : State), isLead s = true → portUp s h.port = true → s.rd BRD_STAT_STATE = 2 → s.ring.isOpen = false →
    Answers (exec (.enumFrame h next true) s) fun t =>
      (h.port = 0 → t.rd BRD_STAT_STATE = 3 ∧ t.ring.cntD = some h.hops.toNat ∧ t.ring.cntU = some 0 ∧
        (portUp s 1 = true → t.outs.contains (ownFrame s 1 2 false 0 (measureBlocks s.chrono 0 0)) = true)) ∧
      (h.port = 1 → t.rd BRD_STAT_STATE = 2 ∧ t.ring.cntD = some ((h.hops.toNat + 1) / 2))) ∧
  (∀ (h : RingHdr) (next : BitVec 11) (s : State), isLead s = true → portUp s h.port = true → s.rd BRD_STAT_STATE = 2 → s.ring.isOpen = true →
    Answers (exec (.enumFrame h next true) s) fun t =>
      (h.port = 1 → t.ring.cntD = some ((h.hops.toNat + 1) / 2) ∧ t.ring.cntU = s.ring.cntU ∧
        t.rd BRD_STAT_STATE = if s.ring.cntU.isSome then 3 else 2) ∧
      (h.port = 0 → t.ring.cntU = some ((h.hops.toNat + 1) / 2) ∧ t.ring.cntD = s.ring.cntD ∧
        t.rd BRD_STAT_STATE = if s.ring.cntD.isSome then 3 else 2)) ∧
  (∀ (s : State), isLead s = true → s.rd BRD_STAT_STATE = 2 → s.ring.isOpen = false → portUp s 0 = true →
    Answers (exec .enumTimeout s) fun t => t.ring.isOpen = true ∧ t.outs.contains (ownFrame s 0 1 true 0 [2047]) = true ∧
      ∀ o, settleMask o = 0 → t.get o = s.get o) ∧
  (∀ (s : State), isLead s = true → s.rd BRD_STAT_STATE = 2 → s.ring.isOpen = false → portUp s 0 = false →
    Answers (exec .enumTimeout s) fun t => t.ring.isOpen = true ∧ t.ring.cntU = some 0 ∧
      t.rd BRD_STAT_STATE = if s.ring.cntD.isSome then 3 else 2) ∧
  (∀ (h : RingHdr) (stamp : BitVec 64) (turn : BitVec 32) (s : State), HearsFrame s h →
    Answers (exec (.measureFrame h (.request stamp turn)) s) fun t =>
      t.outs.contains (ownFrame s h.port 2 false h.src.toNat (measureBlocks stamp.toNat 1 turn.toNat)) = true ∧ t.ring = s.ring ∧
      t.rd BRD_STAT_STATE = if isLead s = false ∧ s.rd BRD_STAT_STATE = 2 then 3 else s.rd BRD_STAT_STATE) ∧
  (∀ (h : RingHdr) (turn : BitVec 32) (round : Nat) (s : State), HearsFrame s h → isLead s = false →
    Answers (exec (.measureFrame h (.echo turn round)) s) fun t => t.rd BRD_STAT_STATE = s.rd BRD_STAT_STATE ∧ t.ring = s.ring ∧
      (h.port = 1 → t.outs.contains (ownFrame s (portToLead s) 2 false s.ring.leadId (measureBlocks 0 2 ((round - turn.toNat) / 2))) = true)) ∧
  (∀ (h : RingHdr) (turn : BitVec 32) (round : Nat) (s : State), HearsFrame s h → isLead s = true → h.port = 1 → s.rd BRD_STAT_STATE = 4 →
    s.ring.ids.all (fun d => d.1 != 0) = true → (round - turn.toNat) / 2 ≠ 0 →
    Answers (exec (.measureFrame h (.echo turn round)) s) fun t =>
      let lat := kvPut s.ring.lat 0 ((round - turn.toNat) / 2)
      let p := presDelay true 0 (lat.map fun x => x.2)
      t.rd BRD_PRES_P = s.rd BRD_PRES_P ∧
      (s.rd BRD_PRES_P < p → t.rd BRD_STAT_P_EXCEED = 1 ∧ t.ring = s.ring ∧ t.rd BRD_STAT_FOLDED = s.rd BRD_STAT_FOLDED) ∧
      (p ≤ s.rd BRD_PRES_P → t.rd BRD_STAT_P_EXCEED = s.rd BRD_STAT_P_EXCEED ∧ t.rd BRD_STAT_FOLDED = 0 ∧ t.ring.broken = false ∧
        t.ring.isOpen = false ∧ (s.ring.isOpen = false → t.ring.lat = lat) ∧ (s.flag BRD_STAT_FOLDED = true → Raised 281 s t))) ∧
  (∀ (h : RingHdr) (x : BitVec 32) (s : State), TakesFrame s h → isLead s = true → s.rd BRD_STAT_STATE = 3 → s.flag BRD_STAT_LEAD_CONFLICT = false →
    Answers (exec (.measureFrame h (.report x)) s) fun t =>
      let ids := if ringPlace s h = 0 then s.ring.ids else kvPut s.ring.ids (ringPlace s h) h.src.toNat
      let lat := if x = 0 then s.ring.lat else kvPut s.ring.lat (ringPlace s h) x.toNat
      t.ring.ids = ids ∧ t.ring.lat = lat ∧
      (ringCount s ≤ ids.length → ringLinks s ≤ lat.length → t.rd BRD_STAT_STATE = 4 ∧
        t.rd BRD_PRES_P = min (presDelay (!s.ring.isOpen) (s.ring.cntD.getD 0) (lat.map fun y => y.2)) 0xFFFFF ∧
        t.ring.family = some (s.rd BRD_CODE_OFFSET % 2048) ∧ t.isPend 282 = true) ∧
      (ids.length < ringCount s ∨ lat.length < ringLinks s → t.rd BRD_STAT_STATE = 3 ∧ t.rd BRD_PRES_P = s.rd BRD_PRES_P)) ∧
  (∀ (h : RingHdr) (x : BitVec 32) (s : State), TakesFrame s h → isLead s = true → s.rd BRD_STAT_STATE = 4 → x ≠ 0 →
    Answers (exec (.measureFrame h (.report x)) s) fun t =>
      let lat := kvPut s.ring.lat (ringPlace s h) x.toNat
      let p := presDelay true 0 (lat.map fun y => y.2)
      t.rd BRD_PRES_P = s.rd BRD_PRES_P ∧
      (s.rd BRD_PRES_P < p → t.rd BRD_STAT_P_EXCEED = 1 ∧ t.ring = s.ring ∧ t.rd BRD_STAT_FOLDED = s.rd BRD_STAT_FOLDED) ∧
      (p ≤ s.rd BRD_PRES_P → t.rd BRD_STAT_P_EXCEED = s.rd BRD_STAT_P_EXCEED ∧ t.ring.broken = false ∧ t.ring.isOpen = false ∧
        (s.ring.isOpen = false → t.ring.lat = lat))) ∧
  (∀ (h : RingHdr) (ok : Bool) (s : State), TakesFrame s h → isLead s = false →
    Answers (exec (.measureFrame h (.verdict ok)) s) fun t => t.ring = s.ring ∧
      (ok = true → t.rd BRD_STAT_FOLDED = 0 ∧ t.rd BRD_STAT_P_EXCEED = s.rd BRD_STAT_P_EXCEED ∧ (s.flag BRD_STAT_FOLDED = true → Raised 281 s t)) ∧
      (ok = false → t.rd BRD_STAT_P_EXCEED = 1 ∧ t.rd BRD_STAT_FOLDED = s.rd BRD_STAT_FOLDED)) ∧
  (∀ (h : RingHdr) (m : RingMeasure) (s : State), ringForwards s = true → portUp s h.port = true → ringOwnSrc s h = true → isLead s = false →
    s.flag BRD_CFG_ID_MODE = true → s.rd BRD_STAT_STATE = 2 ∨ s.rd BRD_STAT_STATE = 3 →
    Answers (exec (.measureFrame h m) s) fun t => t.rd BRD_STAT_ID_CONFLICT = 1 ∧ t.ring = s.ring ∧ t.rd BRD_STAT_STATE = s.rd BRD_STAT_STATE)

/-- What ring frames carry (R387, R390, R392 to R394, R396, R397). The model's choice: the payloads' layout and the lead's two chains
(notes/assumptions/105.md), the port to the lead (26.md), neighbours' profiles and the fixed readings of 30.md, and that a send runs at the
next multiple of its period (96.md). -/
def Obligations.RingCarriesTimePositionAndEvents : Prop :=
  (∀ (h : RingHdr) (lead : BitVec 64) (corr latency residence : Nat) (p : BitVec 20) (s : State), TakesFrame s h → isLead s = false →
    Answers (exec (.timeFrame h lead corr latency residence p) s) fun t => t.rd BRD_PRES_P = p.toNat ∧ t.rd BRD_STAT_STATE = 4 ∧ t.ring.path = true ∧
      t.ring.leadId = h.src.toNat ∧ t.ring.toLead = h.port ∧
      (h.bcast = true → t.outs.contains (forwarded s h 3 [lead.toNat, corr + residence, p.toNat]) = true) ∧
      (s.chrono + 1000 < lead.toNat + (corr + latency + 8) / 16 →
        t.chrono = lead.toNat + (corr + latency + 8) / 16 ∧ t.hold = 0 ∧ t.slew = 0 ∧ Raised 30 s t) ∧
      (lead.toNat + (corr + latency + 8) / 16 + 1000 < s.chrono →
        t.chrono = s.chrono ∧ t.slew = 0 ∧ t.hold = s.chrono - (lead.toNat + (corr + latency + 8) / 16)) ∧
      (s.chrono ≤ lead.toNat + (corr + latency + 8) / 16 + 1000 → lead.toNat + (corr + latency + 8) / 16 ≤ s.chrono + 1000 →
        t.chrono = s.chrono ∧ t.hold = 0 ∧ s.chrono + t.slew = lead.toNat + (corr + latency + 8) / 16)) ∧
  (∀ (h : RingHdr) (lead : BitVec 64) (corr latency residence : Nat) (p : BitVec 20) (s : State), TakesFrame s h → isLead s = true →
    Answers (exec (.timeFrame h lead corr latency residence p) s) fun t => t.chrono = s.chrono ∧ t.slew = s.slew ∧ t.hold = s.hold ∧
      t.ring = s.ring ∧ ∀ o, settleMask o = 0 → t.get o = s.get o) ∧
  (∀ (s : State), isLead s = true → s.rd BRD_STAT_STATE = 4 →
    Answers (exec .timeSend s) fun t => (timingRef s = true → t.elapsed = nextRun s 1 1000000) ∧
      t.outs.contains (ownFrame s (ringPort s) 3 true 0 [t.chrono, 0, s.rd BRD_PRES_P]) = true ∧
      (twoChains s = true →
        t.outs.contains (ownFrame s 0 3 true 0 [t.chrono, 0, s.rd BRD_PRES_P]) = true)) ∧
  (∀ (n : Fin 4) (s : State), isLead s = true → s.rd BRD_STAT_STATE = 4 → s.rd PCR_PWR_STAT_STATE ≠ 2 → s.rd BRD_CFG_DIST = 2 ^ n.val →
    Answers (exec .logFrameSend s) fun t =>
      let ts := kvGet (fun _ => []) s.ring.toSend n
      let t0 := logStart t ts
      (timingRef s = true → t.elapsed = nextRun s 2 1000) ∧ kvGet (fun _ => []) t.ring.toSend n = ts.drop (logTicks t0 ts).length ∧
      t.outs.contains (ownFrame s (ringPort s) 4 true 0 (logBlocks n
        (toBits 48 ((logValue s n : Int) + (netTicks (kvGet (fun _ => []) s.ring.waiting n) - netTicks ts))) t0
        ((logTicks t0 ts).map (tickOf t0)))) = true) ∧
  (∀ (h : RingHdr) (log m : Fin 4) (value : BitVec 48) (start : Nat) (ticks : List RingTick) (s : State), TakesFrame s h → isLead s = false →
    logsRun s = true → s.rd LOG_CFG_SRC m = 7 → s.rd LOG_CFG_RING_LOG m = log → (∀ k : Fin 4, k ≠ m → s.rd LOG_CFG_SRC k ≠ 7) →
    (∀ i : Fin 128, s.rd LOG_WP_CTRL_MODE i = 0) →
    Answers (exec (.logFrame h log value start ticks) s) fun t => t.rd LOG_STAT_SRC_LOST m = 0 ∧ t.ring.path = true ∧
      let held := kvGet (fun _ => []) s.ring.waiting m
      let new := ticks.map fun x => (tickTime start x, x.reverse)
      (toBits 48 ((logValue s m : Int) + netTicks held) = value.toNat → logValue t m = logValue s m ∧ t.rd BRD_CNT_RESYNC = s.rd BRD_CNT_RESYNC ∧
        kvGet (fun _ => []) t.ring.waiting m = if s.flag LOG_STAT_SRC_LOST m then new else held ++ new) ∧
      (toBits 48 ((logValue s m : Int) + netTicks held) ≠ value.toNat → logValue t m = value.toNat ∧ Counted BRD_CNT_RESYNC 0 1 s t ∧
        kvGet (fun _ => []) t.ring.waiting m = new)) ∧
  (∀ (h : RingHdr) (family : BitVec 11) (s : State), TakesFrame s h → isLead s = false → s.flag RGE_STAT_BUSY = false →
    Answers (exec (.codeFrame h family) s) fun t => t.ring.family = some family.toNat ∧ t.ring.path = true ∧ t.rd BRD_STAT_STATE = 4 ∧
      t.rd RGE_CODE_FAMILY = (if s.flag RGE_CODE_SRC then family.toNat else s.rd RGE_CODE_LOCAL) ∧ t.rd RGE_CODE_FALLBACK = 0) ∧
  (∀ (s : State), isLead s = false → s.ring.family ≠ none → s.flag RGE_STAT_BUSY = false →
    Answers (exec .codeHoldExpiry s) fun t => t.ring.family = none ∧ t.ring.path = false ∧ s.ring.heard + 100000000 ≤ t.elapsed ∧ t.rd RGE_CODE_FAMILY = s.rd RGE_CODE_LOCAL ∧
      t.rd RGE_CODE_FALLBACK = s.rd RGE_CODE_SRC) ∧
  (∀ (s : State), isLead s = true ∨ s.ring.family = none →
    Answers (exec .codeHoldExpiry s) fun t => t.ring = s.ring ∧ ∀ o, settleMask o = 0 → t.get o = s.get o) ∧
  (∀ (h : RingHdr) (source : Fin 288) (count : Word) (chrono : BitVec 64) (s : State), TakesFrame s h → isLead s = true → s.flag BRD_FWD_CFG_QEN = true →
    s.loaded 10 = true → s.quiescing 10 = false → s.swapping 10 = false → qDisabled s (s.rd BRD_FWD_CFG_QUEUE) = false →
    (s.q (s.rd BRD_FWD_CFG_QUEUE)).prods.head? = some 67 → (s.q (s.rd BRD_FWD_CFG_QUEUE)).isOpen = false →
    (s.q (s.rd BRD_FWD_CFG_QUEUE)).openW = [] → (s.q (s.rd BRD_FWD_CFG_QUEUE)).pkts = [] → 2 ≤ qCap s (s.rd BRD_FWD_CFG_QUEUE) →
    (s.q (s.rd BRD_FWD_CFG_QUEUE)).cmt = (s.q (s.rd BRD_FWD_CFG_QUEUE)).wr →
    Answers (exec (.eventFrame h source count chrono) s) fun t =>
      ((t.q (s.rd BRD_FWD_CFG_QUEUE)).pkts.map fun p => (p.seq, p.words.map fun w => w.data)) =
        [(s.rd QUE_SEQ_NEXT (s.rd BRD_FWD_CFG_QUEUE), [h.src.toNat * 2 ^ 53 + source.val * 2 ^ 32 + count.toNat, chrono.toNat])] ∧
      t.rd QUE_STAT_EMPTY (s.rd BRD_FWD_CFG_QUEUE) =
        (if (s.q (s.rd BRD_FWD_CFG_QUEUE)).rd = ((s.q (s.rd BRD_FWD_CFG_QUEUE)).wr + 2) % 2 ^ 32 then 1 else 0) ∧
      Raised (216 + s.rd BRD_FWD_CFG_QUEUE) s t) ∧
  (∀ (h : RingHdr) (source : Fin 288) (count : Word) (chrono : BitVec 64) (s : State), TakesFrame s h → isLead s = false ∨ s.flag BRD_FWD_CFG_QEN = false →
    Answers (exec (.eventFrame h source count chrono) s) fun t => t.qs = s.qs ∧ t.ring = s.ring ∧ ∀ o, settleMask o = 0 → t.get o = s.get o) ∧
  (∀ (h : RingHdr) (f : Fin 16) (part : Fin 8) (frame : Word) (stamp : BitVec 64) (entries : List ProfEntry) (s : State), TakesFrame s h →
    nbrSide s h.src.toNat = none →
    Answers (exec (.edgeFrame h f part frame stamp entries) s) fun t => Counted BRD_CNT_BAD 0 1 s t ∧ t.nbr = s.nbr ∧ t.ring = s.ring) ∧
  (∀ (h : RingHdr) (f : Fin 16) (part : Fin 8) (frame : Word) (stamp : BitVec 64) (entries : List ProfEntry) (side : Nat) (s : State), TakesFrame s h →
    nbrSide s h.src.toNat = some side → s.domain 4 = true → (kvGet (fun _ => {}) s.ring.parts (16 * side + f)).frame = frame.toNat →
    (kvGet (fun _ => {}) s.ring.parts (16 * side + f)).stamp = stamp.toNat → entries.length = 32 →
    (kvPut (kvGet (fun _ => {}) s.ring.parts (16 * side + f)).parts part entries).length = 8 →
    Answers (exec (.edgeFrame h f part frame stamp entries) s) fun t =>
      let k := 16 * side + f
      let x := histEnter s (0x400000 * s.rd BRD_NBR_BASE_BASE + 0x20000 * k) (kvGet (fun _ => []) s.nbr k) stamp.toNat
        ((kvPut (kvGet (fun _ => {}) s.ring.parts k).parts part entries).flatMap fun y => y.2)
      kvGet (fun _ => []) t.nbr k = x.2 ∧ t.dram = x.1.dram ∧ (x.2.head?.map fun y => y.stamp) = some stamp.toNat ∧ x.2.length ≤ 64 ∧
        t.ring.parts = kvDel s.ring.parts k ∧ ∀ o, settleMask o = 0 → t.get o = s.get o) ∧
  (∀ (h : RingHdr) (f : Fin 16) (part : Fin 8) (frame : Word) (stamp : BitVec 64) (entries : List ProfEntry) (side : Nat) (s : State), TakesFrame s h →
    nbrSide s h.src.toNat = some side → s.domain 4 = true → (kvGet (fun _ => {}) s.ring.parts (16 * side + f)).frame ≠ frame.toNat →
    entries.length = 32 →
    Answers (exec (.edgeFrame h f part frame stamp entries) s) fun t =>
      kvGet (fun _ => {}) t.ring.parts (16 * side + f) = ⟨frame.toNat, stamp.toNat, [(part.val, entries)]⟩ ∧ t.nbr = s.nbr ∧
        kvGet (fun _ => 0) t.ring.nbrPort side = h.port) ∧
  (∀ (h : RingHdr) (family : BitVec 11) (s : State), ringForwards s = true → portUp s h.port = true → h.bcast = false →
    h.dest.toNat ≠ s.rd BRD_STAT_ID → h.src.toNat ≠ s.rd BRD_STAT_ID → h.hops ≠ 2047 →
    Answers (exec (.codeFrame h family) s) fun t =>
      t.outs.contains (forwarded s h 5 [family.toNat]) = true ∧ t.ring = s.ring ∧
      ∀ o, settleMask o = 0 → t.get o = s.get o) ∧
  (∀ (h : RingHdr) (family : BitVec 11) (s : State), ringForwards s = true → portUp s h.port = true → h.hops = 2047 → ringOwnSrc s h = false →
    h.bcast = true ∨ h.dest.toNat ≠ s.rd BRD_STAT_ID →
    Answers (exec (.codeFrame h family) s) fun t => Counted BRD_CNT_BAD 0 1 s t ∧ t.ring = s.ring ∧ t.outs = s.outs) ∧
  (∀ (h : RingHdr) (family : BitVec 11) (s : State), ringForwards s = true → portUp s h.port = true → ringOwnSrc s h = true →
    Answers (exec (.codeFrame h family) s) fun t => Counted BRD_CNT_BAD 0 1 s t ∧ t.outs = s.outs ∧
      t.ring = { s.ring with broken := if isLead s && h.bcast then h.port == 1 else s.ring.broken }) ∧
  (∀ (h : RingHdr) (s : State), ringForwards s = true → portUp s h.port = true →
    Answers (exec (.ringFrameBad h) s) fun t => Counted BRD_CNT_BAD 0 1 s t ∧ t.ring = s.ring ∧
      ∀ o, settleMask o = 0 → o ≠ BRD_CNT.off 0 0 → t.get o = s.get o)

/-- Tunnelled accesses (R395). The model's choice: the status of the answer, the access's order beside the host's (notes/assumptions/31.md),
and the layout of the payloads (105.md). -/
def Obligations.TunnelledAccessesRunOnTheFollower : Prop :=
  (∀ (s : State), Reaches s (BRD_TUN_CMD.off 0 0) → s.loaded 12 = true →
    Answers (exec .tunRead s) fun t =>
      (s.flag BRD_TUN_CMD_BUSY = true → t.rd BRD_TUN_CMD_BUSY = 1 ∧ t.rd BRD_TUN_CMD_ERR = 2) ∧
      (s.flag BRD_TUN_CMD_BUSY = false → isLead s = false → t.rd BRD_TUN_CMD_BUSY = 0 ∧ t.rd BRD_TUN_CMD_ERR = 3) ∧
      (s.flag BRD_TUN_CMD_BUSY = false → isLead s = true → s.rd BRD_TUN_DEST_ID = s.rd BRD_STAT_ID →
        t.rd BRD_TUN_CMD_BUSY = 0 ∧ t.rd BRD_TUN_CMD_ERR = 4) ∧
      (s.flag BRD_TUN_CMD_BUSY = false → isLead s = true → s.rd BRD_TUN_DEST_ID ≠ s.rd BRD_STAT_ID →
        t.rd BRD_TUN_CMD_BUSY = 1 ∧ t.rd BRD_TUN_CMD_ERR = 0 ∧ t.ring.tunWrite = false ∧
        (ringSends s = true → t.outs.contains (ownFrame s (leadPort s (devicePlace s (s.rd BRD_TUN_DEST_ID))) 6 false (s.rd BRD_TUN_DEST_ID)
          (tunBlocks (s.rd BRD_TUN_ADDR_OFFSET) (s.rd BRD_TUN_DATA_DATA) false)) = true))) ∧
  (∀ (s : State), Reaches s (BRD_TUN_CMD.off 0 0) → s.flag BRD_TUN_CMD_BUSY = false → isLead s = true → s.rd BRD_TUN_DEST_ID ≠ s.rd BRD_STAT_ID →
    Answers (exec .tunWrite s) fun t => t.rd BRD_TUN_CMD_BUSY = 1 ∧ t.rd BRD_TUN_CMD_ERR = 0 ∧ t.ring.tunWrite = true ∧
      (ringSends s = true → t.outs.contains (ownFrame s (leadPort s (devicePlace s (s.rd BRD_TUN_DEST_ID))) 6 false (s.rd BRD_TUN_DEST_ID)
        (tunBlocks (s.rd BRD_TUN_ADDR_OFFSET) (s.rd BRD_TUN_DATA_DATA) true)) = true)) ∧
  (∀ (h : RingHdr) (n : Fin 64) (data : Word) (s : State), TakesFrame s h → isLead s = false → responds s (EVT_VMOD.off n 0) = true → s.loaded 11 = true →
    ringSends s = true →
    Answers (exec (.tunReqFrame h (BitVec.ofNat 25 (EVT_VMOD.off n 0)) data true) s) fun t => t.rd EVT_VMOD_HOLD n = data.toNat % 2 ^ 16 ∧
      t.outs.contains (ownFrame s (portToLead s) 7 false h.src.toNat (tunAnswer 0 data.toNat)) = true ∧
      ∀ o, settleMask o = 0 → o ≠ EVT_VMOD.off n 0 → o ≠ GLB_ORDER_CNT.off 0 0 → t.get o = s.get o) ∧
  (∀ (h : RingHdr) (n : Fin 64) (data : Word) (s : State), TakesFrame s h → isLead s = false → responds s (EVT_VMOD.off n 0) = true → s.loaded 11 = true →
    ringSends s = true → s.pwr.d2dDown = false →
    Answers (exec (.tunReqFrame h (BitVec.ofNat 25 (EVT_VMOD.off n 0)) data false) s) fun t =>
      t.outs.contains (ownFrame s (portToLead s) 7 false h.src.toNat (tunAnswer 0 (s.rd EVT_VMOD_HOLD n))) = true ∧
      ∀ o, settleMask o = 0 → o ≠ GLB_ORDER_CNT.off 0 0 → t.get o = s.get o) ∧
  (∀ (h : RingHdr) (off : BitVec 25) (data : Word) (w : Bool) (s : State), TakesFrame s h → isLead s = true →
    Answers (exec (.tunReqFrame h off data w) s) fun t => t.dram = s.dram ∧ t.ring = s.ring ∧ ∀ o, settleMask o = 0 → t.get o = s.get o) ∧
  (∀ (h : RingHdr) (status data : Word) (s : State), TakesFrame s h → s.flag BRD_TUN_CMD_BUSY = true →
    Answers (exec (.tunRspFrame h status data) s) fun t => t.rd BRD_TUN_CMD_BUSY = 0 ∧ t.rd BRD_TUN_CMD_ERR = s.rd BRD_TUN_CMD_ERR ∧
      t.rd BRD_TUN_DATA_DATA = (if s.ring.tunWrite then s.rd BRD_TUN_DATA_DATA else data.toNat) ∧
      ∀ o, settleMask o = 0 → o ≠ BRD_TUN_CMD.off 0 0 → o ≠ BRD_TUN_DATA.off 0 0 → t.get o = s.get o) ∧
  (∀ (h : RingHdr) (status data : Word) (s : State), TakesFrame s h → s.flag BRD_TUN_CMD_BUSY = false →
    Answers (exec (.tunRspFrame h status data) s) fun t => ∀ o, settleMask o = 0 → t.get o = s.get o) ∧
  (∀ (s : State), s.flag BRD_TUN_CMD_BUSY = true →
    Answers (exec .tunTimeout s) fun t => t.rd BRD_TUN_CMD_BUSY = 0 ∧ t.rd BRD_TUN_CMD_ERR = 1 ∧
      ∀ o, settleMask o = 0 → o ≠ BRD_TUN_CMD.off 0 0 → t.get o = s.get o) ∧
  (∀ (s : State), s.flag BRD_TUN_CMD_BUSY = false →
    Answers (exec .tunTimeout s) fun t => t.ring = s.ring ∧ ∀ o, settleMask o = 0 → t.get o = s.get o)

/-- The factory run (R400 to R402, R404 to R407, R418). The fault is that of an ill-formed term only (notes/assumptions/12.md).
The model's choice: what a step measures and how its trims stand in the record (notes/assumptions/104.md), and the run's moments (68.md). -/
def Obligations.FactoryRunTakesItsSteps : Prop :=
  (∀ (s : State), Reaches s (CAL_CTRL.off 0 0) → calRunning s = true →
    Answers (exec .calStart s) fun t => t.rd CAL_STAT_ERR = 7 ∧ t.rd CAL_STAT_STATE = s.rd CAL_STAT_STATE ∧ t.rd CAL_STAT_STEP = s.rd CAL_STAT_STEP ∧
      t.cal = s.cal) ∧
  (∀ (s : State), Reaches s (CAL_CTRL.off 0 0) → calRunning s = false → declaredOk s = true → s.rd CAL_CTRL_STEPS ≠ 0x3F → newestOf s 2 = none →
    Answers (exec .calStart s) fun t => t.rd CAL_STAT_ERR = 6 ∧ t.rd CAL_STAT_STATE = s.rd CAL_STAT_STATE ∧ t.cal = s.cal) ∧
  (∀ (k : Nat) (r : List Nat) (s : State), Reaches s (CAL_CTRL.off 0 0) → calRunning s = false → declaredOk s = true →
    s.rd CAL_CTRL_STEPS = 0x3F ∨ newestOf s 2 ≠ none → bitsList (s.rd CAL_CTRL_STEPS) 6 = k :: r →
    (stepRefs s (k + 1)).all (fun p => near2 p.2 ((startRun s).ref p.1)) = true →
    Answers (exec .calStart s) fun t => t.rd CAL_STAT_ERR = 0 ∧ t.rd CAL_STAT_STATE = 1 ∧ t.rd CAL_STAT_STEP = k + 1 ∧ t.cal.left = r.map (· + 1) ∧
      t.cal.run = startRun s ∧ t.cal.trial = [] ∧ t.cal.figs = [] ∧ t.cal.started = some (k + 1) ∧
      t.get (0xF88000 + 16 * s.rd LGB_INC_HEAD_NEXT + 4) = BitVec.ofNat 32 (2 ^ 16 + s.rd CAL_CTRL_STEPS) ∧
      t.rd LGB_INC_HEAD_NEXT = (s.rd LGB_INC_HEAD_NEXT + 1) % 2 ^ LGB_INC_HEAD_NEXT.w) ∧
  (∀ (r : List Nat) (s : State), Reaches s (CAL_CTRL.off 0 0) → calRunning s = false → declaredOk s = true → newestOf s 2 ≠ none →
    bitsList (s.rd CAL_CTRL_STEPS) 6 = 4 :: r → near2 s.board.refUv (s.rd CAL_REF_V_UV) = false →
    Answers (exec .calStart s) fun t => t.rd CAL_STAT_STATE = 4 ∧ t.rd CAL_STAT_ERR = 1 ∧ t.rd CAL_STAT_STEP = 5 ∧ t.cal.left = [] ∧
      Raised 284 s t ∧ t.cal.trims = s.cal.trims) ∧
  (∀ (s : State), Reaches s (CAL_CTRL.off 0 0) → calRunning s = true →
    Answers (exec .calAbort s) fun t => t.rd CAL_STAT_STATE = 4 ∧ t.rd CAL_STAT_ERR = 2 ∧ t.cal.left = [] ∧ t.cal.trial = [] ∧ Raised 284 s t ∧
      t.cal.trims = s.cal.trims) ∧
  (∀ (s : State), Reaches s (CAL_CTRL.off 0 0) → calRunning s = false →
    Answers (exec .calAbort s) fun t => t.cal = s.cal ∧ ∀ o, settleMask o = 0 → o ≠ GLB_ORDER_CNT.off 0 0 → o ≠ CAL_CTRL.off 0 0 → t.get o = s.get o) ∧
  (∀ (m : CalMeasure) (s : State), m.wf = true → s.rd CAL_STAT_STATE = 1 → calReady s = true → measureStep m = s.rd CAL_STAT_STEP → refOk s (refRead m) = false →
    Answers (exec (.calStepDone m) s) fun t => t.rd CAL_STAT_STATE = 4 ∧ t.rd CAL_STAT_ERR = 1 ∧ t.cal.left = [] ∧ Raised 284 s t ∧
      t.cal.trims = s.cal.trims) ∧
  (∀ (m : CalMeasure) (k : Nat) (r : List Nat) (s : State), m.wf = true → s.rd CAL_STAT_STATE = 1 → calReady s = true →
    measureStep m = s.rd CAL_STAT_STEP → refOk s (refRead m) = true → s.cal.left = k :: r → k < 8 →
    refOk s (stepRefs s k) = true →
    Answers (exec (.calStepDone m) s) fun t => t.rd CAL_STAT_STATE = 1 ∧ t.rd CAL_STAT_STEP = k ∧ t.cal.left = r ∧
      kvGet (fun _ => []) t.cal.trial (s.rd CAL_STAT_STEP) = stepTrims s m ∧
      (s.rd CAL_STAT_STEP = 1 → kvGet (fun _ => []) t.cal.trial 11 = (stepElems s 1).2) ∧
      (timingRef s = true → t.elapsed = match m with
        | .timing _ groups => max s.elapsed (s.cal.since + timingTime groups s.cal.run.load)
        | _ => s.elapsed) ∧ (∀ p ∈ refRead m, kvGet (fun _ => 0) t.cal.meas p.1 = p.2) ∧
      ∀ p ∈ (if s.rd CAL_STAT_STEP = 1 then laneFigures s else stepFigs s m),
        kvGet (fun _ => 0) t.cal.figs p.1 = p.2 ∧ kvGet (fun _ => 0) t.cal.figs (8 + p.1) = (figFails s p.1 p.2).toNat) ∧
  (∀ (m : CalMeasure) (k : Nat) (r : List Nat) (s : State), m.wf = true → s.rd CAL_STAT_STATE = 1 → calReady s = true →
    measureStep m = s.rd CAL_STAT_STEP → refOk s (refRead m) = true → s.cal.left = k :: r → k = 5 ∨ (k = 2 ∧ s.frameNow = none) →
    refOk s (stepRefs s k) = false →
    Answers (exec (.calStepDone m) s) fun t => t.rd CAL_STAT_STATE = 4 ∧ t.rd CAL_STAT_ERR = 1 ∧ t.rd CAL_STAT_STEP = k ∧ t.cal.left = [] ∧
      Raised 284 s t ∧ t.cal.trims = s.cal.trims) ∧
  (∀ (m : CalMeasure) (s : State), m.wf = true → s.rd CAL_STAT_STATE = 1 → calReady s = true → measureStep m = s.rd CAL_STAT_STEP → refOk s (refRead m) = true →
    s.cal.left = [] →
    Answers (exec (.calStepDone m) s) fun t => t.rd CAL_STAT_STATE = 2 ∧ t.rd CAL_STAT_STEP = 7 ∧ (s.cal.writing = 0 → t.cal.writing = 2) ∧
      ∀ p ∈ (if s.rd CAL_STAT_STEP = 1 then laneFigures s else stepFigs s m), p.2 < 2 ^ CAL_QF_VALUE.w → t.rd CAL_QF_VALUE p.1 = p.2) ∧
  (∀ (m : CalMeasure) (s : State), m.wf = true → s.rd CAL_STAT_STATE ≠ 1 ∨ calReady s = false ∨ measureStep m ≠ s.rd CAL_STAT_STEP →
    Answers (exec (.calStepDone m) s) fun t => t.cal = s.cal ∧ ∀ o, settleMask o = 0 → t.get o = s.get o) ∧
  (∀ (m : CalMeasure) (s : State), m.wf = false → exec (.calStepDone m) s = .fault .illFormed)

/-- Records, the logbook's saves and the calendar (R407, R408, R410, R411, R415, R417, R428). The model's choice: the record's bytes that R410 leaves
open and the order of saves (notes/assumptions/28.md, 69.md, 70.md). -/
def Obligations.RecordsAreWrittenAndKept : Prop :=
  (∀ (s : State), s.cal.writing = 1 → s.cal.saveHeld = false → s.cal.saveDue = false → s.rd CAL_STAT_STATE ≠ 2 →
    Answers (exec (.recordWriteDone true) s) fun t => t.cal.writing = 0 ∧ t.rd LGB_STAT_SAVE_BUSY = 0 ∧ t.rd LGB_STAT_LGB_SLOT = s.cal.target % 2 ∧
      t.rd LGB_GEN_GEN = s.cal.draft.gen % 2 ^ 32 ∧
      getSlot t.cal 1 s.cal.target = { s.cal.draft with commit := commitWord s.cal.draft.gen } ∧
      t.outs.contains (.mram (recBase 1 s.cal.target + (recBytes 1 s.cal.draft).length + 4)
        (leBytes 4 (commitWord s.cal.draft.gen))) = true ∧ t.cal.calA = s.cal.calA ∧ t.cal.calB = s.cal.calB) ∧
  (∀ (s : State), s.cal.writing = 2 → s.cal.saveHeld = false → s.cal.saveDue = false →
    Answers (exec (.recordWriteDone true) s) fun t => t.rd CAL_STAT_STATE = 3 ∧ Raised 283 s t ∧ t.rd RGH_FIX_STAT_CAL_VALID = 1 ∧
      t.rd LGB_CAL_GEN_GEN = s.cal.draft.gen % 2 ^ 32 ∧ t.cal.writing = 0 ∧ t.cal.started = none ∧
      (∀ e : Fin 34, 2 ≤ e.val → kvGet (fun _ => []) t.cal.trimWait e = kvGet (fun _ => []) (recTrims s.cal.draft) e ∧ t.trim e = s.trim e) ∧
      (s.frameNow = none → (s.cal.trial.any fun p => p.1 == 2) = true → ∀ i : Fin 65,
        t.table i = kvGet (fun _ => []) (timingTables (kvGet (fun _ => []) s.cal.draft.sections 2)) i) ∧
      getSlot t.cal 2 s.cal.target = { s.cal.draft with commit := commitWord s.cal.draft.gen }) ∧
  (∀ (s : State), s.cal.writing ≠ 0 → s.cal.retry = false →
    Answers (exec (.recordWriteDone false) s) fun t => t.cal = { s.cal with retry := true } ∧ ∀ o, settleMask o = 0 → t.get o = s.get o) ∧
  (∀ (s : State), s.cal.writing = 1 → s.cal.retry = true → s.cal.saveHeld = false → s.rd CAL_STAT_STATE ≠ 2 →
    Answers (exec (.recordWriteDone false) s) fun t => t.rd LGB_STAT_SAVE_FAIL = 1 ∧ Raised 285 s t ∧ t.cal.writing = 0 ∧
      getSlot t.cal 1 s.cal.target = { s.cal.draft with crc := Nat.xor s.cal.draft.crc 1 } ∧ t.rd LGB_GEN_GEN = s.rd LGB_GEN_GEN) ∧
  (∀ (s : State), s.cal.writing = 2 → s.cal.retry = true → s.cal.saveHeld = false → s.cal.saveDue = false →
    Answers (exec (.recordWriteDone false) s) fun t => t.rd CAL_STAT_STATE = 4 ∧ t.rd CAL_STAT_ERR = 8 ∧ Raised 284 s t ∧ t.cal.writing = 0 ∧
      t.cal.trims = s.cal.trims) ∧
  (∀ (ok : Bool) (s : State), s.cal.writing = 0 →
    Answers (exec (.recordWriteDone ok) s) fun t => t.cal = s.cal ∧ ∀ o, settleMask o = 0 → t.get o = s.get o) ∧
  (∀ (s : State), Reaches s (LGB_CTRL.off 0 0) →
    Answers (exec .logbookSave s) fun t =>
      (s.cal.writing = 0 → t.cal.writing = 1 ∧ t.rd LGB_STAT_SAVE_BUSY = 1 ∧
        t.cal.draft.gen = (match newestOf s 1 with | some (_, x) => (x.gen + 1) % 2 ^ 32 | none => 1) ∧
        t.cal.target = (match newestOf s 1 with | some (0, _) => 1 | _ => 0) ∧ getSlot t.cal 1 t.cal.target = t.cal.draft ∧ t.cal.draft.commit = 0 ∧
        t.cal.draft.magic = recMagic 1 ∧ t.cal.draft.crc = recCrc 1 t.cal.draft) ∧
      (s.cal.writing ≠ 0 → t.cal = { s.cal with saveHeld := true })) ∧
  (∀ (s : State), Answers (exec .logbookPeriodicSave s) fun t => (timingRef s = true → t.elapsed = nextRun s 3 600000000000) ∧
    (s.rd CAL_STAT_STATE = 2 → t.cal = { s.cal with saveDue := true }) ∧
    (s.rd CAL_STAT_STATE ≠ 2 → s.cal.writing = 0 → t.cal.writing = 1 ∧ t.rd LGB_STAT_SAVE_BUSY = 1) ∧
    (s.rd CAL_STAT_STATE ≠ 2 → s.cal.writing ≠ 0 → t.cal = { s.cal with saveHeld := true })) ∧
  (∀ (s : State), s.cal.saveDue = false → Answers (exec .pfwAssert s) fun t => Raised 286 s t ∧
    (s.cal.writing = 2 → s.cal.saveHeld = false → calRunning s = true → t.cal.writing = 1 ∧ t.cal.pfw = 1) ∧
    (s.cal.writing = 0 → t.cal.writing = 1 ∧ t.cal.pfw = 1 ∧ t.rd LGB_STAT_SAVE_BUSY = 1) ∧
    (s.cal.writing = 1 → t.cal.writing = 1 ∧ t.cal.pfw = 2 ∧ t.cal.saveHeld = true) ∧
    (calRunning s = true → t.rd CAL_STAT_STATE = 4 ∧ t.rd CAL_STAT_ERR = 3 ∧ Raised 284 s t) ∧
    (s.sec.quote ≠ none → s.sec.committed = false → t.sec.quote = none ∧ t.rd SEC_STAT_BUSY = 0 ∧ t.rd SEC_STAT_ERR = 5)) ∧
  (∀ (v : Word) (s : State), Reaches s (LGB_RTC_SEC.off 0 0) →
    Answers (exec (.rtcSet v) s) fun t => t.rd LGB_STAT_RTC_VALID = 1 ∧ t.rtc = v.toNat * 1000000000 ∧ t.cal = s.cal) ∧
  (∀ (s : State), Answers (exec .rtcStop s) fun t => t.rd LGB_STAT_RTC_VALID = 0 ∧ t.rtc = 0 ∧ t.cal = { s.cal with rtcLost := true } ∧
    ∀ o, settleMask o = 0 → o ≠ LGB_STAT.off 0 0 → t.get o = s.get o)

/-- The security commands (R421 to R429). The secrets of the identity key and the Koryr root are opaque (notes/assumptions/8.md);
the challenge's words are free values (7.md). The model's choice: the layouts of 29.md and the order of the commands of one write (71.md), and that
an index already low was announced (106.md). -/
def Obligations.SecurityCommandsAnswer : Prop :=
  (∀ (s : State), Reaches s (SEC_CTRL.off 0 0) → fwHeader ((windowBytes s 0x1008000 16).take 64) = none →
    Answers (exec .fwLoad s) fun t => t.rd SEC_STAT_ERR = 9 ∧ t.sec = s.sec ∧ t.rd SEC_STAT_FW = s.rd SEC_STAT_FW) ∧
  (∀ (ver svn off : Nat) (s : State), Reaches s (SEC_CTRL.off 0 0) → fwHeader ((windowBytes s 0x1008000 16).take 64) = some (ver, svn, off) →
    s.rd SEC_STAT_SVN ≤ svn →
    Answers (exec .fwLoad s) fun t =>
      (t.rd SEC_STAT_ERR, t.rd SEC_STAT_FW, t.sec.fwVersion, t.sec.fwSvn) =
        (if sigOk koryrKey (((windowBytes s 0x1008000 ((off + sigLen + 3) / 4)).take (off + sigLen)).take off)
            (((windowBytes s 0x1008000 ((off + sigLen + 3) / 4)).take (off + sigLen)).drop off) then (0, 3, ver, svn)
        else (9, s.rd SEC_STAT_FW, s.sec.fwVersion, s.sec.fwSvn))) ∧
  (∀ (s : State), Reaches s (SEC_CTRL.off 0 0) → s.sec.fwSvn < 2 ^ SEC_STAT_SVN.w →
    Answers (exec .svnCommit s) fun t => t.rd SEC_STAT_SVN = max (s.rd SEC_STAT_SVN) s.sec.fwSvn ∧ t.rd SEC_STAT_ERR = 0 ∧ t.sec = s.sec) ∧
  (∀ (s : State), Reaches s (SEC_CTRL.off 0 0) → s.flag SEC_STAT_ROOT_SET = false → s.get (SEC_ROOT_STAGE.off 0 0) = 0x12#32 →
    Answers (exec (.regRoot true) s) fun t => t.rd SEC_STAT_ROOT_SET = 1 ∧ t.rd SEC_STAT_ERR = 0 ∧
      t.sec = { s.sec with otpRoot := (List.range 17).map fun n => s.get (SEC_ROOT_STAGE.off n 0) }) ∧
  (∀ (ok : Bool) (s : State), Reaches s (SEC_CTRL.off 0 0) → s.flag SEC_STAT_ROOT_SET = true ∨ s.get (SEC_ROOT_STAGE.off 0 0) ≠ 0x12#32 ∨ ok = false →
    Answers (exec (.regRoot ok) s) fun t => t.rd SEC_STAT_ROOT_SET = s.rd SEC_STAT_ROOT_SET ∧ t.rd SEC_STAT_ERR = 8 ∧ t.sec = s.sec) ∧
  (∀ (s : State), Reaches s (SEC_CTRL.off 0 0) →
    Answers (exec .lockKoryr s) fun t => t.sec = s.sec ∧
      (s.flag SEC_STAT_ROOT_SET = true → t.rd SEC_STAT_KORYR_OFF = 1 ∧ t.rd SEC_STAT_ERR = 0) ∧
      (s.flag SEC_STAT_ROOT_SET = false → t.rd SEC_STAT_KORYR_OFF = s.rd SEC_STAT_KORYR_OFF)) ∧
  (∀ (s : State), Reaches s (SEC_CTRL.off 0 0) →
    Answers (exec .quote s) fun t =>
      (s.flag SEC_STAT_BUSY = true → t.rd SEC_STAT_ERR = 1 ∧ t.sec = s.sec ∧ t.rd SEC_STAT_BUSY = 1) ∧
      (s.flag SEC_STAT_BUSY = false → s.flag SEC_STAT_IDX_LOST = true → t.rd SEC_STAT_ERR = 3 ∧ t.sec = s.sec ∧ t.rd SEC_STAT_BUSY = 0) ∧
      (s.flag SEC_STAT_BUSY = false → s.flag SEC_STAT_IDX_LOST = false → 65536 ≤ lgbCtr s 92 → t.rd SEC_STAT_ERR = 2 ∧ t.sec = s.sec) ∧
      (s.flag SEC_STAT_BUSY = false → s.flag SEC_STAT_IDX_LOST = false → lgbCtr s 92 < 65536 →
        t.rd SEC_STAT_ERR = 0 ∧ t.rd SEC_STAT_BUSY = 1 ∧ lgbCtr t 92 = lgbCtr s 92 + 1 ∧ (t.sec.quote.map fun p => p.1) = some (lgbCtr s 92) ∧
        t.sec.committed = false ∧ (64511 ≤ lgbCtr s 92 → s.sec.lowRaised = false → Raised 8 s t) ∧
        (s.cal.writing = 0 → t.cal.writing = 1) ∧ (s.cal.writing ≠ 0 → t.cal.saveHeld = true))) ∧
  (∀ (i : Nat) (body : List Byte) (s : State), s.sec.quote = some (i, body) → s.sec.committed = true → body.length = 208 →
    Answers (exec .quoteReady s) fun t => t.rd SEC_STAT_QUOTE_READY = 1 ∧ t.rd SEC_STAT_BUSY = 0 ∧ t.sec.quote = none ∧ Raised 7 s t ∧
      ∀ w < 725, t.get (0x1001000 + 4 * w) =
        BitVec.ofNat 32 (leAt (body ++ identitySign i body).toArray (4 * w) 4)) ∧
  (∀ (s : State), s.sec.committed = false ∨ s.sec.quote = none →
    Answers (exec .quoteReady s) fun t => t.sec = s.sec ∧ ∀ o, settleMask o = 0 → t.get o = s.get o) ∧
  (∀ (s : State), Reaches s (SEC_CTRL.off 0 0) →
    Answers (exec .chal s) fun t => t.sec = { s.sec with chalLive := true } ∧ t.rd SEC_STAT_ERR = 0 ∧
      ∀ n : Fin 8, t.rd SEC_DBG_CHAL_CHAL n = Config.freeValue (s.fresh + n) % 2 ^ 32) ∧
  (∀ (s : State), Reaches s (SEC_CTRL.off 0 0) → s.rd SEC_STAT_FAILS = 3 →
    Answers (exec .unlock s) fun t => t.rd SEC_STAT_ERR = 7 ∧ t.rd SEC_STAT_DEBUG = s.rd SEC_STAT_DEBUG ∧ t.sec = s.sec) ∧
  (∀ (s : State), Reaches s (SEC_CTRL.off 0 0) → s.rd SEC_STAT_FAILS ≠ 3 → s.sec.chalLive = false ∨ (windowBytes s 0x1003000 720).take 44 ≠ tokenBody s →
    Answers (exec .unlock s) fun t => t.rd SEC_STAT_ERR = 6 ∧ t.rd SEC_STAT_DEBUG = s.rd SEC_STAT_DEBUG ∧ Counted SEC_STAT_FAILS 0 1 s t ∧
      t.sec.chalLive = false ∧ Raised 6 s t) ∧
  (∀ (s : State), Reaches s (SEC_CTRL.off 0 0) → s.rd SEC_STAT_FAILS ≠ 3 → s.sec.chalLive = true →
    (windowBytes s 0x1003000 720).take 44 = tokenBody s → s.flag SEC_STAT_ROOT_SET = false →
    Answers (exec .unlock s) fun t => t.sec.chalLive = false ∧ Raised 6 s t ∧
      (t.rd SEC_STAT_ERR, t.rd SEC_STAT_DEBUG, t.rd SEC_STAT_FAILS) =
        (if sigOk koryrKey (tokenBody s) ((windowBytes s 0x1003000 720).drop 44) then (0, 1, s.rd SEC_STAT_FAILS)
        else (6, s.rd SEC_STAT_DEBUG, min (s.rd SEC_STAT_FAILS + 1) 3)))

/-- R337: MARK on a packet boundary takes RD as the new mark and clears MARK_LOST; inside a packet it is refused with NOT_BOUNDARY. -/
def Obligations.MarkIsTakenOnAPacketBoundary : Prop :=
  (∀ (q : Fin 64) (s : State), Reaches s (QUE_CMD.off q 0) → qDisabled s q = false → s.flag QUE_CFG_DMA_EN q = false → qOnBoundary (s.q q) = true →
    Answers (exec (.mark q) s) fun t => (t.q q).markV = true ∧ (t.q q).mark = (s.q q).rd ∧ (t.q q).rd = (s.q q).rd ∧ t.rd QUE_STAT_CMD_ERR q = 0 ∧
      t.rd QUE_STAT_MARK_VALID q = 1 ∧ t.rd QUE_STAT_MARK_LOST q = 0) ∧
  (∀ (q : Fin 64) (s : State), Reaches s (QUE_CMD.off q 0) → qDisabled s q = false → s.flag QUE_CFG_DMA_EN q = false → qOnBoundary (s.q q) = false →
    Answers (exec (.mark q) s) fun t => t.rd QUE_STAT_CMD_ERR q = 1 ∧ t.qs = s.qs)

/-- R344: a queue bound to a DMA channel is read by that channel alone; its pops are empty, its commands but FLUSH are refused. -/
def Obligations.ABoundQueueHasItsChannelAsOnlyConsumer : Prop :=
  (∀ (q : Fin 64) (s : State), Reaches s (0x1A00000 + 0x1000 * q) → s.flag QUE_CFG_DMA_EN q = true →
    Answers (exec (.queuePop q) s) fun t =>
      t.outs.contains (.readData (0x1A00000 + 0x1000 * q) [s.get (QUE_IDLE_LO.off q 0), s.get (QUE_IDLE_HI.off q 0), 0, 0]) = true ∧
      (t.q q).rd = (s.q q).rd ∧ (t.q q).pkts = (s.q q).pkts ∧ (t.q q).rel = (s.q q).rel ∧ ∀ o, settleMask o = 0 → t.get o = s.get o) ∧
  (∀ (q : Fin 64) (n : BitVec 16) (s : State), Reaches s (QUE_CMD.off q 0) → qDisabled s q = false → s.flag QUE_CFG_DMA_EN q = true →
    Answers (exec (.mark q) s) (fun t => t.rd QUE_STAT_CMD_ERR q = 4 ∧ t.qs = s.qs) ∧
    Answers (exec (.rewind q) s) (fun t => t.rd QUE_STAT_CMD_ERR q = 4 ∧ t.qs = s.qs) ∧
    Answers (exec (.release q n) s) (fun t => t.rd QUE_STAT_CMD_ERR q = 4 ∧ t.qs = s.qs)) ∧
  (∀ (ch : Fin 8) (q : Fin 64) (s : State), s.flag QUE_CFG_DMA_EN q = true → s.rd QUE_CFG_DCH q ≠ ch →
    Answers (exec (.dmaDataWrite ch q) s) fun t => t.qs = s.qs ∧ t.dma = s.dma) ∧
  (∀ (q : Fin 64) (s : State), Reaches s (QUE_CMD.off q 0) → qDisabled s q = false → s.quiesced 10 = false → s.flag QUE_CFG_DMA_EN q = true →
    Answers (exec (.flush q) s) fun t => t.rd QUE_STAT_CMD_ERR q = 0 ∧ (t.q q).pkts = [] ∧ t.rd QUE_STAT_EMPTY q = 1)

/-- R400: the declared references lie within 2 % of their nominal values and on two pins, or START is refused with DECLARED. -/
def Obligations.DeclaredReferencesLieNearTheirNominalValues : Prop :=
  (∀ (s : State), Reaches s (CAL_CTRL.off 0 0) → calRunning s = false →
    ¬ (4900000 ≤ s.rd CAL_REF_V_UV ∧ s.rd CAL_REF_V_UV ≤ 5100000 ∧ 9800000 ≤ s.rd CAL_REF_R_MOHM ∧ s.rd CAL_REF_R_MOHM ≤ 10200000 ∧
      98000 ≤ s.rd CAL_REF_T_PS ∧ s.rd CAL_REF_T_PS ≤ 102000 ∧ s.rd CAL_REF_PIN_VPIN ≠ s.rd CAL_REF_PIN_RPIN) →
    Answers (exec .calStart s) fun t => t.rd CAL_STAT_ERR = 10 ∧ t.rd CAL_STAT_STATE = s.rd CAL_STAT_STATE ∧ t.rd CAL_STAT_STEP = s.rd CAL_STAT_STEP ∧
      t.rd CAL_STAT_QFAIL = s.rd CAL_STAT_QFAIL ∧ t.rd CAL_CTRL_STEPS = s.rd CAL_CTRL_STEPS ∧ t.cal = s.cal ∧ t.dram = s.dram ∧
      ∀ o, settleMask o = 0 → o ≠ CAL_STAT.off 0 0 → o ≠ CAL_CTRL.off 0 0 → o ≠ GLB_ORDER_CNT.off 0 0 → t.get o = s.get o) ∧
  (∀ (s : State), Reaches s (CAL_CTRL.off 0 0) → calRunning s = false → 4900000 ≤ s.rd CAL_REF_V_UV → s.rd CAL_REF_V_UV ≤ 5100000 →
    9800000 ≤ s.rd CAL_REF_R_MOHM → s.rd CAL_REF_R_MOHM ≤ 10200000 → 98000 ≤ s.rd CAL_REF_T_PS → s.rd CAL_REF_T_PS ≤ 102000 →
    s.rd CAL_REF_PIN_VPIN ≠ s.rd CAL_REF_PIN_RPIN →
    Answers (exec .calStart s) fun t => t.rd CAL_STAT_ERR ≠ 10)

/-- R47: a commit that names, replaces or unloads `P13` is refused with CAL_RUNNING before any panel quiesces. -/
def Obligations.CommitOfP13WaitsForTheFactoryRun : Prop :=
  (∀ (s : State), loadState s = 3 → calRunning s = true → CommitInvolves s 13 →
    Answers (exec .commit s) fun t => t.rd HRN_STAT_ERR_CODE = 0x21 ∧ t.hrn.asked = s.hrn.asked ∧ t.cal = s.cal ∧
      t.get (GLB_PANEL_STAT.off 0 0) = s.get (GLB_PANEL_STAT.off 0 0)) ∧
  (∀ (s : State), loadState s = 2 → s.hrn.boot = true ∨ s.flag HRN_CTRL_AUTO_COMMIT = true → calRunning s = true → CommitInvolves s 13 →
    Answers (exec .verifyDone s) fun t => (verifyImage s s.hrn.image s.hrn.image.length = none →
      t.rd HRN_STAT_ERR_CODE = 0x21 ∧ t.hrn.asked = s.hrn.asked ∧ t.cal = s.cal ∧ t.get (GLB_PANEL_STAT.off 0 0) = s.get (GLB_PANEL_STAT.off 0 0)))

/-- R284: eight measurements in a row above HEAD_MAX give HIGH_HEAD and ILU_HIGH_HEAD (source 163), and the sink keeps running. -/
def Obligations.SinkTakesHighHeadAfterEightMeasurements : Prop :=
  (∀ (k : Fin 24) (mv : Nat) (reg : Bool) (s : State), 40 ≤ (s.sinkSt k).ticks → sinkMay s k = true → measOld s k 10000 = true →
    20 * s.rd ILU_DIAG_HEAD_MAX < mv → (s.sinkSt k).high = 7 → s.flag ILU_SINK_STAT_HIGH_HEAD k = false →
    Answers (exec (.sinkMeasure k mv reg) s) fun t => t.rd ILU_SINK_STAT_HIGH_HEAD k = 1 ∧ Raised 163 s t ∧
      t.rd ILU_SINK_CTRL_EN k = s.rd ILU_SINK_CTRL_EN k) ∧
  (∀ (k : Fin 24) (mv : Nat) (reg : Bool) (s : State), 40 ≤ (s.sinkSt k).ticks → sinkMay s k = true → measOld s k 10000 = true →
    20 * s.rd ILU_DIAG_HEAD_MAX < mv → (s.sinkSt k).high < 7 →
    Answers (exec (.sinkMeasure k mv reg) s) fun t => t.rd ILU_SINK_STAT_HIGH_HEAD k = s.rd ILU_SINK_STAT_HIGH_HEAD k ∧
      (t.sinkSt k).high = (s.sinkSt k).high + 1) ∧
  (∀ (k : Fin 24) (mv : Nat) (reg : Bool) (s : State), 40 ≤ (s.sinkSt k).ticks → sinkMay s k = true → measOld s k 10000 = true →
    mv ≤ 20 * s.rd ILU_DIAG_HEAD_MAX →
    Answers (exec (.sinkMeasure k mv reg) s) fun t => t.rd ILU_SINK_STAT_HIGH_HEAD k = s.rd ILU_SINK_STAT_HIGH_HEAD k ∧ (t.sinkSt k).high = 0)

/-- R403: what a step left out would give is taken unchanged from the record in force (R412: the newest valid one). -/
def Obligations.StepsLeftOutKeepTheirRecord : Prop :=
  ∀ (m : CalMeasure) (k i : Nat) (x : Nat × Rec) (s : State), m.wf = true → s.rd CAL_STAT_STATE = 1 → calReady s = true →
    measureStep m = s.rd CAL_STAT_STEP → refOk s (refRead m) = true →
    s.cal.left = [] → s.cal.writing = 0 → newestOf s 2 = some x → 1 ≤ k → k < 7 → k ≠ s.rd CAL_STAT_STEP → (s.cal.trial.any fun p => p.1 == k) = false →
    i < 8 → ((if s.rd CAL_STAT_STEP = 1 then laneFigures s else stepFigs s m).any fun p => p.1 == i) = false → (s.cal.figs.any fun p => p.1 == i) = false →
    Answers (exec (.calStepDone m) s) fun t => t.cal.writing = 2 ∧
      kvGet (fun _ => []) t.cal.draft.sections k = kvGet (fun _ => []) x.2.sections k ∧
      ((s.cal.trial.any fun p => p.1 == 10 + k) = false → kvGet (fun _ => []) t.cal.draft.sections (10 + k) = kvGet (fun _ => []) x.2.sections (10 + k)) ∧
      kvGet (fun _ => 0) t.cal.draft.nums i = kvGet (fun _ => 0) x.2.nums i

/-- R385: ROLE 1 is the lead, ROLE 2 a follower, and ROLE 0 follows `GPIO12` as it was at the release of `PORST#`. -/
def Obligations.LeadIsTakenFromRoleOrStrap : Prop :=
  (∀ (up strap : Bool) (s : State), Answers (exec (.porst up strap) s) fun t => t.ring.strapLead = strap) ∧
  (∀ (s : State), Reaches s (BRD_CTRL.off 0 0) → s.flag BRD_CTRL_EN = false → s.loaded 12 = true →
    Answers (exec .ringEnable s) fun t =>
      (s.rd BRD_CFG_ROLE = 1 → isLead t = true) ∧
      (s.rd BRD_CFG_ROLE = 0 → isLead t = s.ring.strapLead) ∧
      (s.rd BRD_CFG_ROLE = 2 → isLead t = false))

/-- Waypoints (R68, R71, R72): one waypoint in use, a tick of the elapsed count on its Log. -/
def Obligations.WaypointsFireOnTheirPositionOrLine : Prop :=
  (∀ (n : Fin 4) (i : Fin 128) (s : State), s.active 0 = true → (∀ k : Fin 128, k ≠ i → s.rd LOG_WP_CTRL_MODE k = 0) → ringDelayed s n = false →
    s.rd LOG_CFG_SRC n = 8 → (s.log n).c = logValue s n → (s.log n).genOn = false → s.rd LOG_WP_CTRL_LOG i = n → s.flag LOG_WP_CTRL_ARMED i = true →
    s.rd LOG_WP_CTRL_ACTION i = 5 → wpPos s i = (logValue s n + 1) % 2 ^ 48 →
    Answers (exec (.chronoLogTick (BitVec.ofNat 4 (2 ^ n.val))) s) fun t =>
      (s.rd LOG_WP_CTRL_MODE i = 1 ∨ s.rd LOG_WP_CTRL_MODE i = 2 ∨ s.rd LOG_WP_CTRL_MODE i = 4 → Raised 31 s t ∧ t.rd LOG_WP_EVDATA_WP = i ∧
        t.rd LOG_WP_EVDATA_DATA = s.rd LOG_WP_ARG_ARG i) ∧
      t.rd LOG_WP_CTRL_ARMED i = (if s.rd LOG_WP_CTRL_MODE i = 1 then 0 else 1) ∧
      wpPos t i = (if s.rd LOG_WP_CTRL_MODE i = 2 then (wpPos s i + wpPeriod s i) % 2 ^ 48 else wpPos s i)) ∧
  (∀ (n : Fin 4) (i : Fin 128) (s : State), s.active 0 = true → (∀ k : Fin 128, k ≠ i → s.rd LOG_WP_CTRL_MODE k = 0) → ringDelayed s n = false →
    s.rd LOG_CFG_SRC n = 8 → (s.log n).c = logValue s n → (s.log n).genOn = false → s.rd LOG_WP_CTRL_LOG i = n → s.flag LOG_WP_CTRL_ARMED i = true →
    s.rd LOG_WP_CTRL_ACTION i = 1 → wpPos s i = (logValue s n + 1) % 2 ^ 48 → s.rd LOG_WP_CTRL_MODE i = 1 → s.loaded 5 = false →
    Answers (exec (.chronoLogTick (BitVec.ofNat 4 (2 ^ n.val))) s) fun t => Counted LOG_WP_CNT_REFUSED 0 1 s t ∧ Raised 28 s t ∧
      t.rd LOG_WP_CTRL_ARMED i = 0) ∧
  (∀ (n : Fin 4) (i : Fin 128) (s : State), s.active 0 = true → (∀ k : Fin 128, k ≠ i → s.rd LOG_WP_CTRL_MODE k = 0) → ringDelayed s n = false →
    s.rd LOG_CFG_SRC n = 8 → (s.log n).c = logValue s n → (s.log n).genOn = true → (s.log n).pos = (logValue s n + 1) % 2 ^ 48 →
    (s.log n).lastIssue = none → s.rd LOG_WP_CTRL_LOG i = n → s.rd LOG_WP_CTRL_ACTION i = 5 → s.rd LOG_WP_CTRL_MODE i = 3 →
    (s.log n).k < 2 ^ 32 → ((s.log n).k + 2 ^ 32 - wpPos s i % 2 ^ 32) % 2 ^ 32 < 2 ^ 31 →
    ((s.log n).k + 2 ^ 32 - wpPos s i % 2 ^ 32) % 2 ^ 32 % wpPeriod s i = 0 →
    Answers (exec (.chronoLogTick (BitVec.ofNat 4 (2 ^ n.val))) s) fun t => Raised 31 s t ∧ t.rd LOG_WP_EVDATA_WP = i ∧
      t.rd LOG_WP_CTRL_ARMED i = s.rd LOG_WP_CTRL_ARMED i) ∧
  (∀ (n : Fin 4) (i : Fin 128) (s : State), s.active 0 = true → (∀ k : Fin 128, k ≠ i → s.rd LOG_WP_CTRL_MODE k = 0) → ringDelayed s n = false →
    s.rd LOG_CFG_SRC n = 8 → (s.log n).c = logValue s n → (s.log n).genOn = false → wpPos s i ≠ (logValue s n + 1) % 2 ^ 48 →
    Answers (exec (.chronoLogTick (BitVec.ofNat 4 (2 ^ n.val))) s) fun t => t.rd LOG_WP_CTRL_ARMED i = s.rd LOG_WP_CTRL_ARMED i ∧ wpPos t i = wpPos s i ∧
      t.rd LOG_WP_EVDATA_WP = s.rd LOG_WP_EVDATA_WP ∧ t.rd EVT_CNT 31 = s.rd EVT_CNT 31)
end

