-- ==== Sys2Proof/Laws/Store.lean ====
section
/-! SUPPORT. Laws of the sparse lists and of the bit fields of Sys2Proof/Machine/Store.lean. -/

namespace Sys2Proof.Machine

/-! ### Reads after writes -/

theorem kvGet_kvDel {α : Type} (d : Nat → α) (l : List (Nat × α)) (k j : Nat) :
    kvGet d (kvDel l k) j = if j = k then d j else kvGet d l j := by
  induction l with
  | nil => simp [kvDel, kvGet]
  | cons p t ih =>
    obtain ⟨a, v⟩ := p
    by_cases h : a = k
    · subst h
      simp only [kvDel, if_true, ih, kvGet]
      by_cases hj : j = a
      · simp [hj]
      · simp [hj, Ne.symm hj]
    · simp only [kvDel, h, if_false, kvGet, ih]
      by_cases hj : a = j
      · subst hj; simp [h]
      · simp [hj]

theorem kvGet_kvPut {α : Type} (d : Nat → α) (l : List (Nat × α)) (k : Nat) (v : α) (j : Nat) :
    kvGet d (kvPut l k v) j = if j = k then v else kvGet d l j := by
  induction l with
  | nil =>
    simp only [kvPut, kvGet]
    by_cases h : j = k
    · simp [h]
    · simp [h, Ne.symm h]
  | cons p t ih =>
    obtain ⟨a, w⟩ := p
    simp only [kvPut]
    by_cases hlt : k < a
    · simp only [hlt, if_true, kvGet]
      by_cases h : j = k
      · simp [h]
      · simp [h, Ne.symm h]
    · by_cases hak : a = k
      · subst hak
        simp only [hlt, if_false, if_true, kvGet]
        by_cases h : j = a
        · simp [h]
        · simp [h, Ne.symm h]
      · simp only [hlt, hak, if_false, kvGet, ih]
        by_cases h : a = j
        · subst h; simp [hak]
        · simp [h]

theorem kvGet_kvSet {α : Type} [DecidableEq α] (d : Nat → α) (l : List (Nat × α)) (k : Nat) (v : α) (j : Nat) :
    kvGet d (kvSet d l k v) j = if j = k then v else kvGet d l j := by
  unfold kvSet
  by_cases h : v = d k
  · subst h
    simp only [if_true, kvGet_kvDel]
    by_cases hj : j = k
    · simp [hj]
    · simp [hj]
  · simp only [h, if_false, kvGet_kvPut]

@[simp] theorem kvGet_kvSet_same {α : Type} [DecidableEq α] (d : Nat → α) (l : List (Nat × α)) (k : Nat) (v : α) :
    kvGet d (kvSet d l k v) k = v := by simp [kvGet_kvSet]

theorem kvGet_kvSet_ne {α : Type} [DecidableEq α] (d : Nat → α) (l : List (Nat × α)) {k j : Nat} (v : α) (h : j ≠ k) :
    kvGet d (kvSet d l k v) j = kvGet d l j := by simp [kvGet_kvSet, h]

/-- A filter by key leaves what the kept keys read as. -/
theorem kvGet_filter {α : Type} (d : Nat → α) (l : List (Nat × α)) (p : Nat → Bool) (k : Nat) (h : p k = true) :
    kvGet d (l.filter fun a => p a.1) k = kvGet d l k := by
  induction l with
  | nil => rfl
  | cons q t ih =>
    obtain ⟨a, v⟩ := q
    by_cases hp : p a = true
    · simp [List.filter, hp, kvGet, ih]
    · by_cases hak : a = k
      · subst hak; exact absurd h hp
      · simp [List.filter, hp, kvGet, ih, hak]

/-! ### The canonical form is kept -/

theorem kvCanonFrom_mono {α : Type} [DecidableEq α] (d : Nat → α) {lo lo' : Nat} (l : List (Nat × α))
    (h : kvCanonFrom d lo l = true) (hl : lo' ≤ lo) : kvCanonFrom d lo' l = true := by
  cases l with
  | nil => rfl
  | cons p t =>
    obtain ⟨a, v⟩ := p
    simp only [kvCanonFrom, Bool.and_eq_true, decide_eq_true_eq] at h ⊢
    exact ⟨⟨by omega, h.1.2⟩, h.2⟩

theorem kvCanonFrom_kvDel {α : Type} [DecidableEq α] (d : Nat → α) (k : Nat) (l : List (Nat × α)) :
    ∀ lo, kvCanonFrom d lo l = true → kvCanonFrom d lo (kvDel l k) = true := by
  induction l with
  | nil => intro lo _; rfl
  | cons p t ih =>
    obtain ⟨a, v⟩ := p
    intro lo h
    simp only [kvCanonFrom, Bool.and_eq_true, decide_eq_true_eq] at h
    by_cases hak : a = k
    · simp only [kvDel, hak, if_true]
      exact ih lo (kvCanonFrom_mono d t h.2 (by omega))
    · simp only [kvDel, hak, if_false, kvCanonFrom, Bool.and_eq_true, decide_eq_true_eq]
      exact ⟨h.1, ih _ h.2⟩

theorem kvCanonFrom_kvPut {α : Type} [DecidableEq α] (d : Nat → α) (k : Nat) (v : α) (hv : v ≠ d k) (l : List (Nat × α)) :
    ∀ lo, lo ≤ k → kvCanonFrom d lo l = true → kvCanonFrom d lo (kvPut l k v) = true := by
  induction l with
  | nil => intro lo hk _; simp [kvPut, kvCanonFrom, hk, hv]
  | cons p t ih =>
    obtain ⟨a, w⟩ := p
    intro lo hk h
    simp only [kvCanonFrom, Bool.and_eq_true, decide_eq_true_eq] at h
    by_cases hlt : k < a
    · simp only [kvPut, hlt, if_true, kvCanonFrom, Bool.and_eq_true, decide_eq_true_eq]
      exact ⟨⟨hk, hv⟩, ⟨by omega, h.1.2⟩, h.2⟩
    · by_cases hak : a = k
      · subst hak
        simp only [kvPut, hlt, if_false, if_true, kvCanonFrom, Bool.and_eq_true, decide_eq_true_eq]
        exact ⟨⟨hk, hv⟩, h.2⟩
      · simp only [kvPut, hlt, hak, if_false, kvCanonFrom, Bool.and_eq_true, decide_eq_true_eq]
        exact ⟨h.1, ih _ (by omega) h.2⟩

/-- A write keeps the canonical form. -/
theorem kvCanon_kvSet {α : Type} [DecidableEq α] (d : Nat → α) (l : List (Nat × α)) (k : Nat) (v : α)
    (h : kvCanon d l = true) : kvCanon d (kvSet d l k v) = true := by
  unfold kvSet
  by_cases hv : v = d k
  · simp only [hv, if_true]; exact kvCanonFrom_kvDel d k l 0 h
  · simp only [hv, if_false]; exact kvCanonFrom_kvPut d k v hv l 0 (Nat.zero_le _) h

/-- A filter keeps the canonical form. -/
theorem kvCanonFrom_filter {α : Type} [DecidableEq α] (d : Nat → α) (p : Nat × α → Bool) (l : List (Nat × α)) :
    ∀ lo, kvCanonFrom d lo l = true → kvCanonFrom d lo (l.filter p) = true := by
  induction l with
  | nil => intro lo _; rfl
  | cons q t ih =>
    obtain ⟨a, v⟩ := q
    intro lo h
    simp only [kvCanonFrom, Bool.and_eq_true, decide_eq_true_eq] at h
    by_cases hp : p (a, v) = true
    · simp only [List.filter, hp, kvCanonFrom, Bool.and_eq_true, decide_eq_true_eq]
      exact ⟨h.1, ih _ h.2⟩
    · simp only [List.filter, hp]
      exact ih lo (kvCanonFrom_mono d t h.2 (by omega))

/-- Two lists in canonical form that read alike are the same list. -/
theorem kvCanonFrom_ext {α : Type} [DecidableEq α] (d : Nat → α) (l : List (Nat × α)) :
    ∀ lo (m : List (Nat × α)), kvCanonFrom d lo l = true → kvCanonFrom d lo m = true →
      (∀ k, kvGet d l k = kvGet d m k) → l = m := by
  have low : ∀ (l : List (Nat × α)) lo k, kvCanonFrom d lo l = true → k < lo → kvGet d l k = d k := by
    intro l
    induction l with
    | nil => intro lo k _ _; rfl
    | cons p t ih =>
      obtain ⟨a, v⟩ := p
      intro lo k h hk
      simp only [kvCanonFrom, Bool.and_eq_true, decide_eq_true_eq] at h
      have hak : a ≠ k := by omega
      simp only [kvGet, hak, if_false]
      exact ih _ _ h.2 (by omega)
  induction l with
  | nil =>
    intro lo m _ hm he
    cases m with
    | nil => rfl
    | cons p t =>
      obtain ⟨a, v⟩ := p
      simp only [kvCanonFrom, Bool.and_eq_true, decide_eq_true_eq] at hm
      have := he a
      simp only [kvGet, if_true] at this
      exact absurd this.symm hm.1.2
  | cons p t ih =>
    obtain ⟨a, v⟩ := p
    intro lo m hl hm he
    have hl' := hl
    simp only [kvCanonFrom, Bool.and_eq_true, decide_eq_true_eq] at hl
    cases m with
    | nil =>
      have := he a
      simp only [kvGet, if_true] at this
      exact absurd this hl.1.2
    | cons q u =>
      obtain ⟨b, w⟩ := q
      have hm' := hm
      simp only [kvCanonFrom, Bool.and_eq_true, decide_eq_true_eq] at hm
      rcases Nat.lt_trichotomy a b with h | h | h
      · have hx := he a
        have hb : kvCanonFrom d b ((b, w) :: u) = true := by
          simp only [kvCanonFrom, Bool.and_eq_true, decide_eq_true_eq]; exact ⟨⟨Nat.le_refl _, hm.1.2⟩, hm.2⟩
        rw [low _ b a hb h] at hx
        simp only [kvGet, if_true] at hx
        exact absurd hx hl.1.2
      · subst h
        have hx := he a
        simp only [kvGet, if_true] at hx
        subst hx
        congr 1
        refine ih (a + 1) u hl.2 hm.2 ?_
        intro k
        by_cases hk : k < a + 1
        · rw [low _ _ _ hl.2 hk, low _ _ _ hm.2 hk]
        · have := he k
          have hak : a ≠ k := by omega
          simpa only [kvGet, hak, if_false] using this
      · have hx := he b
        have ha : kvCanonFrom d a ((a, v) :: t) = true := by
          simp only [kvCanonFrom, Bool.and_eq_true, decide_eq_true_eq]; exact ⟨⟨Nat.le_refl _, hl.1.2⟩, hl.2⟩
        rw [low _ a b ha h] at hx
        simp only [kvGet, if_true] at hx
        exact absurd hx.symm hm.1.2

/-! ### Bit fields -/

theorem bitsOf_testBit (n lo w i : Nat) : (bitsOf n lo w).testBit i = (decide (i < w) && n.testBit (lo + i)) := by
  simp [bitsOf, Nat.testBit_mod_two_pow, Nat.testBit_div_two_pow, Nat.add_comm]

theorem bitsOf_lt (n lo w : Nat) : bitsOf n lo w < 2 ^ w := Nat.mod_lt _ (Nat.two_pow_pos w)

theorem setBits_testBit (n lo w v i : Nat) :
    (setBits n lo w v).testBit i = if i < lo then n.testBit i else if i < lo + w then v.testBit (i - lo) else n.testBit i := by
  have e : setBits n lo w v = 2 ^ lo * (2 ^ w * (n / 2 ^ (lo + w)) + v % 2 ^ w) + n % 2 ^ lo := by
    simp only [setBits, Nat.mul_add, Nat.pow_add, ← Nat.mul_assoc]
    have h1 : v % 2 ^ w * 2 ^ lo = 2 ^ lo * (v % 2 ^ w) := Nat.mul_comm _ _
    have h2 : n / (2 ^ lo * 2 ^ w) * 2 ^ lo * 2 ^ w = 2 ^ lo * 2 ^ w * (n / (2 ^ lo * 2 ^ w)) := by
      rw [Nat.mul_assoc, Nat.mul_comm]
    omega
  rw [e, Nat.testBit_two_pow_mul_add _ (Nat.mod_lt _ (Nat.two_pow_pos lo))]
  by_cases h : i < lo
  · simp [h, Nat.testBit_mod_two_pow]
  · simp only [h, if_false]
    rw [Nat.testBit_two_pow_mul_add _ (Nat.mod_lt _ (Nat.two_pow_pos w))]
    by_cases h2 : i - lo < w
    · have h3 : i < lo + w := by omega
      simp [h2, h3, Nat.testBit_mod_two_pow]
    · have h3 : ¬ i < lo + w := by omega
      simp only [h2, h3, if_false, Nat.testBit_div_two_pow]
      congr 1; omega

/-- A field reads the value set, cut to its width. -/
theorem bitsOf_setBits_same (n lo w v : Nat) : bitsOf (setBits n lo w v) lo w = v % 2 ^ w := by
  apply Nat.eq_of_testBit_eq
  intro i
  rw [bitsOf_testBit, setBits_testBit, Nat.testBit_mod_two_pow]
  by_cases h : i < w
  · have h1 : ¬ lo + i < lo := by omega
    have h2 : lo + i < lo + w := by omega
    simp [h, h1]
  · simp [h]

/-- A field apart from the one set keeps its value. -/
theorem bitsOf_setBits_apart (n lo w v lo' w' : Nat) (h : lo' + w' ≤ lo ∨ lo + w ≤ lo') :
    bitsOf (setBits n lo w v) lo' w' = bitsOf n lo' w' := by
  apply Nat.eq_of_testBit_eq
  intro i
  rw [bitsOf_testBit, bitsOf_testBit, setBits_testBit]
  by_cases hi : i < w'
  · rcases h with h | h
    · have h1 : lo' + i < lo := by omega
      simp [h1]
    · have h1 : ¬ lo' + i < lo := by omega
      have h2 : ¬ lo' + i < lo + w := by omega
      simp [h1, h2]
  · simp [hi]

/-- The low 32 bits of a number hold every field that lies in them. -/
theorem bitsOf_mod_word (n lo w : Nat) (h : lo + w ≤ 32) : bitsOf (n % 2 ^ 32) lo w = bitsOf n lo w := by
  apply Nat.eq_of_testBit_eq
  intro i
  rw [bitsOf_testBit, bitsOf_testBit, Nat.testBit_mod_two_pow]
  by_cases hi : i < w
  · have : lo + i < 32 := by omega
    simp [this]
  · simp [hi]

theorem bit_testBit (n i : Nat) : bit n i = n.testBit i := by
  rw [bit, Nat.testBit_eq_decide_div_mod_eq]
  by_cases h : n / 2 ^ i % 2 = 1 <;> simp [h]

end Sys2Proof.Machine
end

