-- ==== Sys2Proof/Laws/State.lean ====
section
/-! SUPPORT. What the named updates of the state leave alone, one lemma per field per update, true by rfl, and what they change. -/

namespace Sys2Proof.Machine

/-! ### `set` -/

@[simp] theorem State.set_pending (s : State) (o : Nat) (v : Word) : (s.set o v).pending = s.pending := rfl
@[simp] theorem State.set_dram (s : State) (o : Nat) (v : Word) : (s.set o v).dram = s.dram := rfl
@[simp] theorem State.set_captures (s : State) (o : Nat) (v : Word) : (s.set o v).captures = s.captures := rfl
@[simp] theorem State.set_outs (s : State) (o : Nat) (v : Word) : (s.set o v).outs = s.outs := rfl
@[simp] theorem State.set_fresh (s : State) (o : Nat) (v : Word) : (s.set o v).fresh = s.fresh := rfl
@[simp] theorem State.set_vecReq (s : State) (o : Nat) (v : Word) : (s.set o v).vecReq = s.vecReq := rfl
@[simp] theorem State.set_peDue (s : State) (o : Nat) (v : Word) : (s.set o v).peDue = s.peDue := rfl
@[simp] theorem State.set_elapsed (s : State) (o : Nat) (v : Word) : (s.set o v).elapsed = s.elapsed := rfl
@[simp] theorem State.set_chrono (s : State) (o : Nat) (v : Word) : (s.set o v).chrono = s.chrono := rfl
@[simp] theorem State.set_slew (s : State) (o : Nat) (v : Word) : (s.set o v).slew = s.slew := rfl
@[simp] theorem State.set_hold (s : State) (o : Nat) (v : Word) : (s.set o v).hold = s.hold := rfl
@[simp] theorem State.set_rtc (s : State) (o : Nat) (v : Word) : (s.set o v).rtc = s.rtc := rfl
@[simp] theorem State.set_funcMask (s : State) (o : Nat) (v : Word) : (s.set o v).funcMask = s.funcMask := rfl
@[simp] theorem State.set_qs (s : State) (o : Nat) (v : Word) : (s.set o v).qs = s.qs := rfl
@[simp] theorem State.set_dma (s : State) (o : Nat) (v : Word) : (s.set o v).dma = s.dma := rfl
@[simp] theorem State.set_logs (s : State) (o : Nat) (v : Word) : (s.set o v).logs = s.logs := rfl
@[simp] theorem State.set_wpLo (s : State) (o : Nat) (v : Word) : (s.set o v).wpLo = s.wpLo := rfl
@[simp] theorem State.set_enc (s : State) (o : Nat) (v : Word) : (s.set o v).enc = s.enc := rfl
@[simp] theorem State.set_pend (s : State) (o : Nat) (v : Word) : (s.set o v).pend = s.pend := rfl
@[simp] theorem State.set_ch (s : State) (o : Nat) (v : Word) : (s.set o v).ch = s.ch := rfl
@[simp] theorem State.set_lane (s : State) (o : Nat) (v : Word) : (s.set o v).lane = s.lane := rfl
@[simp] theorem State.set_cap (s : State) (o : Nat) (v : Word) : (s.set o v).cap = s.cap := rfl
@[simp] theorem State.set_warm (s : State) (o : Nat) (v : Word) : (s.set o v).warm = s.warm := rfl
@[simp] theorem State.set_badPar (s : State) (o : Nat) (v : Word) : (s.set o v).badPar = s.badPar := rfl
@[simp] theorem State.set_hist (s : State) (o : Nat) (v : Word) : (s.set o v).hist = s.hist := rfl
@[simp] theorem State.set_nbr (s : State) (o : Nat) (v : Word) : (s.set o v).nbr = s.nbr := rfl
@[simp] theorem State.set_view (s : State) (o : Nat) (v : Word) : (s.set o v).view = s.view := rfl
@[simp] theorem State.set_axis (s : State) (o : Nat) (v : Word) : (s.set o v).axis = s.axis := rfl
@[simp] theorem State.set_coil (s : State) (o : Nat) (v : Word) : (s.set o v).coil = s.coil := rfl
@[simp] theorem State.set_pace (s : State) (o : Nat) (v : Word) : (s.set o v).pace = s.pace := rfl
@[simp] theorem State.set_rge (s : State) (o : Nat) (v : Word) : (s.set o v).rge = s.rge := rfl
@[simp] theorem State.set_acct (s : State) (o : Nat) (v : Word) : (s.set o v).acct = s.acct := rfl
@[simp] theorem State.set_rgh (s : State) (o : Nat) (v : Word) : (s.set o v).rgh = s.rgh := rfl
@[simp] theorem State.set_fix (s : State) (o : Nat) (v : Word) : (s.set o v).fix = s.fix := rfl
@[simp] theorem State.set_sink (s : State) (o : Nat) (v : Word) : (s.set o v).sink = s.sink := rfl
@[simp] theorem State.set_conv (s : State) (o : Nat) (v : Word) : (s.set o v).conv = s.conv := rfl
@[simp] theorem State.set_diss (s : State) (o : Nat) (v : Word) : (s.set o v).diss = s.diss := rfl
@[simp] theorem State.set_pe (s : State) (o : Nat) (v : Word) : (s.set o v).pe = s.pe := rfl
@[simp] theorem State.set_chain (s : State) (o : Nat) (v : Word) : (s.set o v).chain = s.chain := rfl
@[simp] theorem State.set_afe (s : State) (o : Nat) (v : Word) : (s.set o v).afe = s.afe := rfl
@[simp] theorem State.set_su (s : State) (o : Nat) (v : Word) : (s.set o v).su = s.su := rfl
@[simp] theorem State.set_cv (s : State) (o : Nat) (v : Word) : (s.set o v).cv = s.cv := rfl
@[simp] theorem State.set_reflex (s : State) (o : Nat) (v : Word) : (s.set o v).reflex = s.reflex := rfl
@[simp] theorem State.set_ring (s : State) (o : Nat) (v : Word) : (s.set o v).ring = s.ring := rfl
@[simp] theorem State.set_cal (s : State) (o : Nat) (v : Word) : (s.set o v).cal = s.cal := rfl
@[simp] theorem State.set_sec (s : State) (o : Nat) (v : Word) : (s.set o v).sec = s.sec := rfl
@[simp] theorem State.set_hrn (s : State) (o : Nat) (v : Word) : (s.set o v).hrn = s.hrn := rfl
@[simp] theorem State.set_pwr (s : State) (o : Nat) (v : Word) : (s.set o v).pwr = s.pwr := rfl
@[simp] theorem State.set_board (s : State) (o : Nat) (v : Word) : (s.set o v).board = s.board := rfl
@[simp] theorem State.set_timers (s : State) (o : Nat) (v : Word) : (s.set o v).timers = s.timers := rfl
@[simp] theorem State.set_tickRest (s : State) (o : Nat) (v : Word) : (s.set o v).tickRest = s.tickRest := rfl
@[simp] theorem State.set_raised (s : State) (o : Nat) (v : Word) : (s.set o v).raised = s.raised := rfl
@[simp] theorem State.set_pcie (s : State) (o : Nat) (v : Word) : (s.set o v).pcie = s.pcie := rfl
@[simp] theorem State.set_shadeLost (s : State) (o : Nat) (v : Word) : (s.set o v).shadeLost = s.shadeLost := rfl
@[simp] theorem State.set_steps (s : State) (o : Nat) (v : Word) : (s.set o v).steps = s.steps := rfl
@[simp] theorem State.set_ringSeq (s : State) (o : Nat) (v : Word) : (s.set o v).ringSeq = s.ringSeq := rfl
@[simp] theorem State.set_pool (s : State) (o : Nat) (v : Word) : (s.set o v).pool = s.pool := rfl

/-! ### `wr` -/

@[simp] theorem State.wr_pending (s : State) (f : Fld) (v i j : Nat) : (s.wr f v i j).pending = s.pending := rfl
@[simp] theorem State.wr_dram (s : State) (f : Fld) (v i j : Nat) : (s.wr f v i j).dram = s.dram := rfl
@[simp] theorem State.wr_captures (s : State) (f : Fld) (v i j : Nat) : (s.wr f v i j).captures = s.captures := rfl
@[simp] theorem State.wr_outs (s : State) (f : Fld) (v i j : Nat) : (s.wr f v i j).outs = s.outs := rfl
@[simp] theorem State.wr_fresh (s : State) (f : Fld) (v i j : Nat) : (s.wr f v i j).fresh = s.fresh := rfl
@[simp] theorem State.wr_vecReq (s : State) (f : Fld) (v i j : Nat) : (s.wr f v i j).vecReq = s.vecReq := rfl
@[simp] theorem State.wr_peDue (s : State) (f : Fld) (v i j : Nat) : (s.wr f v i j).peDue = s.peDue := rfl
@[simp] theorem State.wr_elapsed (s : State) (f : Fld) (v i j : Nat) : (s.wr f v i j).elapsed = s.elapsed := rfl
@[simp] theorem State.wr_chrono (s : State) (f : Fld) (v i j : Nat) : (s.wr f v i j).chrono = s.chrono := rfl
@[simp] theorem State.wr_slew (s : State) (f : Fld) (v i j : Nat) : (s.wr f v i j).slew = s.slew := rfl
@[simp] theorem State.wr_hold (s : State) (f : Fld) (v i j : Nat) : (s.wr f v i j).hold = s.hold := rfl
@[simp] theorem State.wr_rtc (s : State) (f : Fld) (v i j : Nat) : (s.wr f v i j).rtc = s.rtc := rfl
@[simp] theorem State.wr_funcMask (s : State) (f : Fld) (v i j : Nat) : (s.wr f v i j).funcMask = s.funcMask := rfl
@[simp] theorem State.wr_qs (s : State) (f : Fld) (v i j : Nat) : (s.wr f v i j).qs = s.qs := rfl
@[simp] theorem State.wr_dma (s : State) (f : Fld) (v i j : Nat) : (s.wr f v i j).dma = s.dma := rfl
@[simp] theorem State.wr_logs (s : State) (f : Fld) (v i j : Nat) : (s.wr f v i j).logs = s.logs := rfl
@[simp] theorem State.wr_wpLo (s : State) (f : Fld) (v i j : Nat) : (s.wr f v i j).wpLo = s.wpLo := rfl
@[simp] theorem State.wr_enc (s : State) (f : Fld) (v i j : Nat) : (s.wr f v i j).enc = s.enc := rfl
@[simp] theorem State.wr_pend (s : State) (f : Fld) (v i j : Nat) : (s.wr f v i j).pend = s.pend := rfl
@[simp] theorem State.wr_ch (s : State) (f : Fld) (v i j : Nat) : (s.wr f v i j).ch = s.ch := rfl
@[simp] theorem State.wr_lane (s : State) (f : Fld) (v i j : Nat) : (s.wr f v i j).lane = s.lane := rfl
@[simp] theorem State.wr_cap (s : State) (f : Fld) (v i j : Nat) : (s.wr f v i j).cap = s.cap := rfl
@[simp] theorem State.wr_warm (s : State) (f : Fld) (v i j : Nat) : (s.wr f v i j).warm = s.warm := rfl
@[simp] theorem State.wr_badPar (s : State) (f : Fld) (v i j : Nat) : (s.wr f v i j).badPar = s.badPar := rfl
@[simp] theorem State.wr_hist (s : State) (f : Fld) (v i j : Nat) : (s.wr f v i j).hist = s.hist := rfl
@[simp] theorem State.wr_nbr (s : State) (f : Fld) (v i j : Nat) : (s.wr f v i j).nbr = s.nbr := rfl
@[simp] theorem State.wr_view (s : State) (f : Fld) (v i j : Nat) : (s.wr f v i j).view = s.view := rfl
@[simp] theorem State.wr_axis (s : State) (f : Fld) (v i j : Nat) : (s.wr f v i j).axis = s.axis := rfl
@[simp] theorem State.wr_coil (s : State) (f : Fld) (v i j : Nat) : (s.wr f v i j).coil = s.coil := rfl
@[simp] theorem State.wr_pace (s : State) (f : Fld) (v i j : Nat) : (s.wr f v i j).pace = s.pace := rfl
@[simp] theorem State.wr_rge (s : State) (f : Fld) (v i j : Nat) : (s.wr f v i j).rge = s.rge := rfl
@[simp] theorem State.wr_acct (s : State) (f : Fld) (v i j : Nat) : (s.wr f v i j).acct = s.acct := rfl
@[simp] theorem State.wr_rgh (s : State) (f : Fld) (v i j : Nat) : (s.wr f v i j).rgh = s.rgh := rfl
@[simp] theorem State.wr_fix (s : State) (f : Fld) (v i j : Nat) : (s.wr f v i j).fix = s.fix := rfl
@[simp] theorem State.wr_sink (s : State) (f : Fld) (v i j : Nat) : (s.wr f v i j).sink = s.sink := rfl
@[simp] theorem State.wr_conv (s : State) (f : Fld) (v i j : Nat) : (s.wr f v i j).conv = s.conv := rfl
@[simp] theorem State.wr_diss (s : State) (f : Fld) (v i j : Nat) : (s.wr f v i j).diss = s.diss := rfl
@[simp] theorem State.wr_pe (s : State) (f : Fld) (v i j : Nat) : (s.wr f v i j).pe = s.pe := rfl
@[simp] theorem State.wr_chain (s : State) (f : Fld) (v i j : Nat) : (s.wr f v i j).chain = s.chain := rfl
@[simp] theorem State.wr_afe (s : State) (f : Fld) (v i j : Nat) : (s.wr f v i j).afe = s.afe := rfl
@[simp] theorem State.wr_su (s : State) (f : Fld) (v i j : Nat) : (s.wr f v i j).su = s.su := rfl
@[simp] theorem State.wr_cv (s : State) (f : Fld) (v i j : Nat) : (s.wr f v i j).cv = s.cv := rfl
@[simp] theorem State.wr_reflex (s : State) (f : Fld) (v i j : Nat) : (s.wr f v i j).reflex = s.reflex := rfl
@[simp] theorem State.wr_ring (s : State) (f : Fld) (v i j : Nat) : (s.wr f v i j).ring = s.ring := rfl
@[simp] theorem State.wr_cal (s : State) (f : Fld) (v i j : Nat) : (s.wr f v i j).cal = s.cal := rfl
@[simp] theorem State.wr_sec (s : State) (f : Fld) (v i j : Nat) : (s.wr f v i j).sec = s.sec := rfl
@[simp] theorem State.wr_hrn (s : State) (f : Fld) (v i j : Nat) : (s.wr f v i j).hrn = s.hrn := rfl
@[simp] theorem State.wr_pwr (s : State) (f : Fld) (v i j : Nat) : (s.wr f v i j).pwr = s.pwr := rfl
@[simp] theorem State.wr_board (s : State) (f : Fld) (v i j : Nat) : (s.wr f v i j).board = s.board := rfl
@[simp] theorem State.wr_timers (s : State) (f : Fld) (v i j : Nat) : (s.wr f v i j).timers = s.timers := rfl
@[simp] theorem State.wr_tickRest (s : State) (f : Fld) (v i j : Nat) : (s.wr f v i j).tickRest = s.tickRest := rfl
@[simp] theorem State.wr_raised (s : State) (f : Fld) (v i j : Nat) : (s.wr f v i j).raised = s.raised := rfl
@[simp] theorem State.wr_pcie (s : State) (f : Fld) (v i j : Nat) : (s.wr f v i j).pcie = s.pcie := rfl
@[simp] theorem State.wr_shadeLost (s : State) (f : Fld) (v i j : Nat) : (s.wr f v i j).shadeLost = s.shadeLost := rfl
@[simp] theorem State.wr_steps (s : State) (f : Fld) (v i j : Nat) : (s.wr f v i j).steps = s.steps := rfl
@[simp] theorem State.wr_ringSeq (s : State) (f : Fld) (v i j : Nat) : (s.wr f v i j).ringSeq = s.ringSeq := rfl
@[simp] theorem State.wr_pool (s : State) (f : Fld) (v i j : Nat) : (s.wr f v i j).pool = s.pool := rfl

/-! ### `out` -/

@[simp] theorem State.out_pending (s : State) (o : Out) : (s.out o).pending = s.pending := rfl
@[simp] theorem State.out_regs (s : State) (o : Out) : (s.out o).regs = s.regs := rfl
@[simp] theorem State.out_dram (s : State) (o : Out) : (s.out o).dram = s.dram := rfl
@[simp] theorem State.out_captures (s : State) (o : Out) : (s.out o).captures = s.captures := rfl
@[simp] theorem State.out_fresh (s : State) (o : Out) : (s.out o).fresh = s.fresh := rfl
@[simp] theorem State.out_vecReq (s : State) (o : Out) : (s.out o).vecReq = s.vecReq := rfl
@[simp] theorem State.out_peDue (s : State) (o : Out) : (s.out o).peDue = s.peDue := rfl
@[simp] theorem State.out_elapsed (s : State) (o : Out) : (s.out o).elapsed = s.elapsed := rfl
@[simp] theorem State.out_chrono (s : State) (o : Out) : (s.out o).chrono = s.chrono := rfl
@[simp] theorem State.out_slew (s : State) (o : Out) : (s.out o).slew = s.slew := rfl
@[simp] theorem State.out_hold (s : State) (o : Out) : (s.out o).hold = s.hold := rfl
@[simp] theorem State.out_rtc (s : State) (o : Out) : (s.out o).rtc = s.rtc := rfl
@[simp] theorem State.out_funcMask (s : State) (o : Out) : (s.out o).funcMask = s.funcMask := rfl
@[simp] theorem State.out_qs (s : State) (o : Out) : (s.out o).qs = s.qs := rfl
@[simp] theorem State.out_dma (s : State) (o : Out) : (s.out o).dma = s.dma := rfl
@[simp] theorem State.out_logs (s : State) (o : Out) : (s.out o).logs = s.logs := rfl
@[simp] theorem State.out_wpLo (s : State) (o : Out) : (s.out o).wpLo = s.wpLo := rfl
@[simp] theorem State.out_enc (s : State) (o : Out) : (s.out o).enc = s.enc := rfl
@[simp] theorem State.out_pend (s : State) (o : Out) : (s.out o).pend = s.pend := rfl
@[simp] theorem State.out_ch (s : State) (o : Out) : (s.out o).ch = s.ch := rfl
@[simp] theorem State.out_lane (s : State) (o : Out) : (s.out o).lane = s.lane := rfl
@[simp] theorem State.out_cap (s : State) (o : Out) : (s.out o).cap = s.cap := rfl
@[simp] theorem State.out_warm (s : State) (o : Out) : (s.out o).warm = s.warm := rfl
@[simp] theorem State.out_badPar (s : State) (o : Out) : (s.out o).badPar = s.badPar := rfl
@[simp] theorem State.out_hist (s : State) (o : Out) : (s.out o).hist = s.hist := rfl
@[simp] theorem State.out_nbr (s : State) (o : Out) : (s.out o).nbr = s.nbr := rfl
@[simp] theorem State.out_view (s : State) (o : Out) : (s.out o).view = s.view := rfl
@[simp] theorem State.out_axis (s : State) (o : Out) : (s.out o).axis = s.axis := rfl
@[simp] theorem State.out_coil (s : State) (o : Out) : (s.out o).coil = s.coil := rfl
@[simp] theorem State.out_pace (s : State) (o : Out) : (s.out o).pace = s.pace := rfl
@[simp] theorem State.out_rge (s : State) (o : Out) : (s.out o).rge = s.rge := rfl
@[simp] theorem State.out_acct (s : State) (o : Out) : (s.out o).acct = s.acct := rfl
@[simp] theorem State.out_rgh (s : State) (o : Out) : (s.out o).rgh = s.rgh := rfl
@[simp] theorem State.out_fix (s : State) (o : Out) : (s.out o).fix = s.fix := rfl
@[simp] theorem State.out_sink (s : State) (o : Out) : (s.out o).sink = s.sink := rfl
@[simp] theorem State.out_conv (s : State) (o : Out) : (s.out o).conv = s.conv := rfl
@[simp] theorem State.out_diss (s : State) (o : Out) : (s.out o).diss = s.diss := rfl
@[simp] theorem State.out_pe (s : State) (o : Out) : (s.out o).pe = s.pe := rfl
@[simp] theorem State.out_chain (s : State) (o : Out) : (s.out o).chain = s.chain := rfl
@[simp] theorem State.out_afe (s : State) (o : Out) : (s.out o).afe = s.afe := rfl
@[simp] theorem State.out_su (s : State) (o : Out) : (s.out o).su = s.su := rfl
@[simp] theorem State.out_cv (s : State) (o : Out) : (s.out o).cv = s.cv := rfl
@[simp] theorem State.out_reflex (s : State) (o : Out) : (s.out o).reflex = s.reflex := rfl
@[simp] theorem State.out_ring (s : State) (o : Out) : (s.out o).ring = s.ring := rfl
@[simp] theorem State.out_cal (s : State) (o : Out) : (s.out o).cal = s.cal := rfl
@[simp] theorem State.out_sec (s : State) (o : Out) : (s.out o).sec = s.sec := rfl
@[simp] theorem State.out_hrn (s : State) (o : Out) : (s.out o).hrn = s.hrn := rfl
@[simp] theorem State.out_pwr (s : State) (o : Out) : (s.out o).pwr = s.pwr := rfl
@[simp] theorem State.out_board (s : State) (o : Out) : (s.out o).board = s.board := rfl
@[simp] theorem State.out_timers (s : State) (o : Out) : (s.out o).timers = s.timers := rfl
@[simp] theorem State.out_tickRest (s : State) (o : Out) : (s.out o).tickRest = s.tickRest := rfl
@[simp] theorem State.out_raised (s : State) (o : Out) : (s.out o).raised = s.raised := rfl
@[simp] theorem State.out_pcie (s : State) (o : Out) : (s.out o).pcie = s.pcie := rfl
@[simp] theorem State.out_shadeLost (s : State) (o : Out) : (s.out o).shadeLost = s.shadeLost := rfl
@[simp] theorem State.out_steps (s : State) (o : Out) : (s.out o).steps = s.steps := rfl
@[simp] theorem State.out_ringSeq (s : State) (o : Out) : (s.out o).ringSeq = s.ringSeq := rfl
@[simp] theorem State.out_pool (s : State) (o : Out) : (s.out o).pool = s.pool := rfl

/-! ### `setByte` -/

@[simp] theorem State.setByte_pending (s : State) (a : Nat) (b : Byte) : (s.setByte a b).pending = s.pending := rfl
@[simp] theorem State.setByte_regs (s : State) (a : Nat) (b : Byte) : (s.setByte a b).regs = s.regs := rfl
@[simp] theorem State.setByte_captures (s : State) (a : Nat) (b : Byte) : (s.setByte a b).captures = s.captures := rfl
@[simp] theorem State.setByte_outs (s : State) (a : Nat) (b : Byte) : (s.setByte a b).outs = s.outs := rfl
@[simp] theorem State.setByte_fresh (s : State) (a : Nat) (b : Byte) : (s.setByte a b).fresh = s.fresh := rfl
@[simp] theorem State.setByte_vecReq (s : State) (a : Nat) (b : Byte) : (s.setByte a b).vecReq = s.vecReq := rfl
@[simp] theorem State.setByte_peDue (s : State) (a : Nat) (b : Byte) : (s.setByte a b).peDue = s.peDue := rfl
@[simp] theorem State.setByte_elapsed (s : State) (a : Nat) (b : Byte) : (s.setByte a b).elapsed = s.elapsed := rfl
@[simp] theorem State.setByte_chrono (s : State) (a : Nat) (b : Byte) : (s.setByte a b).chrono = s.chrono := rfl
@[simp] theorem State.setByte_slew (s : State) (a : Nat) (b : Byte) : (s.setByte a b).slew = s.slew := rfl
@[simp] theorem State.setByte_hold (s : State) (a : Nat) (b : Byte) : (s.setByte a b).hold = s.hold := rfl
@[simp] theorem State.setByte_rtc (s : State) (a : Nat) (b : Byte) : (s.setByte a b).rtc = s.rtc := rfl
@[simp] theorem State.setByte_funcMask (s : State) (a : Nat) (b : Byte) : (s.setByte a b).funcMask = s.funcMask := rfl
@[simp] theorem State.setByte_qs (s : State) (a : Nat) (b : Byte) : (s.setByte a b).qs = s.qs := rfl
@[simp] theorem State.setByte_dma (s : State) (a : Nat) (b : Byte) : (s.setByte a b).dma = s.dma := rfl
@[simp] theorem State.setByte_logs (s : State) (a : Nat) (b : Byte) : (s.setByte a b).logs = s.logs := rfl
@[simp] theorem State.setByte_wpLo (s : State) (a : Nat) (b : Byte) : (s.setByte a b).wpLo = s.wpLo := rfl
@[simp] theorem State.setByte_enc (s : State) (a : Nat) (b : Byte) : (s.setByte a b).enc = s.enc := rfl
@[simp] theorem State.setByte_pend (s : State) (a : Nat) (b : Byte) : (s.setByte a b).pend = s.pend := rfl
@[simp] theorem State.setByte_ch (s : State) (a : Nat) (b : Byte) : (s.setByte a b).ch = s.ch := rfl
@[simp] theorem State.setByte_lane (s : State) (a : Nat) (b : Byte) : (s.setByte a b).lane = s.lane := rfl
@[simp] theorem State.setByte_cap (s : State) (a : Nat) (b : Byte) : (s.setByte a b).cap = s.cap := rfl
@[simp] theorem State.setByte_warm (s : State) (a : Nat) (b : Byte) : (s.setByte a b).warm = s.warm := rfl
@[simp] theorem State.setByte_badPar (s : State) (a : Nat) (b : Byte) : (s.setByte a b).badPar = s.badPar := rfl
@[simp] theorem State.setByte_hist (s : State) (a : Nat) (b : Byte) : (s.setByte a b).hist = s.hist := rfl
@[simp] theorem State.setByte_nbr (s : State) (a : Nat) (b : Byte) : (s.setByte a b).nbr = s.nbr := rfl
@[simp] theorem State.setByte_view (s : State) (a : Nat) (b : Byte) : (s.setByte a b).view = s.view := rfl
@[simp] theorem State.setByte_axis (s : State) (a : Nat) (b : Byte) : (s.setByte a b).axis = s.axis := rfl
@[simp] theorem State.setByte_coil (s : State) (a : Nat) (b : Byte) : (s.setByte a b).coil = s.coil := rfl
@[simp] theorem State.setByte_pace (s : State) (a : Nat) (b : Byte) : (s.setByte a b).pace = s.pace := rfl
@[simp] theorem State.setByte_rge (s : State) (a : Nat) (b : Byte) : (s.setByte a b).rge = s.rge := rfl
@[simp] theorem State.setByte_acct (s : State) (a : Nat) (b : Byte) : (s.setByte a b).acct = s.acct := rfl
@[simp] theorem State.setByte_rgh (s : State) (a : Nat) (b : Byte) : (s.setByte a b).rgh = s.rgh := rfl
@[simp] theorem State.setByte_fix (s : State) (a : Nat) (b : Byte) : (s.setByte a b).fix = s.fix := rfl
@[simp] theorem State.setByte_sink (s : State) (a : Nat) (b : Byte) : (s.setByte a b).sink = s.sink := rfl
@[simp] theorem State.setByte_conv (s : State) (a : Nat) (b : Byte) : (s.setByte a b).conv = s.conv := rfl
@[simp] theorem State.setByte_diss (s : State) (a : Nat) (b : Byte) : (s.setByte a b).diss = s.diss := rfl
@[simp] theorem State.setByte_pe (s : State) (a : Nat) (b : Byte) : (s.setByte a b).pe = s.pe := rfl
@[simp] theorem State.setByte_chain (s : State) (a : Nat) (b : Byte) : (s.setByte a b).chain = s.chain := rfl
@[simp] theorem State.setByte_afe (s : State) (a : Nat) (b : Byte) : (s.setByte a b).afe = s.afe := rfl
@[simp] theorem State.setByte_su (s : State) (a : Nat) (b : Byte) : (s.setByte a b).su = s.su := rfl
@[simp] theorem State.setByte_cv (s : State) (a : Nat) (b : Byte) : (s.setByte a b).cv = s.cv := rfl
@[simp] theorem State.setByte_reflex (s : State) (a : Nat) (b : Byte) : (s.setByte a b).reflex = s.reflex := rfl
@[simp] theorem State.setByte_ring (s : State) (a : Nat) (b : Byte) : (s.setByte a b).ring = s.ring := rfl
@[simp] theorem State.setByte_cal (s : State) (a : Nat) (b : Byte) : (s.setByte a b).cal = s.cal := rfl
@[simp] theorem State.setByte_sec (s : State) (a : Nat) (b : Byte) : (s.setByte a b).sec = s.sec := rfl
@[simp] theorem State.setByte_hrn (s : State) (a : Nat) (b : Byte) : (s.setByte a b).hrn = s.hrn := rfl
@[simp] theorem State.setByte_pwr (s : State) (a : Nat) (b : Byte) : (s.setByte a b).pwr = s.pwr := rfl
@[simp] theorem State.setByte_board (s : State) (a : Nat) (b : Byte) : (s.setByte a b).board = s.board := rfl
@[simp] theorem State.setByte_timers (s : State) (a : Nat) (b : Byte) : (s.setByte a b).timers = s.timers := rfl
@[simp] theorem State.setByte_tickRest (s : State) (a : Nat) (b : Byte) : (s.setByte a b).tickRest = s.tickRest := rfl
@[simp] theorem State.setByte_raised (s : State) (a : Nat) (b : Byte) : (s.setByte a b).raised = s.raised := rfl
@[simp] theorem State.setByte_pcie (s : State) (a : Nat) (b : Byte) : (s.setByte a b).pcie = s.pcie := rfl
@[simp] theorem State.setByte_shadeLost (s : State) (a : Nat) (b : Byte) : (s.setByte a b).shadeLost = s.shadeLost := rfl
@[simp] theorem State.setByte_steps (s : State) (a : Nat) (b : Byte) : (s.setByte a b).steps = s.steps := rfl
@[simp] theorem State.setByte_ringSeq (s : State) (a : Nat) (b : Byte) : (s.setByte a b).ringSeq = s.ringSeq := rfl
@[simp] theorem State.setByte_pool (s : State) (a : Nat) (b : Byte) : (s.setByte a b).pool = s.pool := rfl

/-! ### `used` -/

@[simp] theorem State.used_pending (s : State) : (s.used).pending = s.pending := rfl
@[simp] theorem State.used_regs (s : State) : (s.used).regs = s.regs := rfl
@[simp] theorem State.used_dram (s : State) : (s.used).dram = s.dram := rfl
@[simp] theorem State.used_captures (s : State) : (s.used).captures = s.captures := rfl
@[simp] theorem State.used_outs (s : State) : (s.used).outs = s.outs := rfl
@[simp] theorem State.used_vecReq (s : State) : (s.used).vecReq = s.vecReq := rfl
@[simp] theorem State.used_peDue (s : State) : (s.used).peDue = s.peDue := rfl
@[simp] theorem State.used_elapsed (s : State) : (s.used).elapsed = s.elapsed := rfl
@[simp] theorem State.used_chrono (s : State) : (s.used).chrono = s.chrono := rfl
@[simp] theorem State.used_slew (s : State) : (s.used).slew = s.slew := rfl
@[simp] theorem State.used_hold (s : State) : (s.used).hold = s.hold := rfl
@[simp] theorem State.used_rtc (s : State) : (s.used).rtc = s.rtc := rfl
@[simp] theorem State.used_funcMask (s : State) : (s.used).funcMask = s.funcMask := rfl
@[simp] theorem State.used_qs (s : State) : (s.used).qs = s.qs := rfl
@[simp] theorem State.used_dma (s : State) : (s.used).dma = s.dma := rfl
@[simp] theorem State.used_logs (s : State) : (s.used).logs = s.logs := rfl
@[simp] theorem State.used_wpLo (s : State) : (s.used).wpLo = s.wpLo := rfl
@[simp] theorem State.used_enc (s : State) : (s.used).enc = s.enc := rfl
@[simp] theorem State.used_pend (s : State) : (s.used).pend = s.pend := rfl
@[simp] theorem State.used_ch (s : State) : (s.used).ch = s.ch := rfl
@[simp] theorem State.used_lane (s : State) : (s.used).lane = s.lane := rfl
@[simp] theorem State.used_cap (s : State) : (s.used).cap = s.cap := rfl
@[simp] theorem State.used_warm (s : State) : (s.used).warm = s.warm := rfl
@[simp] theorem State.used_badPar (s : State) : (s.used).badPar = s.badPar := rfl
@[simp] theorem State.used_hist (s : State) : (s.used).hist = s.hist := rfl
@[simp] theorem State.used_nbr (s : State) : (s.used).nbr = s.nbr := rfl
@[simp] theorem State.used_view (s : State) : (s.used).view = s.view := rfl
@[simp] theorem State.used_axis (s : State) : (s.used).axis = s.axis := rfl
@[simp] theorem State.used_coil (s : State) : (s.used).coil = s.coil := rfl
@[simp] theorem State.used_pace (s : State) : (s.used).pace = s.pace := rfl
@[simp] theorem State.used_rge (s : State) : (s.used).rge = s.rge := rfl
@[simp] theorem State.used_acct (s : State) : (s.used).acct = s.acct := rfl
@[simp] theorem State.used_rgh (s : State) : (s.used).rgh = s.rgh := rfl
@[simp] theorem State.used_fix (s : State) : (s.used).fix = s.fix := rfl
@[simp] theorem State.used_sink (s : State) : (s.used).sink = s.sink := rfl
@[simp] theorem State.used_conv (s : State) : (s.used).conv = s.conv := rfl
@[simp] theorem State.used_diss (s : State) : (s.used).diss = s.diss := rfl
@[simp] theorem State.used_pe (s : State) : (s.used).pe = s.pe := rfl
@[simp] theorem State.used_chain (s : State) : (s.used).chain = s.chain := rfl
@[simp] theorem State.used_afe (s : State) : (s.used).afe = s.afe := rfl
@[simp] theorem State.used_su (s : State) : (s.used).su = s.su := rfl
@[simp] theorem State.used_cv (s : State) : (s.used).cv = s.cv := rfl
@[simp] theorem State.used_reflex (s : State) : (s.used).reflex = s.reflex := rfl
@[simp] theorem State.used_ring (s : State) : (s.used).ring = s.ring := rfl
@[simp] theorem State.used_cal (s : State) : (s.used).cal = s.cal := rfl
@[simp] theorem State.used_sec (s : State) : (s.used).sec = s.sec := rfl
@[simp] theorem State.used_hrn (s : State) : (s.used).hrn = s.hrn := rfl
@[simp] theorem State.used_pwr (s : State) : (s.used).pwr = s.pwr := rfl
@[simp] theorem State.used_board (s : State) : (s.used).board = s.board := rfl
@[simp] theorem State.used_timers (s : State) : (s.used).timers = s.timers := rfl
@[simp] theorem State.used_tickRest (s : State) : (s.used).tickRest = s.tickRest := rfl
@[simp] theorem State.used_raised (s : State) : (s.used).raised = s.raised := rfl
@[simp] theorem State.used_pcie (s : State) : (s.used).pcie = s.pcie := rfl
@[simp] theorem State.used_shadeLost (s : State) : (s.used).shadeLost = s.shadeLost := rfl
@[simp] theorem State.used_steps (s : State) : (s.used).steps = s.steps := rfl
@[simp] theorem State.used_ringSeq (s : State) : (s.used).ringSeq = s.ringSeq := rfl
@[simp] theorem State.used_pool (s : State) : (s.used).pool = s.pool := rfl

@[simp] theorem State.out_outs (s : State) (o : Out) : (s.out o).outs = o :: s.outs := rfl
@[simp] theorem State.used_fresh (s : State) : s.used.fresh = s.fresh + 1 := rfl

@[simp] theorem State.get_out (s : State) (o : Out) (k : Nat) : (s.out o).get k = s.get k := rfl
@[simp] theorem State.rd_out (s : State) (o : Out) (f : Fld) (i j : Nat) : (s.out o).rd f i j = s.rd f i j := rfl
@[simp] theorem State.flag_out (s : State) (o : Out) (f : Fld) (i j : Nat) : (s.out o).flag f i j = s.flag f i j := rfl
@[simp] theorem State.get_setByte (s : State) (a : Nat) (b : Byte) (k : Nat) : (s.setByte a b).get k = s.get k := rfl
@[simp] theorem State.rd_setByte (s : State) (a : Nat) (b : Byte) (f : Fld) (i j : Nat) : (s.setByte a b).rd f i j = s.rd f i j := rfl
@[simp] theorem State.flag_setByte (s : State) (a : Nat) (b : Byte) (f : Fld) (i j : Nat) : (s.setByte a b).flag f i j = s.flag f i j := rfl
@[simp] theorem State.get_used (s : State) (k : Nat) : (s.used).get k = s.get k := rfl
@[simp] theorem State.rd_used (s : State) (f : Fld) (i j : Nat) : (s.used).rd f i j = s.rd f i j := rfl
@[simp] theorem State.flag_used (s : State) (f : Fld) (i j : Nat) : (s.used).flag f i j = s.flag f i j := rfl

/-! ### Numbered resources -/

@[simp] theorem State.setQ_pending (s : State) (n : Nat) (v : QSt) : (s.setQ n v).pending = s.pending := rfl
@[simp] theorem State.setQ_regs (s : State) (n : Nat) (v : QSt) : (s.setQ n v).regs = s.regs := rfl
@[simp] theorem State.setQ_dram (s : State) (n : Nat) (v : QSt) : (s.setQ n v).dram = s.dram := rfl
@[simp] theorem State.setQ_outs (s : State) (n : Nat) (v : QSt) : (s.setQ n v).outs = s.outs := rfl
@[simp] theorem State.setQ_vecReq (s : State) (n : Nat) (v : QSt) : (s.setQ n v).vecReq = s.vecReq := rfl
@[simp] theorem State.get_setQ (s : State) (n : Nat) (v : QSt) (k : Nat) : (s.setQ n v).get k = s.get k := rfl
@[simp] theorem State.rd_setQ (s : State) (n : Nat) (v : QSt) (f : Fld) (i j : Nat) : (s.setQ n v).rd f i j = s.rd f i j := rfl
@[simp] theorem State.flag_setQ (s : State) (n : Nat) (v : QSt) (f : Fld) (i j : Nat) : (s.setQ n v).flag f i j = s.flag f i j := rfl
@[simp] theorem State.q_setQ (s : State) (n : Nat) (v : QSt) : (s.setQ n v).q n = v := kvGet_kvSet_same _ _ _ _
theorem State.q_setQ_ne (s : State) (n : Nat) (v : QSt) {m : Nat} (h : m ≠ n) : (s.setQ n v).q m = s.q m := kvGet_kvSet_ne _ _ _ h
@[simp] theorem State.q_wr (s : State) (f : Fld) (v i j n : Nat) : (s.wr f v i j).q n = s.q n := rfl
@[simp] theorem State.q_set (s : State) (o : Nat) (w : Word) (n : Nat) : (s.set o w).q n = s.q n := rfl

@[simp] theorem State.setDmaCh_pending (s : State) (n : Nat) (v : DmaSt) : (s.setDmaCh n v).pending = s.pending := rfl
@[simp] theorem State.setDmaCh_regs (s : State) (n : Nat) (v : DmaSt) : (s.setDmaCh n v).regs = s.regs := rfl
@[simp] theorem State.setDmaCh_dram (s : State) (n : Nat) (v : DmaSt) : (s.setDmaCh n v).dram = s.dram := rfl
@[simp] theorem State.setDmaCh_outs (s : State) (n : Nat) (v : DmaSt) : (s.setDmaCh n v).outs = s.outs := rfl
@[simp] theorem State.setDmaCh_vecReq (s : State) (n : Nat) (v : DmaSt) : (s.setDmaCh n v).vecReq = s.vecReq := rfl
@[simp] theorem State.get_setDmaCh (s : State) (n : Nat) (v : DmaSt) (k : Nat) : (s.setDmaCh n v).get k = s.get k := rfl
@[simp] theorem State.rd_setDmaCh (s : State) (n : Nat) (v : DmaSt) (f : Fld) (i j : Nat) : (s.setDmaCh n v).rd f i j = s.rd f i j := rfl
@[simp] theorem State.flag_setDmaCh (s : State) (n : Nat) (v : DmaSt) (f : Fld) (i j : Nat) : (s.setDmaCh n v).flag f i j = s.flag f i j := rfl
@[simp] theorem State.dmaCh_setDmaCh (s : State) (n : Nat) (v : DmaSt) : (s.setDmaCh n v).dmaCh n = v := kvGet_kvSet_same _ _ _ _
theorem State.dmaCh_setDmaCh_ne (s : State) (n : Nat) (v : DmaSt) {m : Nat} (h : m ≠ n) : (s.setDmaCh n v).dmaCh m = s.dmaCh m := kvGet_kvSet_ne _ _ _ h
@[simp] theorem State.dmaCh_wr (s : State) (f : Fld) (v i j n : Nat) : (s.wr f v i j).dmaCh n = s.dmaCh n := rfl
@[simp] theorem State.dmaCh_set (s : State) (o : Nat) (w : Word) (n : Nat) : (s.set o w).dmaCh n = s.dmaCh n := rfl

@[simp] theorem State.setLog_pending (s : State) (n : Nat) (v : LogSt) : (s.setLog n v).pending = s.pending := rfl
@[simp] theorem State.setLog_regs (s : State) (n : Nat) (v : LogSt) : (s.setLog n v).regs = s.regs := rfl
@[simp] theorem State.setLog_dram (s : State) (n : Nat) (v : LogSt) : (s.setLog n v).dram = s.dram := rfl
@[simp] theorem State.setLog_outs (s : State) (n : Nat) (v : LogSt) : (s.setLog n v).outs = s.outs := rfl
@[simp] theorem State.setLog_vecReq (s : State) (n : Nat) (v : LogSt) : (s.setLog n v).vecReq = s.vecReq := rfl
@[simp] theorem State.get_setLog (s : State) (n : Nat) (v : LogSt) (k : Nat) : (s.setLog n v).get k = s.get k := rfl
@[simp] theorem State.rd_setLog (s : State) (n : Nat) (v : LogSt) (f : Fld) (i j : Nat) : (s.setLog n v).rd f i j = s.rd f i j := rfl
@[simp] theorem State.flag_setLog (s : State) (n : Nat) (v : LogSt) (f : Fld) (i j : Nat) : (s.setLog n v).flag f i j = s.flag f i j := rfl
@[simp] theorem State.log_setLog (s : State) (n : Nat) (v : LogSt) : (s.setLog n v).log n = v := kvGet_kvSet_same _ _ _ _
theorem State.log_setLog_ne (s : State) (n : Nat) (v : LogSt) {m : Nat} (h : m ≠ n) : (s.setLog n v).log m = s.log m := kvGet_kvSet_ne _ _ _ h
@[simp] theorem State.log_wr (s : State) (f : Fld) (v i j n : Nat) : (s.wr f v i j).log n = s.log n := rfl
@[simp] theorem State.log_set (s : State) (o : Nat) (w : Word) (n : Nat) : (s.set o w).log n = s.log n := rfl

@[simp] theorem State.setEncoder_pending (s : State) (n : Nat) (v : EncSt) : (s.setEncoder n v).pending = s.pending := rfl
@[simp] theorem State.setEncoder_regs (s : State) (n : Nat) (v : EncSt) : (s.setEncoder n v).regs = s.regs := rfl
@[simp] theorem State.setEncoder_dram (s : State) (n : Nat) (v : EncSt) : (s.setEncoder n v).dram = s.dram := rfl
@[simp] theorem State.setEncoder_outs (s : State) (n : Nat) (v : EncSt) : (s.setEncoder n v).outs = s.outs := rfl
@[simp] theorem State.setEncoder_vecReq (s : State) (n : Nat) (v : EncSt) : (s.setEncoder n v).vecReq = s.vecReq := rfl
@[simp] theorem State.get_setEncoder (s : State) (n : Nat) (v : EncSt) (k : Nat) : (s.setEncoder n v).get k = s.get k := rfl
@[simp] theorem State.rd_setEncoder (s : State) (n : Nat) (v : EncSt) (f : Fld) (i j : Nat) : (s.setEncoder n v).rd f i j = s.rd f i j := rfl
@[simp] theorem State.flag_setEncoder (s : State) (n : Nat) (v : EncSt) (f : Fld) (i j : Nat) : (s.setEncoder n v).flag f i j = s.flag f i j := rfl
@[simp] theorem State.encoder_setEncoder (s : State) (n : Nat) (v : EncSt) : (s.setEncoder n v).encoder n = v := kvGet_kvSet_same _ _ _ _
theorem State.encoder_setEncoder_ne (s : State) (n : Nat) (v : EncSt) {m : Nat} (h : m ≠ n) : (s.setEncoder n v).encoder m = s.encoder m := kvGet_kvSet_ne _ _ _ h
@[simp] theorem State.encoder_wr (s : State) (f : Fld) (v i j n : Nat) : (s.wr f v i j).encoder n = s.encoder n := rfl
@[simp] theorem State.encoder_set (s : State) (o : Nat) (w : Word) (n : Nat) : (s.set o w).encoder n = s.encoder n := rfl

@[simp] theorem State.setChan_pending (s : State) (n : Nat) (v : ChSt) : (s.setChan n v).pending = s.pending := rfl
@[simp] theorem State.setChan_regs (s : State) (n : Nat) (v : ChSt) : (s.setChan n v).regs = s.regs := rfl
@[simp] theorem State.setChan_dram (s : State) (n : Nat) (v : ChSt) : (s.setChan n v).dram = s.dram := rfl
@[simp] theorem State.setChan_outs (s : State) (n : Nat) (v : ChSt) : (s.setChan n v).outs = s.outs := rfl
@[simp] theorem State.setChan_vecReq (s : State) (n : Nat) (v : ChSt) : (s.setChan n v).vecReq = s.vecReq := rfl
@[simp] theorem State.get_setChan (s : State) (n : Nat) (v : ChSt) (k : Nat) : (s.setChan n v).get k = s.get k := rfl
@[simp] theorem State.rd_setChan (s : State) (n : Nat) (v : ChSt) (f : Fld) (i j : Nat) : (s.setChan n v).rd f i j = s.rd f i j := rfl
@[simp] theorem State.flag_setChan (s : State) (n : Nat) (v : ChSt) (f : Fld) (i j : Nat) : (s.setChan n v).flag f i j = s.flag f i j := rfl
@[simp] theorem State.chan_setChan (s : State) (n : Nat) (v : ChSt) : (s.setChan n v).chan n = v := kvGet_kvSet_same _ _ _ _
theorem State.chan_setChan_ne (s : State) (n : Nat) (v : ChSt) {m : Nat} (h : m ≠ n) : (s.setChan n v).chan m = s.chan m := kvGet_kvSet_ne _ _ _ h
@[simp] theorem State.chan_wr (s : State) (f : Fld) (v i j n : Nat) : (s.wr f v i j).chan n = s.chan n := rfl
@[simp] theorem State.chan_set (s : State) (o : Nat) (w : Word) (n : Nat) : (s.set o w).chan n = s.chan n := rfl

@[simp] theorem State.setLaneSt_pending (s : State) (n : Nat) (v : LaneSt) : (s.setLaneSt n v).pending = s.pending := rfl
@[simp] theorem State.setLaneSt_regs (s : State) (n : Nat) (v : LaneSt) : (s.setLaneSt n v).regs = s.regs := rfl
@[simp] theorem State.setLaneSt_dram (s : State) (n : Nat) (v : LaneSt) : (s.setLaneSt n v).dram = s.dram := rfl
@[simp] theorem State.setLaneSt_outs (s : State) (n : Nat) (v : LaneSt) : (s.setLaneSt n v).outs = s.outs := rfl
@[simp] theorem State.setLaneSt_vecReq (s : State) (n : Nat) (v : LaneSt) : (s.setLaneSt n v).vecReq = s.vecReq := rfl
@[simp] theorem State.get_setLaneSt (s : State) (n : Nat) (v : LaneSt) (k : Nat) : (s.setLaneSt n v).get k = s.get k := rfl
@[simp] theorem State.rd_setLaneSt (s : State) (n : Nat) (v : LaneSt) (f : Fld) (i j : Nat) : (s.setLaneSt n v).rd f i j = s.rd f i j := rfl
@[simp] theorem State.flag_setLaneSt (s : State) (n : Nat) (v : LaneSt) (f : Fld) (i j : Nat) : (s.setLaneSt n v).flag f i j = s.flag f i j := rfl
@[simp] theorem State.laneSt_setLaneSt (s : State) (n : Nat) (v : LaneSt) : (s.setLaneSt n v).laneSt n = v := kvGet_kvSet_same _ _ _ _
theorem State.laneSt_setLaneSt_ne (s : State) (n : Nat) (v : LaneSt) {m : Nat} (h : m ≠ n) : (s.setLaneSt n v).laneSt m = s.laneSt m := kvGet_kvSet_ne _ _ _ h
@[simp] theorem State.laneSt_wr (s : State) (f : Fld) (v i j n : Nat) : (s.wr f v i j).laneSt n = s.laneSt n := rfl
@[simp] theorem State.laneSt_set (s : State) (o : Nat) (w : Word) (n : Nat) : (s.set o w).laneSt n = s.laneSt n := rfl

@[simp] theorem State.setWarmSt_pending (s : State) (n : Nat) (v : WarmSt) : (s.setWarmSt n v).pending = s.pending := rfl
@[simp] theorem State.setWarmSt_regs (s : State) (n : Nat) (v : WarmSt) : (s.setWarmSt n v).regs = s.regs := rfl
@[simp] theorem State.setWarmSt_dram (s : State) (n : Nat) (v : WarmSt) : (s.setWarmSt n v).dram = s.dram := rfl
@[simp] theorem State.setWarmSt_outs (s : State) (n : Nat) (v : WarmSt) : (s.setWarmSt n v).outs = s.outs := rfl
@[simp] theorem State.setWarmSt_vecReq (s : State) (n : Nat) (v : WarmSt) : (s.setWarmSt n v).vecReq = s.vecReq := rfl
@[simp] theorem State.get_setWarmSt (s : State) (n : Nat) (v : WarmSt) (k : Nat) : (s.setWarmSt n v).get k = s.get k := rfl
@[simp] theorem State.rd_setWarmSt (s : State) (n : Nat) (v : WarmSt) (f : Fld) (i j : Nat) : (s.setWarmSt n v).rd f i j = s.rd f i j := rfl
@[simp] theorem State.flag_setWarmSt (s : State) (n : Nat) (v : WarmSt) (f : Fld) (i j : Nat) : (s.setWarmSt n v).flag f i j = s.flag f i j := rfl
@[simp] theorem State.warmSt_setWarmSt (s : State) (n : Nat) (v : WarmSt) : (s.setWarmSt n v).warmSt n = v := kvGet_kvSet_same _ _ _ _
theorem State.warmSt_setWarmSt_ne (s : State) (n : Nat) (v : WarmSt) {m : Nat} (h : m ≠ n) : (s.setWarmSt n v).warmSt m = s.warmSt m := kvGet_kvSet_ne _ _ _ h
@[simp] theorem State.warmSt_wr (s : State) (f : Fld) (v i j n : Nat) : (s.wr f v i j).warmSt n = s.warmSt n := rfl
@[simp] theorem State.warmSt_set (s : State) (o : Nat) (w : Word) (n : Nat) : (s.set o w).warmSt n = s.warmSt n := rfl

@[simp] theorem State.setViewSt_pending (s : State) (n : Nat) (v : VSt) : (s.setViewSt n v).pending = s.pending := rfl
@[simp] theorem State.setViewSt_regs (s : State) (n : Nat) (v : VSt) : (s.setViewSt n v).regs = s.regs := rfl
@[simp] theorem State.setViewSt_dram (s : State) (n : Nat) (v : VSt) : (s.setViewSt n v).dram = s.dram := rfl
@[simp] theorem State.setViewSt_outs (s : State) (n : Nat) (v : VSt) : (s.setViewSt n v).outs = s.outs := rfl
@[simp] theorem State.setViewSt_vecReq (s : State) (n : Nat) (v : VSt) : (s.setViewSt n v).vecReq = s.vecReq := rfl
@[simp] theorem State.get_setViewSt (s : State) (n : Nat) (v : VSt) (k : Nat) : (s.setViewSt n v).get k = s.get k := rfl
@[simp] theorem State.rd_setViewSt (s : State) (n : Nat) (v : VSt) (f : Fld) (i j : Nat) : (s.setViewSt n v).rd f i j = s.rd f i j := rfl
@[simp] theorem State.flag_setViewSt (s : State) (n : Nat) (v : VSt) (f : Fld) (i j : Nat) : (s.setViewSt n v).flag f i j = s.flag f i j := rfl
@[simp] theorem State.viewSt_setViewSt (s : State) (n : Nat) (v : VSt) : (s.setViewSt n v).viewSt n = v := kvGet_kvSet_same _ _ _ _
theorem State.viewSt_setViewSt_ne (s : State) (n : Nat) (v : VSt) {m : Nat} (h : m ≠ n) : (s.setViewSt n v).viewSt m = s.viewSt m := kvGet_kvSet_ne _ _ _ h
@[simp] theorem State.viewSt_wr (s : State) (f : Fld) (v i j n : Nat) : (s.wr f v i j).viewSt n = s.viewSt n := rfl
@[simp] theorem State.viewSt_set (s : State) (o : Nat) (w : Word) (n : Nat) : (s.set o w).viewSt n = s.viewSt n := rfl

@[simp] theorem State.setAx_pending (s : State) (n : Nat) (v : AxSt) : (s.setAx n v).pending = s.pending := rfl
@[simp] theorem State.setAx_regs (s : State) (n : Nat) (v : AxSt) : (s.setAx n v).regs = s.regs := rfl
@[simp] theorem State.setAx_dram (s : State) (n : Nat) (v : AxSt) : (s.setAx n v).dram = s.dram := rfl
@[simp] theorem State.setAx_outs (s : State) (n : Nat) (v : AxSt) : (s.setAx n v).outs = s.outs := rfl
@[simp] theorem State.setAx_vecReq (s : State) (n : Nat) (v : AxSt) : (s.setAx n v).vecReq = s.vecReq := rfl
@[simp] theorem State.get_setAx (s : State) (n : Nat) (v : AxSt) (k : Nat) : (s.setAx n v).get k = s.get k := rfl
@[simp] theorem State.rd_setAx (s : State) (n : Nat) (v : AxSt) (f : Fld) (i j : Nat) : (s.setAx n v).rd f i j = s.rd f i j := rfl
@[simp] theorem State.flag_setAx (s : State) (n : Nat) (v : AxSt) (f : Fld) (i j : Nat) : (s.setAx n v).flag f i j = s.flag f i j := rfl
@[simp] theorem State.ax_setAx (s : State) (n : Nat) (v : AxSt) : (s.setAx n v).ax n = v := kvGet_kvSet_same _ _ _ _
theorem State.ax_setAx_ne (s : State) (n : Nat) (v : AxSt) {m : Nat} (h : m ≠ n) : (s.setAx n v).ax m = s.ax m := kvGet_kvSet_ne _ _ _ h
@[simp] theorem State.ax_wr (s : State) (f : Fld) (v i j n : Nat) : (s.wr f v i j).ax n = s.ax n := rfl
@[simp] theorem State.ax_set (s : State) (o : Nat) (w : Word) (n : Nat) : (s.set o w).ax n = s.ax n := rfl

@[simp] theorem State.setCoilSt_pending (s : State) (n : Nat) (v : CoilSt) : (s.setCoilSt n v).pending = s.pending := rfl
@[simp] theorem State.setCoilSt_regs (s : State) (n : Nat) (v : CoilSt) : (s.setCoilSt n v).regs = s.regs := rfl
@[simp] theorem State.setCoilSt_dram (s : State) (n : Nat) (v : CoilSt) : (s.setCoilSt n v).dram = s.dram := rfl
@[simp] theorem State.setCoilSt_outs (s : State) (n : Nat) (v : CoilSt) : (s.setCoilSt n v).outs = s.outs := rfl
@[simp] theorem State.setCoilSt_vecReq (s : State) (n : Nat) (v : CoilSt) : (s.setCoilSt n v).vecReq = s.vecReq := rfl
@[simp] theorem State.get_setCoilSt (s : State) (n : Nat) (v : CoilSt) (k : Nat) : (s.setCoilSt n v).get k = s.get k := rfl
@[simp] theorem State.rd_setCoilSt (s : State) (n : Nat) (v : CoilSt) (f : Fld) (i j : Nat) : (s.setCoilSt n v).rd f i j = s.rd f i j := rfl
@[simp] theorem State.flag_setCoilSt (s : State) (n : Nat) (v : CoilSt) (f : Fld) (i j : Nat) : (s.setCoilSt n v).flag f i j = s.flag f i j := rfl
@[simp] theorem State.coilSt_setCoilSt (s : State) (n : Nat) (v : CoilSt) : (s.setCoilSt n v).coilSt n = v := kvGet_kvSet_same _ _ _ _
theorem State.coilSt_setCoilSt_ne (s : State) (n : Nat) (v : CoilSt) {m : Nat} (h : m ≠ n) : (s.setCoilSt n v).coilSt m = s.coilSt m := kvGet_kvSet_ne _ _ _ h
@[simp] theorem State.coilSt_wr (s : State) (f : Fld) (v i j n : Nat) : (s.wr f v i j).coilSt n = s.coilSt n := rfl
@[simp] theorem State.coilSt_set (s : State) (o : Nat) (w : Word) (n : Nat) : (s.set o w).coilSt n = s.coilSt n := rfl

@[simp] theorem State.setPaceSt_pending (s : State) (n : Nat) (v : PaceSt) : (s.setPaceSt n v).pending = s.pending := rfl
@[simp] theorem State.setPaceSt_regs (s : State) (n : Nat) (v : PaceSt) : (s.setPaceSt n v).regs = s.regs := rfl
@[simp] theorem State.setPaceSt_dram (s : State) (n : Nat) (v : PaceSt) : (s.setPaceSt n v).dram = s.dram := rfl
@[simp] theorem State.setPaceSt_outs (s : State) (n : Nat) (v : PaceSt) : (s.setPaceSt n v).outs = s.outs := rfl
@[simp] theorem State.setPaceSt_vecReq (s : State) (n : Nat) (v : PaceSt) : (s.setPaceSt n v).vecReq = s.vecReq := rfl
@[simp] theorem State.get_setPaceSt (s : State) (n : Nat) (v : PaceSt) (k : Nat) : (s.setPaceSt n v).get k = s.get k := rfl
@[simp] theorem State.rd_setPaceSt (s : State) (n : Nat) (v : PaceSt) (f : Fld) (i j : Nat) : (s.setPaceSt n v).rd f i j = s.rd f i j := rfl
@[simp] theorem State.flag_setPaceSt (s : State) (n : Nat) (v : PaceSt) (f : Fld) (i j : Nat) : (s.setPaceSt n v).flag f i j = s.flag f i j := rfl
@[simp] theorem State.paceSt_setPaceSt (s : State) (n : Nat) (v : PaceSt) : (s.setPaceSt n v).paceSt n = v := kvGet_kvSet_same _ _ _ _
theorem State.paceSt_setPaceSt_ne (s : State) (n : Nat) (v : PaceSt) {m : Nat} (h : m ≠ n) : (s.setPaceSt n v).paceSt m = s.paceSt m := kvGet_kvSet_ne _ _ _ h
@[simp] theorem State.paceSt_wr (s : State) (f : Fld) (v i j n : Nat) : (s.wr f v i j).paceSt n = s.paceSt n := rfl
@[simp] theorem State.paceSt_set (s : State) (o : Nat) (w : Word) (n : Nat) : (s.set o w).paceSt n = s.paceSt n := rfl

@[simp] theorem State.setSinkSt_pending (s : State) (n : Nat) (v : SinkSt) : (s.setSinkSt n v).pending = s.pending := rfl
@[simp] theorem State.setSinkSt_regs (s : State) (n : Nat) (v : SinkSt) : (s.setSinkSt n v).regs = s.regs := rfl
@[simp] theorem State.setSinkSt_dram (s : State) (n : Nat) (v : SinkSt) : (s.setSinkSt n v).dram = s.dram := rfl
@[simp] theorem State.setSinkSt_outs (s : State) (n : Nat) (v : SinkSt) : (s.setSinkSt n v).outs = s.outs := rfl
@[simp] theorem State.setSinkSt_vecReq (s : State) (n : Nat) (v : SinkSt) : (s.setSinkSt n v).vecReq = s.vecReq := rfl
@[simp] theorem State.get_setSinkSt (s : State) (n : Nat) (v : SinkSt) (k : Nat) : (s.setSinkSt n v).get k = s.get k := rfl
@[simp] theorem State.rd_setSinkSt (s : State) (n : Nat) (v : SinkSt) (f : Fld) (i j : Nat) : (s.setSinkSt n v).rd f i j = s.rd f i j := rfl
@[simp] theorem State.flag_setSinkSt (s : State) (n : Nat) (v : SinkSt) (f : Fld) (i j : Nat) : (s.setSinkSt n v).flag f i j = s.flag f i j := rfl
@[simp] theorem State.sinkSt_setSinkSt (s : State) (n : Nat) (v : SinkSt) : (s.setSinkSt n v).sinkSt n = v := kvGet_kvSet_same _ _ _ _
theorem State.sinkSt_setSinkSt_ne (s : State) (n : Nat) (v : SinkSt) {m : Nat} (h : m ≠ n) : (s.setSinkSt n v).sinkSt m = s.sinkSt m := kvGet_kvSet_ne _ _ _ h
@[simp] theorem State.sinkSt_wr (s : State) (f : Fld) (v i j n : Nat) : (s.wr f v i j).sinkSt n = s.sinkSt n := rfl
@[simp] theorem State.sinkSt_set (s : State) (o : Nat) (w : Word) (n : Nat) : (s.set o w).sinkSt n = s.sinkSt n := rfl

@[simp] theorem State.setPeSt_pending (s : State) (n : Nat) (v : PeSt) : (s.setPeSt n v).pending = s.pending := rfl
@[simp] theorem State.setPeSt_regs (s : State) (n : Nat) (v : PeSt) : (s.setPeSt n v).regs = s.regs := rfl
@[simp] theorem State.setPeSt_dram (s : State) (n : Nat) (v : PeSt) : (s.setPeSt n v).dram = s.dram := rfl
@[simp] theorem State.setPeSt_outs (s : State) (n : Nat) (v : PeSt) : (s.setPeSt n v).outs = s.outs := rfl
@[simp] theorem State.setPeSt_vecReq (s : State) (n : Nat) (v : PeSt) : (s.setPeSt n v).vecReq = s.vecReq := rfl
@[simp] theorem State.get_setPeSt (s : State) (n : Nat) (v : PeSt) (k : Nat) : (s.setPeSt n v).get k = s.get k := rfl
@[simp] theorem State.rd_setPeSt (s : State) (n : Nat) (v : PeSt) (f : Fld) (i j : Nat) : (s.setPeSt n v).rd f i j = s.rd f i j := rfl
@[simp] theorem State.flag_setPeSt (s : State) (n : Nat) (v : PeSt) (f : Fld) (i j : Nat) : (s.setPeSt n v).flag f i j = s.flag f i j := rfl
@[simp] theorem State.peSt_setPeSt (s : State) (n : Nat) (v : PeSt) : (s.setPeSt n v).peSt n = v := kvGet_kvSet_same _ _ _ _
theorem State.peSt_setPeSt_ne (s : State) (n : Nat) (v : PeSt) {m : Nat} (h : m ≠ n) : (s.setPeSt n v).peSt m = s.peSt m := kvGet_kvSet_ne _ _ _ h
@[simp] theorem State.peSt_wr (s : State) (f : Fld) (v i j n : Nat) : (s.wr f v i j).peSt n = s.peSt n := rfl
@[simp] theorem State.peSt_set (s : State) (o : Nat) (w : Word) (n : Nat) : (s.set o w).peSt n = s.peSt n := rfl

@[simp] theorem State.setChainSt_pending (s : State) (n : Nat) (v : ChainSt) : (s.setChainSt n v).pending = s.pending := rfl
@[simp] theorem State.setChainSt_regs (s : State) (n : Nat) (v : ChainSt) : (s.setChainSt n v).regs = s.regs := rfl
@[simp] theorem State.setChainSt_dram (s : State) (n : Nat) (v : ChainSt) : (s.setChainSt n v).dram = s.dram := rfl
@[simp] theorem State.setChainSt_outs (s : State) (n : Nat) (v : ChainSt) : (s.setChainSt n v).outs = s.outs := rfl
@[simp] theorem State.setChainSt_vecReq (s : State) (n : Nat) (v : ChainSt) : (s.setChainSt n v).vecReq = s.vecReq := rfl
@[simp] theorem State.get_setChainSt (s : State) (n : Nat) (v : ChainSt) (k : Nat) : (s.setChainSt n v).get k = s.get k := rfl
@[simp] theorem State.rd_setChainSt (s : State) (n : Nat) (v : ChainSt) (f : Fld) (i j : Nat) : (s.setChainSt n v).rd f i j = s.rd f i j := rfl
@[simp] theorem State.flag_setChainSt (s : State) (n : Nat) (v : ChainSt) (f : Fld) (i j : Nat) : (s.setChainSt n v).flag f i j = s.flag f i j := rfl
@[simp] theorem State.chainSt_setChainSt (s : State) (n : Nat) (v : ChainSt) : (s.setChainSt n v).chainSt n = v := kvGet_kvSet_same _ _ _ _
theorem State.chainSt_setChainSt_ne (s : State) (n : Nat) (v : ChainSt) {m : Nat} (h : m ≠ n) : (s.setChainSt n v).chainSt m = s.chainSt m := kvGet_kvSet_ne _ _ _ h
@[simp] theorem State.chainSt_wr (s : State) (f : Fld) (v i j n : Nat) : (s.wr f v i j).chainSt n = s.chainSt n := rfl
@[simp] theorem State.chainSt_set (s : State) (o : Nat) (w : Word) (n : Nat) : (s.set o w).chainSt n = s.chainSt n := rfl

@[simp] theorem State.setSuSt_pending (s : State) (n : Nat) (v : SuSt) : (s.setSuSt n v).pending = s.pending := rfl
@[simp] theorem State.setSuSt_regs (s : State) (n : Nat) (v : SuSt) : (s.setSuSt n v).regs = s.regs := rfl
@[simp] theorem State.setSuSt_dram (s : State) (n : Nat) (v : SuSt) : (s.setSuSt n v).dram = s.dram := rfl
@[simp] theorem State.setSuSt_outs (s : State) (n : Nat) (v : SuSt) : (s.setSuSt n v).outs = s.outs := rfl
@[simp] theorem State.setSuSt_vecReq (s : State) (n : Nat) (v : SuSt) : (s.setSuSt n v).vecReq = s.vecReq := rfl
@[simp] theorem State.get_setSuSt (s : State) (n : Nat) (v : SuSt) (k : Nat) : (s.setSuSt n v).get k = s.get k := rfl
@[simp] theorem State.rd_setSuSt (s : State) (n : Nat) (v : SuSt) (f : Fld) (i j : Nat) : (s.setSuSt n v).rd f i j = s.rd f i j := rfl
@[simp] theorem State.flag_setSuSt (s : State) (n : Nat) (v : SuSt) (f : Fld) (i j : Nat) : (s.setSuSt n v).flag f i j = s.flag f i j := rfl
@[simp] theorem State.suSt_setSuSt (s : State) (n : Nat) (v : SuSt) : (s.setSuSt n v).suSt n = v := kvGet_kvSet_same _ _ _ _
theorem State.suSt_setSuSt_ne (s : State) (n : Nat) (v : SuSt) {m : Nat} (h : m ≠ n) : (s.setSuSt n v).suSt m = s.suSt m := kvGet_kvSet_ne _ _ _ h
@[simp] theorem State.suSt_wr (s : State) (f : Fld) (v i j n : Nat) : (s.wr f v i j).suSt n = s.suSt n := rfl
@[simp] theorem State.suSt_set (s : State) (o : Nat) (w : Word) (n : Nat) : (s.set o w).suSt n = s.suSt n := rfl

@[simp] theorem State.setCvSt_pending (s : State) (n : Nat) (v : CvSt) : (s.setCvSt n v).pending = s.pending := rfl
@[simp] theorem State.setCvSt_regs (s : State) (n : Nat) (v : CvSt) : (s.setCvSt n v).regs = s.regs := rfl
@[simp] theorem State.setCvSt_dram (s : State) (n : Nat) (v : CvSt) : (s.setCvSt n v).dram = s.dram := rfl
@[simp] theorem State.setCvSt_outs (s : State) (n : Nat) (v : CvSt) : (s.setCvSt n v).outs = s.outs := rfl
@[simp] theorem State.setCvSt_vecReq (s : State) (n : Nat) (v : CvSt) : (s.setCvSt n v).vecReq = s.vecReq := rfl
@[simp] theorem State.get_setCvSt (s : State) (n : Nat) (v : CvSt) (k : Nat) : (s.setCvSt n v).get k = s.get k := rfl
@[simp] theorem State.rd_setCvSt (s : State) (n : Nat) (v : CvSt) (f : Fld) (i j : Nat) : (s.setCvSt n v).rd f i j = s.rd f i j := rfl
@[simp] theorem State.flag_setCvSt (s : State) (n : Nat) (v : CvSt) (f : Fld) (i j : Nat) : (s.setCvSt n v).flag f i j = s.flag f i j := rfl
@[simp] theorem State.cvSt_setCvSt (s : State) (n : Nat) (v : CvSt) : (s.setCvSt n v).cvSt n = v := kvGet_kvSet_same _ _ _ _
theorem State.cvSt_setCvSt_ne (s : State) (n : Nat) (v : CvSt) {m : Nat} (h : m ≠ n) : (s.setCvSt n v).cvSt m = s.cvSt m := kvGet_kvSet_ne _ _ _ h
@[simp] theorem State.cvSt_wr (s : State) (f : Fld) (v i j n : Nat) : (s.wr f v i j).cvSt n = s.cvSt n := rfl
@[simp] theorem State.cvSt_set (s : State) (o : Nat) (w : Word) (n : Nat) : (s.set o w).cvSt n = s.cvSt n := rfl

/-! ### DRAM (R31) -/

@[simp] theorem State.byte_setByte (s : State) (a : Nat) (b : Byte) : (s.setByte a b).byte a = b := kvGet_kvSet_same _ _ _ _
theorem State.byte_setByte_ne (s : State) (a : Nat) (b : Byte) {c : Nat} (h : c ≠ a) : (s.setByte a b).byte c = s.byte c :=
  kvGet_kvSet_ne _ _ _ h
@[simp] theorem State.byte_set (s : State) (o : Nat) (w : Word) (a : Nat) : (s.set o w).byte a = s.byte a := rfl
@[simp] theorem State.byte_wr (s : State) (f : Fld) (v i j a : Nat) : (s.wr f v i j).byte a = s.byte a := rfl

/-- A DRAM write keeps the canonical form. -/
theorem State.setByte_wf (s : State) (a : Nat) (b : Byte) (h : Memory.wf s.dram = true) : Memory.wf (s.setByte a b).dram = true :=
  kvCanon_kvSet _ _ _ _ h

/-- A register write keeps the canonical form. -/
theorem State.set_canon (s : State) (o : Nat) (w : Word) (h : kvCanon regReset s.regs = true) :
    kvCanon regReset (s.set o w).regs = true := kvCanon_kvSet _ _ _ _ h

/-- Memory and registers are canonical at reset. -/
theorem State.reset_wf : Memory.wf State.reset.dram = true ∧ kvCanon regReset State.reset.regs = true := ⟨rfl, rfl⟩

/-! ### Registers (R4, R5) -/

@[simp] theorem State.get_set_same (s : State) (o : Nat) (w : Word) : (s.set o w).get o = w := kvGet_kvSet_same _ _ _ _
theorem State.get_set_ne (s : State) {o k : Nat} (w : Word) (h : k ≠ o) : (s.set o w).get k = s.get k := kvGet_kvSet_ne _ _ _ h
theorem State.get_set (s : State) (o k : Nat) (w : Word) : (s.set o w).get k = if k = o then w else s.get k := kvGet_kvSet _ _ _ _ _

theorem State.get_wr_ne (s : State) (f : Fld) (v i j : Nat) {k : Nat} (h : k ≠ f.off i j) : (s.wr f v i j).get k = s.get k :=
  State.get_set_ne s _ h

theorem State.rd_set_ne (s : State) {o : Nat} (w : Word) (f : Fld) (i j : Nat) (h : f.off i j ≠ o) : (s.set o w).rd f i j = s.rd f i j := by
  simp only [State.rd, State.get_set_ne s w h]

/-- A field of another register keeps its value. -/
theorem State.rd_wr_ne (s : State) (f : Fld) (v i j : Nat) (g : Fld) (k l : Nat) (h : g.off k l ≠ f.off i j) :
    (s.wr f v i j).rd g k l = s.rd g k l := State.rd_set_ne s _ g k l h

/-- A field reads the value written, cut to its width. -/
theorem State.rd_wr_same (s : State) (f : Fld) (v i j : Nat) (h : f.lo + f.w ≤ 32) : (s.wr f v i j).rd f i j = v % 2 ^ f.w := by
  simp only [State.rd, State.wr, State.get_set_same, BitVec.toNat_ofNat, bitsOf_mod_word _ _ _ h, bitsOf_setBits_same]

/-- A field of the same register apart from the one written keeps its value. -/
theorem State.rd_wr_apart (s : State) (f : Fld) (v i j : Nat) (g : Fld) (k l : Nat) (hg : g.lo + g.w ≤ 32)
    (h : g.lo + g.w ≤ f.lo ∨ f.lo + f.w ≤ g.lo) : (s.wr f v i j).rd g k l = s.rd g k l := by
  by_cases ho : g.off k l = f.off i j
  · simp only [State.rd, State.wr, ho, State.get_set_same, BitVec.toNat_ofNat, bitsOf_mod_word _ _ _ hg, bitsOf_setBits_apart _ _ _ _ _ _ h]
  · exact State.rd_wr_ne s f v i j g k l ho

theorem State.rd_lt (s : State) (f : Fld) (i j : Nat) : s.rd f i j < 2 ^ f.w := bitsOf_lt _ _ _

theorem State.flag_eq (s : State) (f : Fld) (i j : Nat) : s.flag f i j = (s.rd f i j != 0) := rfl

end Sys2Proof.Machine
end

