-- ==== Sys2Proof/Laws/Lines.lean ====
section
/-! SUPPORT. What the end of a command can do (`finish`): the bits it may change, and the lines at rest after it. -/

namespace Sys2Proof.Safety

open Sys2Proof.Machine

/-! ### `Keeps` -/

theorem Keeps.refl (mask : Nat → Nat) (s : State) : Keeps mask s s := ⟨fun _ _ _ => rfl, rfl⟩

theorem Keeps.trans {mask : Nat → Nat} {s t u : State} (h : Keeps mask s t) (k : Keeps mask t u) : Keeps mask s u := by
  refine ⟨fun off b hb => (k.regs off b hb).trans (h.regs off b hb), ?_⟩
  have h1 := h.rest
  have h2 := k.rest
  rw [← h1, ← h2]

/-- The bits of field `f` lie within `mask`. -/
def Covers (mask : Nat → Nat) (f : Fld) (i j : Nat) : Prop := ∀ k, k < f.w → (mask (f.off i j)).testBit (f.lo + k) = true

theorem Keeps.set (mask : Nat → Nat) (s : State) (o : Nat) (w : Word)
    (h : ∀ b, (mask o).testBit b = false → w.getLsbD b = (s.get o).getLsbD b) : Keeps mask s (s.set o w) := by
  refine ⟨fun off b hb => ?_, rfl⟩
  by_cases ho : off = o
  · subst ho; rw [State.get_set_same]; exact h b hb
  · rw [State.get_set_ne s w ho]

theorem Keeps.wr (mask : Nat → Nat) (s : State) (f : Fld) (v i j : Nat) (h : Covers mask f i j) : Keeps mask s (s.wr f v i j) := by
  refine Keeps.set mask s _ _ fun b hb => ?_
  rw [BitVec.getLsbD_ofNat, setBits_testBit]
  have out : ¬ (f.lo ≤ b ∧ b < f.lo + f.w) := by
    intro ⟨h1, h2⟩
    have := h (b - f.lo) (by omega)
    rw [show f.lo + (b - f.lo) = b by omega, hb] at this
    exact absurd this (by simp)
  by_cases h32 : b < 32
  · have e : (if b < f.lo then (s.get (f.off i j)).toNat.testBit b else
        if b < f.lo + f.w then v.testBit (b - f.lo) else (s.get (f.off i j)).toNat.testBit b)
        = (s.get (f.off i j)).toNat.testBit b := by
      by_cases h1 : b < f.lo
      · simp [h1]
      · have h2 : ¬ b < f.lo + f.w := by omega
        simp [h1, h2]
    rw [e]; simp [h32, BitVec.getLsbD]
  · have := BitVec.getLsbD_of_ge (s.get (f.off i j)) b (by omega)
    simp [h32, this]

/-- A change of the running state of the emitter, the histograms or the fixes, of the outputs or of the messages asked. -/
theorem Keeps.of_eq (mask : Nat → Nat) (s t : State) (hr : t.regs = s.regs)
    (h : { t with regs := s.regs, outs := s.outs, vecReq := s.vecReq, raised := s.raised, ringSeq := s.ringSeq, rge := s.rge, rgh := s.rgh, fix := s.fix } = s) :
    Keeps mask s t :=
  ⟨fun _ _ _ => by simp only [State.get, hr], h⟩

theorem Keeps.forEach {α : Type} {mask : Nat → Nat} {l : List α} {f : State → α → State} (h : ∀ s a, Keeps mask s (f s a)) (s : State) :
    Keeps mask s (forEach l s f) := by
  induction l generalizing s with
  | nil => exact Keeps.refl mask s
  | cons a t ih => exact (h s a).trans (ih (f s a))

theorem Keeps.ite {mask : Nat → Nat} {s t u : State} {c : Prop} [Decidable c] (h : Keeps mask s t) (k : Keeps mask s u) :
    Keeps mask s (if c then t else u) := by by_cases hc : c <;> simp [hc, h, k]

/-- A field whose bits lie outside the mask keeps its value. -/
theorem Keeps.rd {mask : Nat → Nat} {s t : State} (h : Keeps mask s t) (f : Fld) (i j : Nat)
    (hm : ∀ k, k < f.w → (mask (f.off i j)).testBit (f.lo + k) = false) : t.rd f i j = s.rd f i j := by
  apply Nat.eq_of_testBit_eq
  intro b
  simp only [State.rd, bitsOf_testBit]
  by_cases hb : b < f.w
  · have := h.regs (f.off i j) (f.lo + b) (hm b hb)
    simp only [BitVec.getLsbD] at this
    simp [hb, this]
  · simp [hb]

/-- A register outside the mask keeps its value. -/
theorem Keeps.get {mask : Nat → Nat} {s t : State} (h : Keeps mask s t) (off : Nat) (hm : mask off = 0) : t.get off = s.get off := by
  apply BitVec.eq_of_getLsbD_eq
  intro b _
  exact h.regs off b (by simp [hm])

theorem Keeps.flag {mask : Nat → Nat} {s t : State} (h : Keeps mask s t) (f : Fld) (i j : Nat)
    (hm : ∀ k, k < f.w → (mask (f.off i j)).testBit (f.lo + k) = false) : t.flag f i j = s.flag f i j := by
  simp only [State.flag, h.rd f i j hm]

theorem Keeps.dram {mask : Nat → Nat} {s t : State} (h : Keeps mask s t) : t.dram = s.dram := by
  have := congrArg State.dram h.rest; exact this

/-! ### Raises -/

theorem keeps_raise {mask : Nat → Nat} (s : State) (n : Nat) (hc : Covers mask EVT_CNT n 0)
    (hp : (mask (EVT_PEND.off (n / 32) 0)).testBit (n % 32) = true) : Keeps mask s (raise s n) := by
  unfold raise
  have h1 : Keeps mask s (s.bump EVT_CNT n) := Keeps.wr mask s _ _ _ _ hc
  have h2 : ∀ t : State, Keeps mask t (t.setBit EVT_PEND (n % 32) (n / 32)) := by
    intro t
    refine Keeps.set mask t _ _ fun b hb => ?_
    rw [BitVec.getLsbD_ofNat, setBits_testBit]
    have hne : b ≠ n % 32 := by intro e; subst e; rw [hp] at hb; exact absurd hb (by simp)
    by_cases h32 : b < 32
    · have e1 : EVT_PEND.lo = 0 := rfl
      have e2 : EVT_PEND.w = 32 := rfl
      simp only [e1, e2, Nat.not_lt_zero, if_false, Nat.zero_add, h32, if_true, Nat.sub_zero, Nat.testBit_or, State.rd, bitsOf_testBit,
        decide_true, Bool.true_and]
      have : (2 ^ (n % 32)).testBit b = false := by rw [Nat.testBit_two_pow]; simp [Ne.symm hne]
      simp [this, BitVec.getLsbD]
    · have := BitVec.getLsbD_of_ge (t.get (EVT_PEND.off (n / 32) 0)) b (by omega)
      simp [h32, this]
  have h3 : ∀ t : State, Keeps mask t (askVector t n) := by
    intro t; unfold askVector
    exact Keeps.ite (Keeps.of_eq mask t _ rfl rfl) (Keeps.refl mask t)
  have h4 : ∀ t : State, Keeps mask t (forwardEvent t n) := by
    intro t; unfold forwardEvent
    exact Keeps.ite (Keeps.of_eq mask t _ rfl rfl) (Keeps.refl mask t)
  have h5 : ∀ t : State, Keeps mask t { t with raised := n :: t.raised } := fun t => Keeps.of_eq mask t _ rfl rfl
  exact (((h1.trans (h2 _)).trans (h5 _)).trans (h3 _)).trans (h4 _)

theorem keeps_raiseIf {mask : Nat → Nat} (s : State) (b : Bool) (n : Nat) (hc : Covers mask EVT_CNT n 0)
    (hp : (mask (EVT_PEND.off (n / 32) 0)).testBit (n % 32) = true) : Keeps mask s (raiseIf s b n) :=
  Keeps.ite (keeps_raise s n hc hp) (Keeps.refl mask s)

/-! ### What `settle` and the messages do -/

theorem keeps_clearPhase (s : State) (b k : Nat) : Keeps settleMask s (clearPhase s b k) := by
  refine ⟨fun off i hi => ?_, rfl⟩
  by_cases h : off < 0x1800000
  · have hp : (fun o => !(decide (0x1800000 + b * 0x100000 + k * 0x40000 ≤ o) && decide (o < 0x1800000 + b * 0x100000 + k * 0x40000 + 0x40000))) off = true := by
      simp; omega
    have := kvGet_filter regReset s.regs (fun o => !(decide (0x1800000 + b * 0x100000 + k * 0x40000 ≤ o) &&
      decide (o < 0x1800000 + b * 0x100000 + k * 0x40000 + 0x40000))) off hp
    exact congrArg (fun w => w.getLsbD i) this
  · by_cases h32 : i < 32
    · exfalso
      have hm : settleMask off = 0xFFFFFFFF := by
        unfold settleMask
        repeat rw [if_neg (by omega)]
        exact if_pos (by omega)
      rw [hm, show (0xFFFFFFFF : Nat) = 2 ^ 32 - 1 from rfl, Nat.testBit_two_pow_sub_one] at hi
      simp [h32] at hi
    · rw [BitVec.getLsbD_of_ge _ _ (by omega), BitVec.getLsbD_of_ge _ _ (by omega)]

/-- The covered fields, each by evaluation. -/
theorem covers_event {n : Nat} (h : n = 114 ∨ n = 117 ∨ n = 118 ∨ n = 166) :
    Covers settleMask EVT_CNT n 0 ∧ (settleMask (EVT_PEND.off (n / 32) 0)).testBit (n % 32) = true := by
  rcases h with h | h | h | h <;> subst h <;> exact ⟨by unfold Covers; decide, by decide⟩

theorem keeps_lineRaise (s : State) {n : Nat} (h : n = 114 ∨ n = 117 ∨ n = 118 ∨ n = 166) : Keeps settleMask s (raise s n) :=
  keeps_raise s n (covers_event h).1 (covers_event h).2

theorem keeps_updFamily (s : State) : Keeps settleMask s (updFamily s) := by
  unfold updFamily
  refine Keeps.ite (Keeps.of_eq _ _ _ rfl rfl) ?_
  have h0 : ∀ (s : State) (r : RgeSt), Keeps settleMask s { s with rge := r } := fun s r => Keeps.of_eq _ _ _ rfl rfl
  have h1 : ∀ (s : State) v, Keeps settleMask s (s.wr RGE_CODE_FAMILY v) := fun s v => Keeps.wr _ s _ _ _ _ (by unfold Covers; decide)
  have h2 : ∀ (s : State) v, Keeps settleMask s (s.wr RGE_CODE_FALLBACK v) := fun s v => Keeps.wr _ s _ _ _ _ (by unfold Covers; decide)
  exact (((h0 s _).trans ((h1 _ _).trans (h2 _ _))).trans (Keeps.ite (h0 _ _) (Keeps.refl _ _))).trans
    (Keeps.ite (keeps_lineRaise _ (by decide)) (Keeps.refl _ _))

theorem keeps_takeTables (s : State) : Keeps settleMask s (takeTables s) :=
  (Keeps.forEach (f := takeTable) (fun _ _ => Keeps.of_eq _ _ _ rfl rfl) s).trans (Keeps.of_eq _ _ _ rfl rfl)

theorem keeps_betweenFrames (s : State) : Keeps settleMask s (betweenFrames s) :=
  (Keeps.ite (Keeps.refl _ _) (keeps_takeTables s)).trans (Keeps.ite (keeps_updFamily _) (Keeps.refl _ _))

theorem keeps_abortFrame (s : State) : Keeps settleMask s (abortFrame s) := by
  unfold abortFrame
  split
  · exact Keeps.refl _ _
  · rename_i f _
    have h1 : Keeps settleMask s (if f.delivered then s else forEach f.phases s fun s p => clearPhase s f.buf p.code) :=
      Keeps.ite (Keeps.refl _ _) (Keeps.forEach (fun s p => keeps_clearPhase s _ _) s)
    have w1 : ∀ (s : State) v, Keeps settleMask s (s.wr RGE_STAT_BUSY v) := fun s v => Keeps.wr _ s _ _ _ _ (by unfold Covers; decide)
    have w2 : ∀ (s : State) v, Keeps settleMask s (s.wr RGE_STAT_ABORTED v) := fun s v => Keeps.wr _ s _ _ _ _ (by unfold Covers; decide)
    have w3 : ∀ (s : State) v, Keeps settleMask s (s.wr RGH_STAT_PASS v) := fun s v => Keeps.wr _ s _ _ _ _ (by unfold Covers; decide)
    have w4 : ∀ (s : State) v, Keeps settleMask s (s.wr RGH_STAT_BUSY v) := fun s v => Keeps.wr _ s _ _ _ _ (by unfold Covers; decide)
    have h0 : ∀ (s : State) r q, Keeps settleMask s { s with rge := r, rgh := q } := fun s r q => Keeps.of_eq _ _ _ rfl rfl
    exact (((((h1.trans (w1 _ _)).trans (w2 _ _)).trans (w3 _ _)).trans (w4 _ _)).trans (h0 _ _ _)).trans (keeps_betweenFrames _)

theorem keeps_disarmEmitter (s : State) : Keeps settleMask s (disarmEmitter s) := by
  unfold disarmEmitter
  have w : ∀ (s : State) v, Keeps settleMask s (s.wr RGE_STAT_ARMED v) := fun s v => Keeps.wr _ s _ _ _ _ (by unfold Covers; decide)
  have h : ∀ (s : State) r, Keeps settleMask s { s with rge := r } := fun s r => Keeps.of_eq _ _ _ rfl rfl
  exact Keeps.ite ((((keeps_abortFrame s).trans (w _ _)).trans (h _ _)).trans (keeps_lineRaise _ (by decide))) (Keeps.refl _ _)

theorem keeps_stopEmitter (s : State) : Keeps settleMask s (stopEmitter s RGE_STAT_INHIBIT_TRIP 114) :=
  ((keeps_disarmEmitter s).trans (Keeps.wr _ _ _ _ _ _ (by unfold Covers; decide))).trans (keeps_lineRaise _ (by decide))

theorem keeps_rstat (s : State) (v g : Nat) (h : g < 4) : Keeps settleMask s (s.wr EVT_RSTAT_BITS v g) := by
  refine Keeps.wr _ s _ _ _ _ fun k hk => ?_
  have : g = 0 ∨ g = 1 ∨ g = 2 ∨ g = 3 := by omega
  have hk' : k < 16 := hk
  have e : settleMask (EVT_RSTAT_BITS.off g 0) = 2 ^ 32 - 1 := by
    rcases this with h | h | h | h <;> subst h <;> decide
  rw [e, Nat.testBit_two_pow_sub_one]
  have : EVT_RSTAT_BITS.lo = 0 := rfl
  simp [this]; omega

theorem Keeps.forEach_mem {α : Type} {mask : Nat → Nat} {l : List α} {f : State → α → State} (h : ∀ s, ∀ a ∈ l, Keeps mask s (f s a))
    (s : State) : Keeps mask s (Machine.forEach l s f) := by
  induction l generalizing s with
  | nil => exact Keeps.refl mask s
  | cons a t ih => exact (h s a (List.mem_cons_self ..)).trans (ih (fun s b hb => h s b (List.mem_cons_of_mem _ hb)) (f s a))

theorem keeps_updMatrix (s : State) : Keeps settleMask s (updMatrix s) := by
  unfold updMatrix
  have w : ∀ (s : State) v, Keeps settleMask s (s.wr EVT_HAL_STAT_MATRIX v) := fun s v => Keeps.wr _ s _ _ _ _ (by unfold Covers; decide)
  refine Keeps.ite (Keeps.refl _ _) (Keeps.ite ?_ (Keeps.ite (Keeps.refl _ _) ?_))
  · exact (w s 0).trans (Keeps.forEach_mem (fun s g hg => keeps_rstat s _ g (List.mem_range.mp hg)) _)
  · exact (w s _).trans (Keeps.forEach_mem (fun s g hg => keeps_rstat s _ g (List.mem_range.mp hg)) _)

theorem keeps_updSafe (s : State) : Keeps settleMask s (updSafe s) := by
  unfold updSafe
  refine Keeps.ite (Keeps.forEach (fun s t => Keeps.ite ?_ (Keeps.refl _ _)) s) (Keeps.refl _ _)
  exact Keeps.wr _ s _ _ _ _ (by unfold Covers; decide)

theorem keeps_updLevels (s : State) : Keeps settleMask s (updLevels s) :=
  Keeps.wr _ s _ _ _ _ (by unfold Covers; decide)

theorem keeps_actOnLines (s : State) : Keeps settleMask s (actOnLines s) := by
  unfold actOnLines
  have w1 : ∀ (s : State) v, Keeps settleMask s (s.wr RGE_STAT_INHIBIT_IN v) := fun s v => Keeps.wr _ s _ _ _ _ (by unfold Covers; decide)
  have w2 : ∀ (s : State) v, Keeps settleMask s (s.wr ILU_STAT_LAMP_TRIP v) := fun s v => Keeps.wr _ s _ _ _ _ (by unfold Covers; decide)
  have h : ∀ (s : State) r, Keeps settleMask s { s with rge := r } := fun s r => Keeps.of_eq _ _ _ rfl rfl
  exact (((w1 s _).trans (h _ _)).trans (Keeps.ite (keeps_stopEmitter _) (Keeps.refl _ _))).trans
    (Keeps.ite ((w2 _ _).trans (keeps_lineRaise _ (by decide))) (Keeps.refl _ _))

theorem keeps_linesRound (s : State) : Keeps settleMask s (linesRound s) :=
  (((keeps_updSafe s).trans (keeps_updMatrix _)).trans (keeps_updLevels _)).trans (keeps_actOnLines _)

theorem keeps_settle (s : State) : Keeps settleMask s (settle s) :=
  ((keeps_linesRound s).trans (keeps_linesRound _)).trans (keeps_linesRound _)

theorem settleMask_vstat {v : Nat} (h : v < 64) : settleMask (0xD00500 + 4 * v) = 2 ^ 32 - 1 := by
  unfold settleMask
  repeat rw [if_neg (by omega)]
  exact if_pos (by omega)

theorem settleMask_pba {k : Nat} (h : k < 2) : settleMask (0x1109000 + 4 * k) = 2 ^ 32 - 1 := by
  have : k = 0 ∨ k = 1 := by omega
  rcases this with h | h <;> subst h <;> decide

theorem keeps_vstat (s : State) (f : Fld) (n v : Nat) (h : v < 64) (hb : f.base = 0xD00500) (h1 : f.s1 = 4) (h2 : f.s2 = 0)
    (hw : f.lo + f.w ≤ 32) : Keeps settleMask s (s.wr f n v) := by
  refine Keeps.wr _ s _ _ _ _ fun k hk => ?_
  rw [show f.off v 0 = 0xD00500 + 4 * v by simp [Fld.off, hb, h1, h2, Nat.mul_comm], settleMask_vstat h, Nat.testBit_two_pow_sub_one]
  simp; omega

theorem keeps_sendVector (s : State) (v : Nat) (h : v < 64) : Keeps settleMask s (sendVector s v) := by
  unfold sendVector
  refine Keeps.ite (keeps_vstat s _ _ v h rfl rfl rfl (by decide)) (Keeps.ite ?_ ?_)
  · unfold setPba
    refine Keeps.set _ s _ _ fun b hb => ?_
    rw [settleMask_pba (by omega), Nat.testBit_two_pow_sub_one] at hb
    have : 32 ≤ b := by simpa using hb
    rw [BitVec.getLsbD_of_ge _ _ this, BitVec.getLsbD_of_ge _ _ this]
  · unfold emitMsix
    have h1 : ∀ (s : State) o, Keeps settleMask s (s.out o) := fun s o => Keeps.of_eq _ _ _ rfl rfl
    exact ((h1 s _).trans (keeps_vstat _ _ _ v h rfl rfl rfl (by decide))).trans
      (Keeps.ite (Keeps.refl _ _) (keeps_vstat _ _ _ v h rfl rfl rfl (by decide)))

theorem keeps_flushVectors (s : State) : Keeps settleMask s (flushVectors s) := by
  unfold flushVectors
  have h : Keeps settleMask s { s with vecReq := [] } := Keeps.of_eq _ _ _ rfl rfl
  exact h.trans (Keeps.forEach (fun s v => keeps_sendVector s _ (Nat.mod_lt _ (by decide))) _)

/-- What the end of a command can do: nothing beyond `settleMask`, the outputs, the messages asked, and the running state of the
emitter, the histograms and the fixes. -/
theorem finish_keeps (s : State) : Keeps settleMask s (finish s) :=
  ((keeps_settle s).trans (keeps_flushVectors _)).trans (Keeps.of_eq _ _ _ rfl rfl)

/-- A field that no line or message touches keeps its value at the end of a command. -/
theorem rd_finish (s : State) (f : Fld) (i j : Nat) (hm : ∀ k, k < f.w → (settleMask (f.off i j)).testBit (f.lo + k) = false) :
    (finish s).rd f i j = s.rd f i j := (finish_keeps s).rd f i j hm

theorem get_finish (s : State) (off : Nat) (h : settleMask off = 0) : (finish s).get off = s.get off := (finish_keeps s).get off h

end Sys2Proof.Safety
end

