-- ==== Sys2Proof/Laws/Xmss.lean ====
section
/-! SUPPORT. The lengths of hashes, nodes and signatures (spec/21_security.md, R419). -/

namespace Sys2Proof.Machine

@[simp] theorem beBytes_length (n v : Nat) : (beBytes n v).length = n := by simp [beBytes]

@[simp] theorem shake256_length (l : List Byte) : (shake256 l).length = 32 := by simp [shake256]

@[simp] theorem xmssHash_length (k : Nat) (key msg : List Byte) : (xmssHash k key msg).length = 32 := by simp [xmssHash]

@[simp] theorem randHash_length (seed : List Byte) (ty a b c : Nat) (l r : List Byte) : (randHash seed ty a b c l r).length = 32 := by
  simp [randHash]

/-- A chain keeps the length of its nodes. -/
theorem wotsChain_length (seed : List Byte) (ots c n i : Nat) (x : List Byte) (h : x.length = 32) :
    (wotsChain seed ots c n i x).length = 32 := by
  induction n generalizing i x with
  | zero => exact h
  | succ n ih => exact ih _ _ (xmssHash_length _ _ _)

/-- A message hash has 67 digits. -/
theorem wotsDigits_length (m : List Byte) (h : m.length = 32) : (wotsDigits m).length = 67 := by
  simp [wotsDigits, List.length_flatMap, List.map_const', h]

/-- Every node of a list has 32 bytes, and there is one. -/
def NodesOk (l : List (List Byte)) : Prop := l ≠ [] ∧ ∀ x ∈ l, x.length = 32

/-- Pairing keeps nodes of 32 bytes. -/
theorem pairNodes_ok (f : Nat → List Byte → List Byte → List Byte) (hf : ∀ i a b, (f i a b).length = 32) (i : Nat) (l : List (List Byte))
    (h : NodesOk l) : NodesOk (pairNodes f i l) := by
  have all : ∀ i l, (∀ x ∈ l, x.length = 32) → ∀ x ∈ pairNodes f i l, x.length = 32 := by
    intro i l
    induction i, l using pairNodes.induct with
    | case1 i a b t ih =>
      intro h x hx
      simp only [pairNodes, List.mem_cons] at hx
      rcases hx with rfl | hx
      · exact hf _ _ _
      · exact ih (fun y hy => h y (by simp [hy])) x hx
    | case2 i l hl => intro h x hx; rw [pairNodes] at hx <;> first | exact h x hx | exact hl
  refine ⟨?_, all i l h.2⟩
  match l, h.1 with
  | [_], _ => simp [pairNodes]
  | _ :: _ :: _, _ => simp [pairNodes]

/-- The root of an L-tree has 32 bytes. -/
theorem lTree_length (seed : List Byte) (ots : Nat) (pk : List (List Byte)) (h : NodesOk pk) : (lTree seed ots pk).length = 32 := by
  have fold : ∀ (ks : List Nat) (l : List (List Byte)), NodesOk l →
      NodesOk (ks.foldl (fun l h => pairNodes (randHash seed 1 ots h) 0 l) l) := by
    intro ks
    induction ks with
    | nil => intro l h; exact h
    | cons k ks ih => intro l h; exact ih _ (pairNodes_ok _ (fun _ _ _ => randHash_length ..) 0 l h)
  obtain ⟨ne, all⟩ := fold (List.range 7) pk h
  unfold lTree
  match e : (List.range 7).foldl (fun l h => pairNodes (randHash seed 1 ots h) 0 l) pk with
  | [] => exact absurd e ne
  | x :: t => exact all x (by rw [e]; simp)

/-- The identity's leaf has 32 bytes. -/
@[simp] theorem identityLeaf_length (i : Nat) : (identityLeaf i).length = 32 := by
  refine lTree_length _ _ _ ⟨by simp, fun x hx => ?_⟩
  obtain ⟨c, -, rfl⟩ := List.mem_map.1 hx
  exact wotsChain_length _ _ _ _ _ _ (by simp [identityStart, secretBytes])

@[simp] theorem identityNode_length (k i : Nat) : (identityNode k i).length = 32 := by
  cases k <;> simp [identityNode]

/-- An identity signature has 2,692 bytes (R419). -/
@[simp] theorem identitySign_length (i : Nat) (msg : List Byte) : (identitySign i msg).length = 2692 := by
  have chains : ∀ (l : List (Nat × Nat)), (l.flatMap fun d => wotsChain identitySeed i d.2 d.1 0 (identityStart i d.2)).length = 32 * l.length := by
    intro l
    induction l with
    | nil => rfl
    | cons d l ih =>
      simp only [List.flatMap_cons, List.length_append, ih, List.length_cons]
      rw [wotsChain_length _ _ _ _ _ _ (by simp [identityStart, secretBytes])]
      omega
  simp only [identitySign, List.length_append, chains, List.length_zipIdx, beBytes_length, xmssHash_length]
  rw [wotsDigits_length _ (by simp)]
  simp [List.length_flatMap, List.map_const']

end Sys2Proof.Machine
end

