-- ==== Sys2Proof/Tests/Slice0.lean ====
section
/-! SUPPORT. Small checks: ill-formed commands refused by `Instr.wf`, figures that the spec's own examples give, and, for each statement
with hypotheses, states and operands that meet them. -/

namespace Sys2Proof.Tests

open Sys2Proof Sys2Proof.Machine Sys2Proof.Safety

set_option Elab.async false

/-- The machine with panels loaded as `m` says. -/
def withPanels (m : Nat) : State := State.reset.wr GLB_PANEL_STAT_LOADED m

/-- The machine with every panel loaded. -/
def full : State := withPanels 0xFFFF

/-- `Instr.wf` refuses a term that breaks one of its checks, one for each check. -/
theorem test_illFormed_refused :
    (Instr.bar2Write 0 []).wf = false ∧ (Instr.bar2Write 0x3FFFFFFFF [1, 2]).wf = false ∧ (Instr.bar2Read 8 0).wf = false ∧
    (Instr.bar2Read 0x3FFFFFFFF 2).wf = false ∧ (Instr.encoderSample 0 true false false 7).wf = false ∧
    (Instr.switchEdge 1 true false 8).wf = false ∧ (Instr.axisEncoderEdge 3 true false 9).wf = false ∧ (Instr.mainsEdge 0).wf = false ∧
    (Instr.logFrame ⟨0, true, 0, 0, 0, 0⟩ 0 0 0 (List.replicate 21 ⟨false, 0⟩)).wf = false ∧
    (Instr.edgeFrame ⟨0, true, 0, 0, 0, 0⟩ 0 0 0 0 []).wf = false ∧
    (Instr.edgeFrame ⟨0, true, 0, 0, 0, 0⟩ 0 0 0 0 (List.replicate 32 ⟨2147483648, 0, 0⟩)).wf = false ∧
    (Instr.edgeFrame ⟨0, true, 0, 0, 0, 0⟩ 0 0 0 0 (List.replicate 32 ⟨0, 256, 0⟩)).wf = false ∧
    (Instr.edgeFrame ⟨0, true, 0, 0, 0, 0⟩ 0 0 0 0 (List.replicate 32 ⟨0, 0, 65536⟩)).wf = false ∧ (Instr.dramTrainingDone 0).wf = false ∧
    (Instr.calStepDone (.timing 100000 [])).wf = false ∧ (Instr.calStepDone (.ladder 5000000 [])).wf = false ∧
    (Instr.calStepDone (.excitation 10000000 5000000 [] [])).wf = false ∧ (Instr.calStepDone (.sinks 5000000 [])).wf = false ∧
    (Instr.calStepDone (.chopper 5000000 [])).wf = false := by
  decide +kernel

/-- The example of spec/03_log.md, "setting a 600 lpi pitch": past 20 ticks from the origin, line 5 stands at 21. -/
theorem test_pitch_600_lpi : firstAhead (4, 7, 30) 20 = (5, 21, 5) ∧ firstAhead (4, 7, 30) 126 = (30, 127, 0) := by decide +kernel

/-- The example of spec/05_line_correction.md, "one pixel through merge and shading": Y2 is 110,296. -/
theorem test_merge_one_pixel : (mergePixel 851968 4096 884736 110000 false false).1 = 110296 := by decide +kernel

/-- The example of spec/19_bridle_ring.md, "P on a 64-device ring": P is 13.12 µs. -/
theorem test_p_of_64_devices : presDelay true 63 (List.replicate 64 720) = 1312 := by decide +kernel

/-- Hits of one line: 4,096 in each step, none in the last 32 wide ones, and `n` pulses. -/
def evenHits (n : Nat) : LineHits := ⟨List.replicate 256 4096 ++ List.replicate 32 0, List.replicate 256 4096, List.replicate n (0, 0)⟩

/-- With 262,144 pulses they are a line's measurement. -/
theorem test_line_hits_wf (n : Nat) (h : n = 262144) : (evenHits n).wf = true := by
  simp only [LineHits.wf, evenHits, Bool.and_eq_true, beq_iff_eq, List.length_replicate]
  exact ⟨⟨⟨⟨by decide +kernel, by decide +kernel⟩, trivial⟩, by decide +kernel⟩, h⟩

/-- A measurement of TIMING may be well-formed. -/
theorem test_timing_wf (n : Nat) (h : n = 262144) :
    (CalMeasure.timing 100000 (List.replicate 5 (List.replicate 13 (evenHits n)))).wf = true := by
  simp [CalMeasure.wf, test_line_hits_wf n h]

/-- The hypotheses of the empty queue, at reset. -/
theorem witness_emptyQueue : State.reset.pending = [] ∧ (∀ cv < 2, (State.reset.cvSt cv).regRun = false) ∧
    (∀ x ∈ State.reset.sink, x.2.since = none ∧ x.2.awl = none) ∧ timingRef State.reset = true ∧
    (State.reset.elapsed + 5) / 1000000000 = State.reset.elapsed / 1000000000 := by decide

/-- A state whose lines are at rest and a step that completes. -/
theorem witness_linesAtRest : State.reset.rd EVT_HAL_STAT_LEVEL = 0 ∧ State.reset.rd EVT_HAL_STAT_MATRIX = 0 ∧
    State.reset.inhibited = false ∧ State.reset.lampLine = false ∧ (∃ t, step State.reset = .next t) :=
  ⟨rfl, rfl, rfl, rfl, ⟨_, rfl⟩⟩

/-- The machine in a load state. -/
def inLoad (k : Nat) : State := State.reset.wr HRN_STAT_STATE k

/-- An image with one section: panel `p`, no dependency, the payload words `ws`. -/
def sectionOf (p : Nat) (ws : List Nat) : List Byte :=
  let n := 4 * ws.length
  let pad := (n + 7) / 8 * 8
  List.replicate 14 0 ++ [1, 0] ++ List.replicate 12 0 ++ leBytes 4 (208 + pad) ++ List.replicate 96 0 ++ [0x50, BitVec.ofNat 8 p, 0, 0]
    ++ leBytes 4 (80 + pad) ++ List.replicate 52 0 ++ leBytes 4 n ++ List.replicate 16 0 ++ ws.flatMap (leBytes 4) ++ List.replicate (pad - n) 0

/-- An image with one section: `P13`, no dependency, one write of `CAL_REF_V`. -/
def oneSection : List Byte := sectionOf 13 [0x10F00008, 5000000, 0xF0000000]

/-- The hypotheses about the commands of `HRN_CMD`. -/
theorem witness_harnessCommands :
    loadState State.reset = 0 ∧ State.reset.hrn.resetting = none ∧
    (¬ (loadState (inLoad 1) = 0 ∨ loadState (inLoad 1) = 7) ∨ (inLoad 1).hrn.resetting.isSome = true) ∧
    (let s := { (inLoad 3).setBit GLB_PANEL_STAT_LOADED 7 with hrn := { State.reset.hrn with image := sectionOf 7 [0xF0000000] } }
     loadState s = 3 ∧ s.hrn.asked = [] ∧ calRunning s = false ∧ commitOrder s = [7] ∧ askedOnly.contains 7 = true ∧ s.quiesced 7 = false) ∧
    (let s := State.reset.setBit GLB_PANEL_STAT_LOADED 7
     loadState s = 0 ∧ s.hrn.resetting = none ∧ s.hrn.asked = [] ∧ calRunning s = false ∧ s.loaded 7 = true ∧ dependentsOf s [7] = [] ∧
       askedOnly.contains 7 = true ∧ s.quiesced 7 = false) ∧
    (loadState (inLoad 3) = 3 ∧ (∀ p < 16, (inLoad 3).loaded p = false) ∧ (inLoad 3).hrn.asked = [] ∧ calRunning (inLoad 3) = false) ∧
    (loadState (inLoad 2) = 2 ∧ (inLoad 2).hrn.boot = false) ∧
    (let s := { inLoad 1 with hrn := { State.reset.hrn with boot := true } }; loadState s = 1 ∧ s.hrn.boot = true) ∧
    ((∀ p < 16, State.reset.loaded p = false) ∧ State.reset.hrn.asked = [] ∧ calRunning State.reset = false) := by decide +kernel

/-- A load that has been fetched from nothing: its image fails verification. -/
theorem witness_verifyFails : ∃ e, loadState (inLoad 2) = 2 ∧ verifyImage (inLoad 2) [] 0 = some e := ⟨(1, none), by decide +kernel⟩

/-- The hypotheses about what happens to a load by itself. -/
theorem witness_loadEvents :
    (loadState (inLoad 1) = 1 ∧ (inLoad 1).hrn.src = 0 ∧ (inLoad 1).hrn.stageHi ≤ (inLoad 1).board.dramSize) ∧
    (let s := { inLoad 1 with hrn := { State.reset.hrn with stageHi := 0x400000001 } }
     loadState s = 1 ∧ s.hrn.src = 0 ∧ s.board.dramSize < s.hrn.stageHi ∧ s.hrn.boot = false) ∧
    (let s := { State.reset with hrn := { State.reset.hrn with asked := [13, 1] } }
     s.hrn.asked.contains 13 = true ∧ s.quiesced 13 = false ∧ atPoint s 13 = true ∧ s.hrn.order = [] ∧ s.hrn.asked.contains 1 = true ∧
       (waitsFor s).contains 1 = true ∧ s.quiesced 1 = false) ∧
    (let s := { State.reset with hrn := { State.reset.hrn with asked := [13], resetting := some 13 } }
     s.hrn.resetting = some 13 ∧ s.hrn.asked = [13] ∧ s.hrn.order = [] ∧ dependentsOf s [13] = [] ∧ s.quiesced 13 = false ∧
       atPoint s 13 = true ∧ inEntry s = false) ∧
    (let s := { inLoad 4 with hrn := { State.reset.hrn with asked := [13] } }
     loadState s = 4 ∧ inEntry s = false ∧ s.hrn.resetting = none ∧ s.hrn.boot = false ∧ s.hrn.asked = [13] ∧ s.hrn.order = [] ∧ s.quiesced 13 = false) ∧
    (let s := { inLoad 5 with hrn := { State.reset.hrn with image := oneSection } }
     loadState s = 5 ∧ (∃ x, (imageOf s.hrn.image).secs = [x] ∧ x.panel = 13 ∧ x.deps = [] ∧ (x.writes.map (·.1)).Nodup ∧
       ∀ w ∈ x.writes, panelOf w.1 = 13 ∧ settleMask w.1 = 0 ∧ ∃ r, regRow w.1 = some r ∧ actingBases.contains r.base = false) ∧
      s.hrn.targets = [] ∧ (∀ p < 16, s.quiesced p = false) ∧ s.hrn.boot = false) ∧
    (let s := { inLoad 5 with hrn := { State.reset.hrn with image := sectionOf 15 [5, 0], targets := [15] } }
     loadState s = 5 ∧ (∃ x, (imageOf s.hrn.image).secs = [x] ∧ x.panel = 15 ∧ x.deps = []) ∧ s.hrn.targets = [15] ∧
      (∀ p < 16, s.quiesced p = false) ∧ s.hrn.boot = false) := by
  and_intros
  · decide +kernel
  · decide +kernel
  all_goals first
    | decide +kernel
    | exact ⟨(imageOf oneSection).secs.headD {}, by decide +kernel, by decide +kernel, by decide +kernel, by decide +kernel,
        fun w h => by
          have e : ((imageOf oneSection).secs.headD {}).writes = [(0xF00008, 5000000)] := by decide +kernel
          have h : w = (0xF00008, 5000000) := List.mem_singleton.1 (e ▸ h)
          subst h
          exact ⟨by decide +kernel, by decide +kernel, (regRow 0xF00008).get (by decide +kernel), by decide +kernel, by decide +kernel⟩⟩
    | exact ⟨(imageOf (sectionOf 15 [5, 0])).secs.headD {}, by decide +kernel⟩

/-- The hypotheses about BAR0 accesses. -/
theorem witness_bar0 :
    (∃ r, PlainReg full (EVT_VMOD.off 63 0) r ∧ lockRefuses full r (EVT_VMOD.off 63 0) 7 = false) ∧
    (∃ r q, PlainReg full (EVT_VMOD.off 62 0) r ∧ PlainReg full (EVT_VMOD.off 62 0 + 4) q ∧ lockRefuses full r (EVT_VMOD.off 62 0) 7 = false ∧
      lockRefuses full q (EVT_VMOD.off 62 0 + 4) 8 = false) ∧
    (∃ r, regRow (EVT_MAP.off 287 0) = some r ∧ Reaches full (EVT_MAP.off 287 0) ∧ settleMask (EVT_MAP.off 287 0) = 0 ∧
      lockRefuses full r (EVT_MAP.off 287 0) 1 = true) ∧
    ((0xD01000 : BitVec 25).toNat % 4 = 0 ∧ responds State.reset 0xD01000 = false) ∧ (2 : BitVec 25).toNat % 4 ≠ 0 ∧
    (∃ r q, regRow (LOG_VALUE_LO.off 3 0) = some r ∧ regRow (LOG_VALUE_LO.off 3 0 + 4) = some q ∧ responds full (LOG_VALUE_LO.off 3 0) = true ∧
      responds full (LOG_VALUE_LO.off 3 0 + 4) = true ∧ liveBases.contains r.base = false ∧ liveBases.contains q.base = false ∧ r.rc = 0 ∧
      upperWords r.base (regIndex r (LOG_VALUE_LO.off 3 0)).1 = 1 ∧ (full.captures.find? fun p => p.1 == LOG_VALUE_LO.off 3 0) = none) ∧
    Reaches full (LOG_CHRONO_LO.off 0 0) ∧
    (∃ r, regRow (AXS_CNT.off 3 0) = some r ∧ responds full (AXS_CNT.off 3 0) = true ∧ liveBases.contains r.base = false ∧
      upperWords r.base (regIndex r (AXS_CNT.off 3 0)).1 = 0 ∧ settleMask (AXS_CNT.off 3 0) = 0) := by
  refine ⟨⟨(regRow (EVT_VMOD.off 63 0)).get (by decide +kernel), ?_⟩,
    ⟨(regRow (EVT_VMOD.off 62 0)).get (by decide +kernel), (regRow (EVT_VMOD.off 63 0)).get (by decide +kernel), ?_⟩,
    ⟨(regRow (EVT_MAP.off 287 0)).get (by decide +kernel), ?_⟩, ?_, ?_,
    ⟨(regRow (LOG_VALUE_LO.off 3 0)).get (by decide +kernel), (regRow (LOG_VALUE_LO.off 3 0 + 4)).get (by decide +kernel), ?_⟩, ?_,
    ⟨(regRow (AXS_CNT.off 3 0)).get (by decide +kernel), ?_⟩⟩
  all_goals decide +kernel

/-- The hypotheses about BAR2. -/
theorem witness_bar2 :
    (inStandby State.reset = false ∧ loadRuns State.reset = false ∧ (5 : BitVec 34).toNat + [1, (2 : Byte)].length ≤ State.reset.board.dramSize) ∧
    (let s := { inLoad 1 with hrn := { State.reset.hrn with stageHi := 64 } }
     inStandby s = false ∧ loadRuns s = true ∧ s.hrn.stageLo ≤ (8 : BitVec 34).toNat ∧ (8 : BitVec 34).toNat + [(1 : Byte)].length ≤ s.hrn.stageHi) ∧
    inStandby (State.reset.wr PCR_PWR_STAT_STATE 2) = true ∧ Memory.wf (State.reset.setByte 7 1).dram = true := by decide +kernel

/-- A reflex table whose entry 9 is command slot 3, of the function and line or axis given. -/
def slotted (f x : Nat) (s : State) : State :=
  { s with reflex := { s.reflex with record := kvPut (kvPut s.reflex.record 9 0x60000003) 259 (f * 0x10000000 + x * 0x1000000) } }

/-- The hypotheses about writes and reads at the reflex port. -/
theorem witness_reflexWrites :
    (SlotOf (slotted 0 0 full) 9 3 0 ∧ (slotted 0 0 full).flag PCR_WAKE_CFG_REFLEX_EN = false) ∧
    SlotOf (slotted 1 2 full) 9 3 1 ∧
    (let s := slotted 4 0 (full.wr GLB_PSET_OFF_END 1 5 0); SlotOf s 9 3 4 ∧ setEntries s 5 8 0 = []) ∧
    (let s := slotted 4 0 ((((full.wr GLB_PSET_OFF_END 0 5 0).wr GLB_PSET_OFF_OFFSET (EVT_VMOD.off 7 0 / 4) 5 0).wr GLB_PSET_VAL 0x1234 5 0).wr GLB_PSET_OFF_END 1 5 1)
     SlotOf s 9 3 4 ∧ setEntries s 5 8 0 = [(EVT_VMOD.off 7 0, 0x1234)] ∧ s.loaded 11 = true ∧ responds s (EVT_VMOD.off 7 0) = true) ∧
    SlotOf (slotted 7 15 full) 9 3 7 ∧ SlotOf (slotted 8 0 full) 9 3 8 ∧ entrySlot full 0 = none ∧ portReady State.reset = false ∧
    (let s := slotted 0 0 ((full.wr PCR_WAKE_CFG_REFLEX_EN 1).wr PCR_PWR_STAT_STATE 2)
     SlotOf s 9 3 0 ∧ s.flag PCR_WAKE_CFG_REFLEX_EN = true ∧ s.rd PCR_PWR_STAT_STATE = 2) ∧
    (let s := { full with reflex := { full.reflex with record := [(4, 0x30000020)] } }
     s.active 15 = true ∧ bitsOf (recordWord s 4) 28 4 = 3 ∧ recordWord s 4 % 4 = 0) := by decide +kernel

/-- An armed emitter with a good profile 1. -/
def armed : State :=
  ((((((((full.wr RGE_SEG_EN_EN 1).wr RGE_SAFE_LIMIT_LIMIT 1000 0).wr RGE_STAT_ARMED 1).wr RGE_FP_SHOTS_SHOTS_C 10 1).wr RGE_FP_TIME_SHOT_PER 1000 1).wr RGE_LIMITS_MAXW 20).wr RGE_FP_SEQ_LINE_MASK 1 1).wr
    RGE_FP_TIME_WIDTH 4 1)

/-- A converter with a delayed trigger by command. -/
def delayed : State := { ((full.wr CNV_CTRL_EN 1 1).wr CNV_TRIG_TSRC 3 1 1).wr CNV_TRIG_DELAY 5 1 1 with hrn := { full.hrn with domains := 0xFFFFFFFF } }

/-- Pattern engine 2 waits on steps, 9 of them. -/
def stepping : State :=
  (full.wr ILU_PE_STAT_ACTIVE 1 2).updPeSt 2 fun x => { x with word := 0x3C000900 * 2 ^ 32 }

/-- Chain 1 is enabled. -/
def chained : State := { full.wr ILU_SW_CTRL_EN 1 1 with hrn := { full.hrn with domains := 0xFFFFFFFF } }

/-- The hypotheses about the reflex commands that act on another block. -/
theorem witness_reflexActions :
    (let s := slotted 2 0 armed
     SlotOf s 9 3 2 ∧ s.loaded 5 = true ∧ s.quiescing 5 = false ∧ s.loaded 6 = true ∧ s.quiescing 6 = false ∧ s.flag RGE_STAT_ARMED = true ∧
      s.flag RGE_STAT_BUSY = false ∧ s.rge.holdoff = false ∧ profileBad s (1 % 16) = false ∧ s.rd CAL_STAT_STATE = 0 ∧
      bufPending s (nextBuf s.used).2 = false ∧ s.rd EVT_HAL_INH_LINES = 0) ∧
    (let s := slotted 2 0 (withPanels 0x8000); SlotOf s 9 3 2 ∧ s.loaded 5 = false) ∧
    (let s := slotted 3 0 delayed
     SlotOf s 9 3 3 ∧ cvOn s 1 = true ∧ s.rd CNV_TRIG_TSRC 1 1 = 3 ∧ s.loaded 9 = true ∧ cvHeld s = false ∧ s.flag CNV_CTRL_CONT 1 = false ∧
      (s.cvSt 1).delR = none ∧ (s.cvSt 1).delI = none ∧ s.rd CNV_TRIG_DELAY 1 1 ≠ 0) ∧
    (SlotOf (slotted 3 0 full) 9 3 3 ∧ (slotted 3 0 full).rd CNV_TRIG_TSRC 1 1 ≠ 3) ∧
    (let s := slotted 5 0 stepping
     SlotOf s 9 3 5 ∧ s.loaded 7 = true ∧ s.quiesced 7 = false ∧ s.peDue = [] ∧ peOn s 2 3 = true ∧ (s.peSt 2).unit + 1 < bitsOf (peStepWord s 2) 40 16) ∧
    (SlotOf (slotted 5 0 full) 9 3 5 ∧ peOn (slotted 5 0 full) 2 3 = false) ∧
    (let s := slotted 6 0 chained
     SlotOf s 9 3 6 ∧ chainEn s 1 = true ∧ (s.chainSt 1).waiting = [] ∧ chainState s 1 ≠ 1 ∧ (s.chainSt 1).strobeEnd ≤ s.elapsed) ∧
    (SlotOf (slotted 6 0 full) 9 3 6 ∧ chainEn (slotted 6 0 full) 1 = false) := by decide +kernel

/-- The machine in a power state. -/
def inPower (k : Nat) : State := State.reset.wr PCR_PWR_STAT_STATE k

/-- The hypotheses about resets. -/
theorem witness_resets : axUnderWay ((inPower 2).updAx 3 fun x => { x with v := 5 }) 3 = true ∧ axUnderWay (inPower 2) 3 = false ∧
    (inPower 2).hrn.asked = [] ∧ (inPower 3).rd PCR_PWR_STAT_STATE = 3 ∧ (inPower 2).rd PCR_PWR_STAT_STATE ≠ 1 ∧ (inPower 2).rd PCR_PWR_STAT_STATE ≠ 3 ∧
    (let s := State.reset.wr SEC_STAT_FW 1; s.rd SEC_STAT_FW ≠ 0 ∧ s.board.dramRate = 0) := by decide +kernel

/-- The hypotheses about standby. -/
theorem witness_standby :
    (loadState (inLoad 3) ≠ 0 ∧ loadState (inLoad 3) ≠ 7) ∧
    (loadState State.reset = 0 ∧ calRunning State.reset = false ∧ State.reset.rd PCR_PWR_STAT_STATE = 0) ∧
    (let s := State.reset.wr CAL_STAT_STATE 1; loadState s = 0 ∧ calRunning s = true) ∧
    (let s := inPower 2; loadState s = 0 ∧ calRunning s = false ∧ s.rd PCR_PWR_STAT_STATE ≠ 0) ∧
    (let s := inPower 1; s.rd PCR_PWR_STAT_STATE = 1 ∧ notReached s = [] ∧ pfwFirst s = false ∧ s.pwr.restart = false ∧ s.pwr.wakeWait = 0 ∧
      ∀ x ∈ s.lane, x.2.rx = none) ∧
    (let s := { inPower 1 with hrn := { State.reset.hrn with asked := [1] } }
     s.rd PCR_PWR_STAT_STATE = 1 ∧ notReached s ≠ [] ∧ s.pwr.restart = false) ∧
    (let s := { inPower 1 with pwr := { State.reset.pwr with wakeWait := 4 } }
     s.rd PCR_PWR_STAT_STATE = 1 ∧ notReached s = [] ∧ pfwFirst s = false ∧ s.pwr.restart = false ∧ s.pwr.wakeWait ≠ 0) := by decide +kernel

/-- The hypotheses about waking. -/
theorem witness_wake :
    (inPower 2).rd PCR_PWR_STAT_STATE = 2 ∧
    (let s := (inPower 2).wr PCR_WAKE_CFG_GPIO 0x2000; s.rd PCR_PWR_STAT_STATE = 2 ∧ bit (s.rd PCR_WAKE_CFG_GPIO) 13 = true ∧
      true ≠ s.flag PCR_WAKE_CFG_GPIO_POL ∧ pinDriven s 13 = none ∧ pinLevel s 13 ≠ some true) ∧
    bit (State.reset.rd PCR_WAKE_CFG_GPIO) 0 = false ∧
    (let s := ((inPower 2).wr PCR_WAKE_CFG_ALARM_EN 1).wr PCR_WAKE_ALARM_SEC 100
     s.rd PCR_PWR_STAT_STATE = 2 ∧ s.flag PCR_WAKE_CFG_ALARM_EN = true ∧ s.rtc % (2 ^ 32 * 1000000000) < (s.rd PCR_WAKE_ALARM_SEC + 1) * 1000000000) ∧
    ((inPower 1).rd PCR_PWR_STAT_STATE = 1 ∧ (inPower 1).pwr.wakeWait = 0) ∧ State.reset.rd PCR_PWR_STAT_STATE = 0 ∧
    ((inPower 3).rd PCR_PWR_STAT_STATE = 3 ∧ pfwFirst (inPower 3) = false ∧ (inPower 3).pwr.restart = false ∧ ∀ x ∈ (inPower 3).lane, x.2.rx = none) := by decide +kernel

/-- The hypotheses about the link between the dies and the temperatures. -/
theorem witness_fieldDie :
    State.reset.pwr.d2dDown = false ∧ { State.reset with pwr := { State.reset.pwr with d2dDown := true } }.pwr.d2dDown = true ∧
    ((100 : Int) ≤ 114 ∧ (114 : Int) < 115 ∧ State.reset.flag PCR_THERM_HOT = false) ∧ State.reset.rd PCR_THERM_TJ_CORE < 115 ∧
    ((94 : Int) < 95) := by decide +kernel

/-- Log 3 counts web encoder 1 on every edge. -/
def encoded : State := (full.wr LOG_CFG_SRC 2 3).wr LOG_CFG_DECODE 2 3 |>.wr LOG_WE_CFG_FILTER 0 1

/-- Log 2 counts the elapsed count, with its generator's next line one tick ahead. -/
def timed : State :=
  (full.wr LOG_CFG_SRC 8 2).updLog 2 fun g => { g with genOn := true, pos := 1, int := 5, num := 1, den := 2, rem := 1, k := 7 }

/-- Log 1 is fed by the ring, with two ticks waiting. -/
def ringFed : State := { full.wr LOG_CFG_SRC 7 1 with ring := { full.ring with waiting := [(1, [(50, true), (60, false)])] } }

/-- The hypotheses about ticks. -/
theorem witness_ticks :
    (logsRun encoded = true ∧ encoded.rd LOG_WE_CFG_FILTER 1 = 0 ∧ (∀ i : Fin 128, encoded.rd LOG_WP_CTRL_MODE i = 0) ∧ ringDelayed encoded 3 = false ∧
      encoded.rd LOG_CFG_SRC 3 = 1 + 1 ∧ encoded.rd LOG_CFG_DECODE 3 = 2 ∧ ((encoded.encoder 1).a != true) ≠ ((encoded.encoder 1).b != false)) ∧
    ((encoded.encoder 1).a ≠ true ∧ (encoded.encoder 1).b ≠ true) ∧
    (let s := encoded.wr LOG_WE_CFG_Z_EN 1 1; s.flag LOG_WE_CFG_Z_EN 1 = true ∧ (s.encoder 1).z ≠ true ∧ true ≠ s.flag LOG_WE_CFG_Z_POL 1) ∧
    (timed.active 0 = true ∧ (∀ i : Fin 128, timed.rd LOG_WP_CTRL_MODE i = 0) ∧ ringDelayed timed 2 = false ∧ timed.rd LOG_CFG_SRC 2 = 8 ∧
      (timed.log 2).c = logValue timed 2 ∧ (timed.log 2).genOn = true ∧ (timed.log 2).pos = (logValue timed 2 + 1) % 2 ^ 48 ∧
      (timed.log 2).lastIssue = none ∧ (timed.log 2).pend = none) ∧
    (logsRun ringFed = true ∧ ringFed.rd LOG_CFG_SRC 1 = 7 ∧ isLead ringFed = false ∧ ringFed.flag LOG_STAT_SRC_LOST 1 = false ∧
      kvGet (fun _ => []) ringFed.ring.waiting 1 = (50, true) :: [(60, false)]) := by decide +kernel

/-- The hypotheses about writes to the Logs. -/
theorem witness_logWrites :
    (Reaches full (LOG_PRESET_HI.off 3 0) ∧ full.rd LOG_CFG_SRC 3 ≠ 7) ∧
    (let s := full.wr LOG_CFG_SRC 7 3; Reaches s (LOG_PRESET_HI.off 3 0) ∧ s.rd LOG_CFG_SRC 3 = 7) ∧
    (let s := (withPanels 0).wr HRN_STAT_STATE 5
     let s := { s with hrn := { s.hrn with targets := [0] } }
     s.swapping 0 = true ∧ srcCounts (s.rd LOG_CFG_SRC 3) = false ∧ srcCounts ((8 : Word).toNat % 16) = true) ∧
    (full.swapping 0 = false ∧ Reaches full (LOG_CFG.off 3 0) ∧ (full.get (LOG_CFG.off 3 0) ^^^ 0xFF000000#32) &&& 0x3130F#32 = 0 ∧
      (full.get (LOG_CFG.off 3 0) ^^^ 8#32) &&& 0x3130F#32 ≠ 0) ∧ Reaches full (LOG_TICKDIV.off 3 0) ∧
    (Reaches timed (LOG_LG_PITCH_FRAC.off 2 0) ∧ 0 < timed.rd LOG_LG_PITCH_INT_INT 2 ∧ (0xFFFF0000 : Word).toNat / 2 ^ 16 < 65536 ∧
      (timed.log 2).genOn = true) ∧
    (let s := timed.wr LOG_LG_PITCH_INT_INT 0 2; Reaches s (LOG_LG_PITCH_FRAC.off 2 0) ∧ s.rd LOG_LG_PITCH_INT_INT 2 = 0) ∧
    (let s := full.wr LOG_LG_ORIGIN_LO_ORIGIN 9 3
     Reaches s (LOG_LG_CTRL.off 3 0) ∧ s.flag LOG_LG_CTRL_RUN 3 = false ∧ pitchOk (pitchOf (s.log 3)) = true ∧
      isAhead (s.log 3).c (s.rd2 LOG_LG_ORIGIN_LO_ORIGIN LOG_LG_ORIGIN_HI_ORIGIN 3) = true) ∧
    (let s := full.updLog 3 fun g => { g with int := 0 }
     Reaches s (LOG_LG_CTRL.off 3 0) ∧ s.flag LOG_LG_CTRL_RUN 3 = false ∧ pitchOk (pitchOf (s.log 3)) = false) ∧
    Reaches full (LOG_WP_POS_HI.off 127 0) ∧ Reaches full (LOG_WP_CTRL.off 127 0) ∧
    (Reaches full (LOG_CHRONO_SET_HI.off 0 0) ∧ isFollower full = false ∧ full.chrono ≤ full.rd LOG_CHRONO_SET_LO + 2 ^ 32 * (1 : Word).toNat) ∧
    (let s := { full with chrono := 9 }; Reaches s (LOG_CHRONO_SET_HI.off 0 0) ∧ s.rd LOG_CHRONO_SET_LO + 2 ^ 32 * (0 : Word).toNat < s.chrono) ∧
    (ringFed.rd LOG_CFG_SRC 1 = 7 ∧ isLead ringFed = false ∧ logsRun ringFed = true ∧ ringFed.flag LOG_STAT_SRC_LOST 1 = false) ∧
    full.rd LOG_CFG_SRC 0 ≠ 7 := by decide +kernel

/-- The machine with every panel loaded and every domain in use. -/
def powered : State := { full with hrn := { full.hrn with domains := 0xFFFFFFFF } }

/-- Channel 2 enabled on lane 0, its lane UP, its template good; it expects two colours. -/
def imaging : State :=
  ((((((powered.wr SNS_CH_CFG_EN 1 2).wr SNS_LANE_STAT_STATE 4 0).wr SNS_TPL_CFG_PIXPER 100 2).wr SNS_TPL_CFG_COLOURS 1 2).wr SNS_TPL_EVT_SIG 3 2 0).wr
    SNS_TPL_EVT_SIG 9 2 1).updChan 2 fun x => { x with on := true }

/-- A line outstanding on that channel. -/
def lined (x : ChSt → ChSt) : State := imaging.updChan 2 fun c => x { c with outst := [{ logN := 1, logV := 9 }, {}] }

/-- The START bytes and the data block of a packet with header `k`, `l` (bytes 0 and 1) and stamp 9, of one sample, head 0; the check of its header is right. -/
def packHead (k l : Nat) : BitVec 56 × BitVec 64 :=
  let h := [k, l, 9, 0, 0, 0, 0, 0, 1, 0, 0, 7, 0]
  let c := crc32c h
  (BitVec.ofNat 56 (bytesNat (h.take 7)), BitVec.ofNat 64 (bytesNat (h.drop 7 ++ [c % 256, c / 256 % 256])))

/-- A packet of colour 1 stamped by Log 1 at 9, which answers that line. -/
def pix : BitVec 56 × BitVec 64 := packHead 0x04 0x10

/-- A status packet of head 0 for register 7. -/
def statusPkt : BitVec 56 × BitVec 64 := packHead 0x40 0

/-- The hypotheses about lanes. -/
theorem witness_lanes :
    (Reaches powered (SNS_LANE_CTRL.off 7 0) ∧ powered.flag SNS_LANE_CTRL_EN 7 = false ∧ powered.domain (5 + 7) = true) ∧
    (let s := { full with hrn := { full.hrn with domains := 2 ^ 13 } }; Reaches s (SNS_LANE_CTRL.off 7 0) ∧ s.flag SNS_LANE_CTRL_EN 7 = false ∧ s.domain (5 + 7) = false) ∧
    (let s := powered.wr SNS_LANE_CTRL_EN 1 7; Reaches s (SNS_LANE_CTRL.off 7 0) ∧ s.flag SNS_LANE_CTRL_EN 7 = true ∧ s.domain (5 + 7) = true) ∧
    (full.wr SNS_LANE_STAT_STATE 1 7).rd SNS_LANE_STAT_STATE 7 = 1 ∧ (full.wr SNS_LANE_STAT_STATE 2 7).rd SNS_LANE_STAT_STATE 7 = 2 ∧
    (let s := imaging.wr SNS_LANE_STAT_STATE 3 0; s.rd SNS_LANE_STAT_STATE 0 = 3 ∧ s.rd SNS_CH_MAP_LANE 2 = 0) ∧
    (let s := powered.wr SNS_LANE_STAT_STATE 5 7; s.rd SNS_LANE_STAT_STATE 7 = 5 ∧ s.domain (5 + 7) = true) ∧
    (imaging.rd SNS_LANE_STAT_STATE 0 = 4 ∧ imaging.rd SNS_CH_MAP_LANE 2 = 0 ∧ 0 < imaging.rd SNS_LANE_CTRL_EYE_MIN 0 ∧
      (imaging.laneSt 0).below = false) ∧
    (let s := powered.updLaneSt 7 fun x => { x with relock := true }; (s.laneSt 7).relock = true ∧ s.domain (5 + 7) = true ∧ s.powered (5 + 7) = true) ∧
    { full with hrn := { full.hrn with domains := 2 ^ 13 } }.powered (5 + 7) = false := by decide +kernel

/-- The hypotheses about heads and packets. -/
theorem witness_heads :
    Reaches powered (SNS_HCMD.off 7 0) ∧
    (let s := imaging.updLaneSt 0 fun x => { x with reading := some (0, 7) }
     let p := parsePacket (upBytes statusPkt.1 [statusPkt.2]) (blockBytes 4 0) true
     (s.laneSt 0).reading ≠ none ∧ TakesPackets s 0 ∧ p.hdrOk = true ∧ boundCh s 0 p.head ≠ none ∧ p.kind = 1 ∧ (s.laneSt 0).reading = some (p.head, p.regAddr) ∧
      (parsePacket (upBytes 0 []) (blockBytes 4 0) true).hdrOk = false ∧ boundCh powered 0 p.head = none) ∧
    TakesPackets (powered.wr SNS_LANE_STAT_STATE 4 0) 0 ∧
    (let s := lined id
     let p := parsePacket (upBytes pix.1 [pix.2, 5]) (blockBytes 4 0) true
     TakesPackets s 0 ∧ p.hdrOk = true ∧ boundCh s 0 p.head = some 2 ∧ p.kind = 0 ∧
      (s.chan 2).outst = { logN := 1, logV := 9 } :: [{}] ∧ (1 : Nat) = p.stampLog ∧ (9 : Nat) = p.stamp ∧ p.stamp ≠ 2 ^ 48 - 1 ∧
      s.rd SNS_TPL_CFG_HDR 2 = 0 ∧ p.short = false ∧ p.colour ≤ s.rd SNS_TPL_CFG_COLOURS 2 ∧ 2 ≤ subCount s 2) := by decide +kernel

/-- The hypotheses about channels. -/
theorem witness_channels :
    (let s := imaging.updChan 2 fun x => { x with on := false }
     Reaches s (SNS_CH_CFG.off 2 0) ∧ (s.chan 2).on = false ∧ tplBad s 2 = false ∧ bindTaken s 2 = false) ∧
    (Reaches full (SNS_CH_CFG.off 2 0) ∧ (full.chan 2).on = false ∧ tplBad full 2 = true) ∧
    (Reaches imaging (SNS_CH_CFG.off 2 0) ∧ (imaging.chan 2).on = true) ∧
    (let s := imaging.updChan 2 fun x => { x with settle := [0, 0] }
     (s.chan 2).settle = 0 :: [0] ∧ (s.chan 2).on = true ∧ laneUp s (s.rd SNS_CH_MAP_LANE 2) = true ∧ s.loaded 1 = true ∧ s.quiescing 1 = false ∧
      (s.chan 2).busy = false ∧ (s.chan 2).outst = []) ∧
    (let s := (imaging.updChan 2 fun x => { x with settle := [0, 0] }).wr SNS_LANE_STAT_STATE 0 0
     (s.chan 2).settle = 0 :: [0] ∧ (s.chan 2).on = true ∧ laneUp s (s.rd SNS_CH_MAP_LANE 2) = false) ∧
    (let s := imaging.updChan 2 fun x => { x with settle := [0, 0], busy := true }
     (s.chan 2).settle = 0 :: [0] ∧ laneUp s (s.rd SNS_CH_MAP_LANE 2) = true ∧ s.quiescing 1 = false ∧ (s.chan 2).busy = true) ∧
    (let w := 0x38000000; let s := lined fun x => { x with busy := true, sched := [(5, 100, w), (9, 200, 0x90000000)] }
     (s.chan 2).busy = true ∧ (s.chan 2).sched = (5, 100, w) :: [(9, 200, 0x90000000)] ∧ 1 ≤ bitsOf w 28 4 ∧ bitsOf w 28 4 ≤ 6 ∧
      (edgeSlots s (s.rd SNS_CH_MAP_LANE 2) 100).1 = 100) ∧
    (let s := (lined fun x => { x with sched := [(5, 100, 0x38000000)] }).updLaneSt 0 fun x => { x with msgs := (List.range 20).map fun k => 83 + k }
     (edgeSlots s (s.rd SNS_CH_MAP_LANE 2) 100).1 ≠ 100) ∧
    bitsOf 0x90000000 28 4 = 9 ∧
    (let s := imaging.updChan 2 fun x => { x with outst := [{ ended := true }, {}] }; (s.chan 2).outst = { ended := true } :: [{}]) ∧
    (let s := lined fun x => { x with busy := true }
     (s.chan 2).busy = true ∧ (∀ x ∈ (s.chan 2).sched, (s.chan 2).endClk < x.1) ∧ (s.chan 2).endAt ≤ s.elapsed ∧ timingRef s = true ∧
      ∀ x ∈ s.sink, x.2.since = none ∧ x.2.awl = none) ∧
    (Reaches imaging (SNS_EXP_LONG.off 2 0) ∧ stampNow imaging = none) ∧
    (let s := ((imaging.wr GLB_ALINE_CTRL_EN 1).wr GLB_ALINE_CTRL_CH 2).wr GLB_ALINE_LINE_LINE 8
     Reaches s (SNS_EXP_SHORT.off 2 0) ∧ stampNow s = some (2, 8) ∧ lineAhead ((8 + 1) % 2 ^ 32) ((s.chan 2).last.getD minusOne) = true) := by decide +kernel

/-- The hypotheses about captures and the store. -/
theorem witness_captures :
    (let s := full.wr IPC_CH_CTRL_SHD_EN 1 11
     Reaches s (IPC_CAP_CTRL.off 0 0) ∧ s.flag IPC_CAP_STAT_BUSY = false ∧ s.flag IPC_CH_STAT_LAMP_STABLE 11 = false ∧
      Reaches s (0x1400000 + 0x2FFFFC) ∧ 0x2FFFFC % 4 = 0 ∧ 0x2FFFFC / 0x40000 = 11 ∧ s.flag IPC_CH_CTRL_SHD_EN 11 = true) ∧
    (full.wr IPC_CAP_STAT_BUSY 1).flag IPC_CAP_STAT_BUSY = true ∧ full.flag IPC_CH_CTRL_SHD_EN 3 = false ∧ Reaches full (IPC_WARM.off 11 0) ∧
    (Reaches full (0x1400000 + 0x40000) ∧ full.flag IPC_CH_CTRL_SHD_EN 1 = false ∧ full.flag IPC_CAP_STAT_BUSY = false) ∧
    (Reaches full (0x1700000 + 0xBFFFC) ∧ 0xBFFFC % 4 = 0 ∧ 0xBFFFC / 0x10000 = 11 ∧ full.flag IPC_CH_CTRL_LIN_EN 11 = false) := by decide +kernel

/-- A stamp of channel 4, line 9. -/
def stamped : State := ((full.wr GLB_ALINE_CTRL_EN 1).wr GLB_ALINE_CTRL_CH 4).wr GLB_ALINE_LINE_LINE 9

/-- The hypotheses about tagged writes. -/
theorem witness_tagged :
    (Reaches full (IPC_KNEE.off 11 0) ∧ stampNow full = none) ∧
    (let s := (tagField full IPC_KNEE_KNEE 11 0 5 7 11 false).1
     Reaches s (IPC_KNEE.off 11 0) ∧ stampNow s = none ∧ (kvGet (fun _ => {}) s.pend (tagKey IPC_KNEE_KNEE 11 0)).live = true) ∧
    (Reaches stamped (IPG_GEO_REF.off 4 0) ∧ Reaches stamped (IPG_GEO_REF.off 5 0) ∧ stampNow stamped = some (4, 9)) ∧
    (Reaches full (IPG_FIR.off 63 3) ∧ ∀ c : Fin 12, full.flag IPG_GEO_CFG_GEO_EN c = false ∧ full.inForce IPG_GEO_CFG_GEO_EN c = 0) ∧
    (let s := full.wr IPG_GEO_CFG_GEO_EN 1 11; Reaches s (IPG_FIR.off 63 3) ∧ s.flag IPG_GEO_CFG_GEO_EN 11 = true) := by decide +kernel

/-- A line landed in channel 3's zone, two more behind it, at chronometer time `t`. -/
def landedAt (t : Nat) : State := { full.updChan 3 (fun x => { x with landed := [{ num := 5 }, { num := 6 }, { num := 7 }] }) with chrono := t }

/-- Channel 3 runs in-line with a line on it. -/
def inlined : State :=
  ((((full.wr IPG_INLINE_EN 1).wr IPG_INLINE_CHANNEL 3).wr IPG_CH_STAT_INLINE_ACTIVE 1 3).updChan 3 fun x => { x with inl := [{ num := 5 }] })

/-- View 9 has an open packet on queue 4. -/
def viewing : State :=
  ((full.wr IPG_VIEW_CFG_QUEUE 4 9).updViewSt 9 fun x => { x with lines := 2, key := [1] }).updQ 4 fun x =>
    { x with prods := [9], isOpen := true, openW := [{ data := 5, f := true }], wr := 1 }

/-- The hypotheses about the paths of lines and the flush of a view. -/
theorem witness_paths :
    (stagesOpen (landedAt 1) = true ∧ memoryChoice (landedAt 1) = some (3, { num := 5 })) ∧
    (let s := landedAt 100000000000; memoryChoice s = some (3, { num := 5 }) ∧ deadline s 3 { num := 5 } < s.chrono) ∧
    stagesOpen State.reset = false ∧
    (inlineCh inlined = some 3 ∧ (inlined.chan 3).inl = { num := 5 } :: [] ∧ inlined.flag IPG_CH_STAT_INLINE_ACTIVE 3 = true) ∧
    (Reaches viewing (IPG_VIEW_CFG.off 9 0) ∧ (viewing.viewSt 9).lines ≠ 0 ∧ (viewing.q (viewing.rd IPG_VIEW_CFG_QUEUE 9)).held = [] ∧
      (viewing.q (viewing.rd IPG_VIEW_CFG_QUEUE 9)).isOpen = true ∧ (viewing.q (viewing.rd IPG_VIEW_CFG_QUEUE 9)).prods.head? = some 9) ∧
    (full.viewSt 9).lines = 0 := by decide +kernel

/-- Axis 2 may be paced by channel 3. -/
def pacing : State :=
  ((((((full.wr SNS_CH_CFG_SEL 2 3).wr SNS_CH_CFG_LSRC 2 3).wr AXS_PACE_CFG_CH 3 2).wr AXS_PACE_CFG_SETPOINT 20 2).wr AXS_PACE_LVL_RESUME 5 2).wr
    AXS_PACE_LVL_STOP 60 2).wr AXS_LINE_PITCH_PITCH 65536 2

/-- Axis 2 is at rest, on, with a velocity to reach. -/
def driven : State := (((full.wr AXS_CTRL_EN 1 2).wr AXS_CTRL_MODE 2 2).wr AXS_VTARGET_VTARGET 5000 2).wr AXS_VMAX_VMAX 9000 2

/-- The switches of axis 2 are accepted with their first sample. -/
def unfiltered : State := full.wr AXS_CFG_SW_FILT 0 2

/-- The hypotheses of `AxisCommandsTakeEffect`, clause by clause. -/
theorem witness_axisCommandsTakeEffect :
    (let a : Fin 4 := 3; let s : State := ((full.wr AXS_CTRL_EN 1 3).wr AXS_CTRL_MODE 2 3).updAx 3 fun x => { x with v := 77 }; Reaches s (AXS_CTRL.off a 0) ∧ (s.ax a).home = 0) ∧
    (let a : Fin 4 := 3; let s : State := full.updAx 3 fun x => { x with home := 2 }; Reaches s (AXS_CTRL.off a 0) ∧ (s.ax a).home ≠ 0) ∧
    (let a : Fin 4 := 3; let s : State := (full.wr AXS_STAT_REF 1 3).updAx 3 fun x => { x with p := 77 }; Reaches s (AXS_CTRL.off a 0) ∧ goalsClosed s a = false ∧ limitAhead s a (homeDir s a) = false) ∧
    (let a : Fin 4 := 3; let s : State := (full.wr AXS_STAT_REF 1 3).wr AXS_SUP_STAT_STALL 1 3; Reaches s (AXS_CTRL.off a 0) ∧ s.flag AXS_SUP_STAT_STALL a = true ∧ ((s.rd AXS_CTRL_MODE a = 3 → (s.paceSt a).seam = false))) ∧
    (let a : Fin 4 := 2; let m : Fin 4 := 1; let s : State := full; Reaches s (AXS_CTRL.off a 0) ∧ modeBad s a m = false) ∧
    (let a : Fin 4 := 2; let m : Fin 4 := 3; let s : State := pacing; Reaches s (AXS_CTRL.off a 0) ∧ modeBad s a m = false) ∧
    (let a : Fin 4 := 2; let m : Fin 4 := 3; let s : State := full; Reaches s (AXS_CTRL.off a 0) ∧ modeBad s a m = true ∧ m ≠ 0 ∧ s.rd AXS_CTRL_MODE a ≠ m) ∧
    (let a : Fin 4 := 2; let s : State := full.wr AXS_CUR_IRUN 300 2; Reaches s (AXS_CTRL.off a 0) ∧ s.flag AXS_CTRL_EN a = false ∧ s.flag AXS_STAT_CFG_ERR a = false ∧ s.flag AXS_SUP_STAT_OVERCURRENT a = false ∧ calHoldsAxes s = false ∧ s.pwr.d2dDown = false ∧ (s.coilSt (2 * a)).st = 0 ∧ (s.coilSt (2 * a + 1)).st = 0) ∧
    (let a : Fin 4 := 2; let s : State := full.wr AXS_SUP_STAT_OVERCURRENT 1 2; Reaches s (AXS_CTRL.off a 0) ∧ s.flag AXS_CTRL_EN a = false ∧ (s.flag AXS_STAT_CFG_ERR a = true ∨ s.flag AXS_SUP_STAT_OVERCURRENT a = true) ∧ ((s.rd AXS_CTRL_MODE a = 3 → (s.paceSt a).seam = false))) ∧
    (let a : Fin 4 := 2; let v : Word := 0xFFFF0000; let s : State := full; Reaches s (AXS_TARGET.off a 0) ∧ goalsClosed s a = false ∧ targetBad s a (sext 32 v.toNat) = false) ∧
    (let a : Fin 4 := 2; let v : Word := 101; let s : State := (full.wr AXS_STAT_REF 1 2).wr AXS_SOFT_MAX_MAX 100 2; Reaches s (AXS_TARGET.off a 0) ∧ (goalsClosed s a = true ∨ targetBad s a (sext 32 v.toNat) = true)) ∧
    (let a : Fin 4 := 2; let s : State := full; Reaches s (AXS_DMAX.off a 0)) ∧
    (let a : Fin 4 := 2; let s : State := full; Reaches s (AXS_JMAX.off a 0)) ∧
    (let a : Fin 4 := 2; let s : State := full; Reaches s (AXS_LINE_PITCH.off a 0)) ∧
    (let a : Fin 4 := 2; let s : State := full; Reaches s (AXS_LINE_ORIGIN.off a 0)) ∧
    (let a : Fin 4 := 2; let s : State := ((full.wr AXS_LINE_PITCH_PITCH 0x28000 2).wr AXS_LINE_ORIGIN_ORIGIN 0xFFFFFFF0 2).updAx 2 fun x => { x with p := 5 * uStep, gridNew := true }; s.loaded 4 = true ∧ axOn s a = false ∧ (s.ax a).gridNew = true) := by and_intros <;> decide +kernel

/-- The hypotheses of `AxisTicksAndEdgesTakeEffect`, clause by clause. -/
theorem witness_axisTicksAndEdgesTakeEffect :
    (let s : State := { full with elapsed := 8000 }; ((∀ a : Fin 4, axOn s a = false))) ∧
    (let a : Fin 4 := 2; let s : State := driven; axOn s a = true ∧ (s.ax a).v = 0 ∧ (s.ax a).home = 0 ∧ (s.ax a).limStop = 0 ∧ (s.ax a).holdStep = 0 ∧ s.rd AXS_CTRL_MODE a = 2 ∧ 0 < s.rdS AXS_VTARGET_VTARGET a ∧ s.flag AXS_CTRL_PROFILE a = false ∧ softLimits s a = none ∧ limitAhead s a 1 = false ∧ s.flag AXS_SUP_STAT_HOLDING a = false ∧ s.flag AXS_ENC_CFG_ENC_EN a = false ∧ paceState s a = 0 ∧ s.quiescing 4 = false ∧ calHoldsAxes s = false ∧ 0 < s.rd AXS_VMAX_VMAX a) ∧
    (let a : Fin 4 := 2; let d : Int := -1; let w : Int := 4; let tk : Bool := false; let rest : List (Int × Int × Bool) := [(-1, 3, false)]; let s : State := (full.wr AXS_CFG_MRES 4 2).updAx 2 fun x => { x with steps := [(-1, 4, false), (-1, 3, false)] }; (s.ax a).steps = (d, w, tk) :: rest ∧ (tk = true ∨ ((∀ n : Fin 4, s.rd LOG_CFG_SRC n ≠ 3 + a) ∧ (d ≤ 0 ∨ (s.ax a).pitch = 0 ∧ paceState s a ≠ 5)))) ∧
    (let a : Fin 4 := 2; let s : State := full; (s.ax a).steps = [] ∧ s.peDue = []) ∧
    (let a : Fin 4 := 2; let sw : Fin 2 := 1; let level : Bool := true; let s : State := (((unfiltered.wr AXS_CFG_SWB_FN 1 2).wr AXS_LATCH_INFO_VALID 1 2).wr AXS_ENC_COUNT 55 2).updAx 2 fun x => { x with p := -7 * uStep, home := 1 }; s.loaded 4 = true ∧ SwitchesRest s a ∧ s.rd AXS_CFG_SW_FILT a = 0 ∧ (s.sw a sw).acc ≠ level ∧ swFn s a sw = 1) ∧
    (let a : Fin 4 := 2; let sw : Fin 2 := 0; let level : Bool := false; let s : State := (((unfiltered.wr AXS_CFG_SWA_FN 1 2).wr AXS_CFG_SWB_FN 1 2).wr AXS_ENC_COUNT 55 2).updAx 2 fun x => { x with p := -7 * uStep, home := 3, swA := { acc := true, raw := true } }; s.loaded 4 = true ∧ SwitchesRest s a ∧ s.rd AXS_CFG_SW_FILT a = 0 ∧ (s.sw a sw).acc ≠ level ∧ swFn s a sw = 1) ∧
    (let a : Fin 4 := 2; let sw : Fin 2 := 0; let level : Bool := true; let s : State := ((unfiltered.wr AXS_CFG_SWA_FN 3 2).wr AXS_CTRL_EN 1 2).updAx 2 fun x => { x with v := 7 }; s.loaded 4 = true ∧ SwitchesRest s a ∧ s.rd AXS_CFG_SW_FILT a = 0 ∧ (s.sw a sw).acc ≠ level ∧ swFn s a sw = 3 ∧ swActive s a sw level = true ∧ axOn s a = true ∧ 0 < (s.ax a).v ∧ (s.ax a).limStop = 0 ∧ (s.ax a).home = 0) ∧
    (let a : Fin 4 := 2; let s : State := (full.wr AXS_CTRL_EN 1 2).updAx 2 fun x => { x with v := -7, limStop := 1, limDir := -1 }; axOn s a = true ∧ (s.ax a).v ≠ 0 ∧ (s.ax a).limStop ≠ 0 ∧ (s.ax a).home = 0 ∧ s.rd AXS_DSTOP_DSTOP a = 0) ∧
    (let a : Fin 4 := 2; let s : State := ((full.wr AXS_CTRL_EN 1 2).wr AXS_DSTOP_DSTOP 9000 2).updAx 2 fun x => { x with v := -70000000000000, limStop := 1, limDir := -1 }; axOn s a = true ∧ (s.ax a).v ≠ 0 ∧ (s.ax a).limStop ≠ 0 ∧ (s.ax a).home = 0 ∧ tickK * (max (s.rd AXS_DSTOP_DSTOP a) (max 1 (max (s.ax a).dmax (s.rd AXS_DMAX_DMAX a))) : Nat) < (s.ax a).v.natAbs ∧ s.rd AXS_DSTOP_DSTOP a ≠ 0 ∧ s.flag AXS_ENC_CFG_ENC_EN a = false) ∧
    (let a : Fin 4 := 2; let sw : Fin 2 := 0; let level : Bool := true; let s : State := full.wr AXS_CFG_SW_FILT 3 2; SwitchesRest s a ∧ (s.sw a sw).acc ≠ level ∧ 0 < s.rd AXS_CFG_SW_FILT a) ∧
    (let a : Fin 4 := 2; let sw : Fin 2 := 0; let level : Bool := true; let now : Nat := 0; let s : State := unfiltered; SwitchesRest s a ∧ s.rd AXS_CFG_SW_FILT a = 0 ∧ (s.sw a sw).acc ≠ level ∧ swFn s a sw = 0 ∧ now ≤ s.elapsed ∧ timingRef s = true ∧ ((∀ x ∈ s.sink, x.2.since = none ∧ x.2.awl = none))) ∧
    (let a : Fin 4 := 2; let sw : Fin 2 := 1; let level : Bool := true; let now : Nat := 3000; let s : State := ((full.wr AXS_CFG_SWB_FN 1 2).wr AXS_CFG_SW_FILT 3 2).updAx 2 fun x => { x with p := -7 * uStep, swB := { raw := true, since := 0, pos := -9, enc := 77, time := 2 ^ 40 } }; s.loaded 4 = true ∧ (s.sw a sw).raw = level ∧ (s.sw a sw).acc ≠ level ∧ (s.sw a (1 - sw)).raw = (s.sw a (1 - sw)).acc ∧ timingRef s = true ∧ 1000 * s.rd AXS_CFG_SW_FILT a ≤ max now s.elapsed - (s.sw a sw).since ∧ swFn s a sw = 1) ∧
    (let a : Fin 4 := 2; let sw : Fin 2 := 0; let s : State := (((unfiltered.wr AXS_CFG_SWA_FN 3 2).wr AXS_CFG_SWB_FN 1 2).wr AXS_CTRL_EN 1 2).updAx 2 fun x => { x with p := -7 * uStep, v := 7, home := 3, swB := { acc := true, raw := true } }; s.loaded 4 = true ∧ SwitchesRest s a ∧ s.rd AXS_CFG_SW_FILT a = 0 ∧ 2 ≤ swFn s a sw ∧ swFn s a (1 - sw) = 1) ∧
    (let a : Fin 4 := 2; let sw : Fin 2 := 1; let s : State := ((unfiltered.wr AXS_CFG_SWA_FN 1 2).wr AXS_CFG_SWB_FN 2 2).wr AXS_LATCH_INFO_VALID 1 2; s.loaded 4 = true ∧ SwitchesRest s a ∧ s.rd AXS_CFG_SW_FILT a = 0 ∧ 2 ≤ swFn s a sw ∧ swFn s a (1 - sw) = 1) ∧
    (let a : Fin 4 := 2; let ea : Bool := true; let eb : Bool := false; let s : State := ((full.wr AXS_ENC_CFG_ENC_FILT 0 2).wr AXS_ENC_CFG_ENC_EN 1 2).wr AXS_ENC_COUNT 0xFFFFFFFF 2; s.loaded 4 = true ∧ s.flag AXS_ENC_CFG_ENC_EN a = true ∧ s.rd AXS_ENC_CFG_ENC_FILT a = 0 ∧ (quadPlace ea eb + 4 - quadPlace (s.ax a).encIn.a (s.ax a).encIn.b) % 4 = 1) ∧
    (let a : Fin 4 := 2; let s : State := full.wr AXS_ENC_CFG_ENC_FILT 0 2; s.flag AXS_ENC_CFG_ENC_EN a = false) := by and_intros <;> decide +kernel

/-- The hypotheses of `CoilsAndSupervisionTakeEffect`, clause by clause. -/
theorem witness_coilsAndSupervisionTakeEffect :
    (let a : Fin 4 := 3; let coil : Fin 2 := 1; let s : State := full.updCoilSt 7 fun x => { x with st := 3 }; ((s.coilSt (2 * a + coil)).st = 1 ∨ (s.coilSt (2 * a + coil)).st = 3)) ∧
    (let a : Fin 4 := 3; let coil : Fin 2 := 0; let s : State := (full.updCoilSt 6 fun x => { x with st := 2 }).wr AXS_SUP_STAT_ISET 300 3; (s.coilSt (2 * a + coil)).st = 2) ∧
    (let a : Fin 4 := 3; let coil : Fin 2 := 0; let s : State := full.updCoilSt 6 fun x => { x with st := 1 }; (s.coilSt (2 * a + coil)).st = 1) ∧
    (let a : Fin 4 := 3; let coil : Fin 2 := 0; let s : State := (full.updCoilSt 6 fun x => { x with st := 2, maxon := 7 }).wr AXS_SUP_STAT_ISET 300 3; (s.coilSt (2 * a + coil)).st = 2 ∧ 128 ≤ (coilTarget s a coil).natAbs ∧ (s.coilSt (2 * a + coil)).maxon = 7) ∧
    (let a : Fin 4 := 3; let coil : Fin 2 := 0; let s : State := (full.updCoilSt 6 fun x => { x with st := 2, maxon := 6 }).wr AXS_SUP_STAT_ISET 300 3; (s.coilSt (2 * a + coil)).st = 2 ∧ 128 ≤ (coilTarget s a coil).natAbs ∧ (s.coilSt (2 * a + coil)).maxon < 7) ∧
    (let a : Fin 4 := 3; let coil : Fin 2 := 0; let s : State := full.updCoilSt 6 fun x => { x with st := 4, fast := true }; (s.coilSt (2 * a + coil)).st = 4) ∧
    (let a : Fin 4 := 3; let coil : Fin 2 := 0; let s : State := full.updCoilSt 6 fun x => { x with st := 4, fast := true }; (s.coilSt (2 * a + coil)).fast = true) ∧
    (let a : Fin 4 := 3; let coil : Fin 2 := 0; let s : State := ((full.wr AXS_CTRL_EN 1 3).updAx 3 fun x => { x with v := 7, home := 1 }).updCoilSt 6 fun x => { x with st := 4, fast := true }; (s.coilSt (2 * a + coil)).st ≠ 0 ∧ (s.coilSt (2 * a + coil)).st ≠ 1 ∧ (s.coilSt (2 * a + coil)).st ≠ 3) ∧
    (let a : Fin 4 := 3; let coil : Fin 2 := 1; let s : State := full.updCoilSt 7 fun x => { x with st := 3 }; ((s.coilSt (2 * a + coil)).st = 0 ∨ (s.coilSt (2 * a + coil)).st = 1 ∨ (s.coilSt (2 * a + coil)).st = 3)) ∧
    (let a : Fin 4 := 3; let coil : Fin 2 := 1; let q : Fin 4 := 3; let n : Nat := 16; let T : Nat := 20; let s : State := (((full.wr AXS_OFFS_CFG_ADAPT_EN 1 3).wr AXS_OFFS_CFG_OFFS_MAX 200 3).wr AXS_OFFS_OFFS 7 3 7).updCoilSt 7 fun x => { x with ended := some (3, 16, 20) }; s.loaded 4 = true ∧ s.flag AXS_OFFS_CFG_ADAPT_EN a = true ∧ (s.coilSt (2 * a + coil)).ended = some (q.val, n, T)) ∧
    (let a : Fin 4 := 3; let coil : Fin 2 := 1; let s : State := full; ((s.coilSt (2 * a + coil)).ended = none ∨ s.flag AXS_OFFS_CFG_ADAPT_EN a = false)) ∧
    (let a : Fin 4 := 3; let coil : Fin 2 := 1; let s : State := (full.updCoilSt 7 fun x => { x with st := 4, nowT := 5, sumT := 7, cycles := 300 }).updAx 3 fun x => { x with v := 3 }; (s.coilSt (2 * a + coil)).st = 4 ∧ (s.ax a).v ≠ 0) ∧
    (let a : Fin 4 := 3; let s : State := ((full.wr AXS_CTRL_EN 1 3).wr AXS_HOLD_THOLD 9 3).wr AXS_SUP_STAT_ISET (full.rd AXS_CUR_IRUN 3) 3; axOn s a = true ∧ (s.ax a).v = 0 ∧ s.rd AXS_HOLD_THOLD a ≠ 0 ∧ s.flag AXS_SUP_STAT_HOLDING a = false ∧ (s.ax a).holdStep = 0 ∧ s.rd AXS_SUP_STAT_ISET a = s.rd AXS_CUR_IRUN a) ∧
    (let a : Fin 4 := 3; let s : State := ((full.wr AXS_OFFS_CFG_ADAPT_EN 1 3).wr AXS_OFFS_CFG_OFFS_MAX 200 3).wr AXS_OFFS_OFFS 7 3 7; Reaches s (AXS_OFFS_CFG.off a 0)) ∧
    (let a : Fin 4 := 3; let s : State := ((full.wr AXS_SUP_STAT_STALL 1 3).wr AXS_DEV_DEV 200 3).wr AXS_SUP_STAT_OVERCURRENT 1 3; Reaches s (AXS_SUP_STAT.off a 0) ∧ s.flag AXS_SUP_STAT_STALL a = true) := by and_intros <;> decide +kernel

/-- Nothing keeps the emitter from arming. -/
def readyToArm : State := (((full.wr RGE_STAT_BLACKOUT 0).wr RGE_STAT_SAFE_OK 1).wr RGE_SEG_EN_EN 4).wr RGE_SAFE_LIMIT_LIMIT 100 2

/-- Profile 1 fires three coarse shots and one zoom shot of line 0 at steering code 2. -/
def profiled : State :=
  ((((readyToArm.wr RGE_FP_SEQ_NPH 0 1).wr RGE_FP_SHOTS_SHOTS_C 3 1).wr RGE_FP_SHOTS_SHOTS_Z 1 1).wr RGE_FP_SEQ_LINE_MASK 1 1).wr RGE_FP_SEQ_PH0 2 1 |>.wr RGE_FP_TIME_WIDTH 10 1

/-- A frame of profile 1. -/
def theFrame : FrameSt := { num := 7, prof := 1, buf := 1, snap := profiled.regs, phases := [{ code := 2 }] }

/-- An armed emitter in frame `f`. -/
def framed (f : FrameSt) : State :=
  { ((profiled.wr RGE_STAT_ARMED 1).wr RGE_STAT_BUSY 1).wr RGH_STAT_BUSY 1 with rgh := { frames := [f] } }

/-- The frame before its first shot. -/
def shooting : State := framed theFrame

/-- The frame with every shot fired. -/
def firedFrame : FrameSt := { theFrame with phases := [{ code := 2, firedC := 3, firedZ := 1 }] }

/-- The frame with its coarse shots fired and analysed. -/
def coarseFrame : FrameSt := { theFrame with phases := [{ code := 2, firedC := 3, coarseDone := true }] }

/-- The fired frame of a profile with a zoom pass. -/
def zoomFrame : FrameSt := { firedFrame with snap := (profiled.wr RGH_FP_WIN_ZOOM_EN 1 1).regs }

/-- A frame whose profile has two phases, the first fired and analysed. -/
def halfFrame : FrameSt :=
  { theFrame with snap := (profiled.wr RGE_FP_SEQ_NPH 1 1).regs, phases := [{ code := 2, firedC := 3, firedZ := 1, coarseDone := true }] }

/-- An ended frame that lacks its zoom analysis only. -/
def analysed : FrameSt := { theFrame with ended := true, phases := [{ code := 2, firedC := 3, firedZ := 1, coarseDone := true }] }

/-- A measurement of a coarse shot of the frame, opened at 2,000, with channel 191 histogrammed. -/
def inMeasurement : State :=
  { shooting.wr RGH_RC_EN_EN 0x80000000 5 with
    rgh := { shooting.rgh with isOpen := true, start := some 2000, ref := (7, 0, false) } }

/-- The calibration runs, with hits. -/
def sweeping (hits : List (Nat × Nat)) (n : Nat) : State := { full.wr RGH_CAL_CTRL_EN 1 with fix := { hits := hits, total := n } }

/-- The hypotheses of `EmitterTakesEffect`, clause by clause. -/
theorem witness_emitterTakesEffect :
    (let s : State := readyToArm; Reaches s (RGE_CTRL.off 0 0) ∧ armErr s = 0 ∧ s.flag RGE_STAT_ARMED = false ∧ s.rd EVT_HAL_INH_LINES = 0) ∧
    (let s : State := full; Reaches s (RGE_CTRL.off 0 0) ∧ armErr s ≠ 0 ∧ s.flag RGE_STAT_ARMED = false) ∧
    (let s : State := shooting; Reaches s (RGE_CTRL.off 0 0) ∧ s.flag RGE_STAT_ARMED = true) ∧
    (let s : State := { full with rge := { holdoff := true } }; s.rge.holdoff = true) ∧
    (let s : State := full; s.flag RGE_STAT_SAFE_OK = false) ∧
    (let f : FrameSt := { theFrame with phases := [] }; let k : Nat := 2; let s : State := (framed { theFrame with phases := [] }).set (0x1800000 + 0x100000 + 2 * 0x40000 + 0x3FFFC) 9; s.frameNow = some f ∧ (phaseList (f.rd RGE_FP_SEQ f.prof))[f.phases.length]? = some k ∧ (f.phases = [] ∨ phaseFired f f.now = true) ∧ f.buf < 2 ∧ s.rd EVT_HAL_INH_LINES = 0) ∧
    (let s : State := shooting; s.flag RGE_STAT_BUSY = true ∧ s.rd EVT_HAL_INH_LINES = 0) ∧
    (let f : FrameSt := theFrame; let s : State := shooting; s.frameNow = some f ∧ f.phases ≠ [] ∧ f.now.firedC < f.shotsC ∧ s.rd EVT_HAL_INH_LINES = 0) ∧
    (let f : FrameSt := coarseFrame; let s : State := framed coarseFrame; s.frameNow = some f ∧ f.phases ≠ [] ∧ f.now.firedC = f.shotsC ∧ f.now.firedZ < f.shotsZ ∧ f.now.coarseDone = true ∧ s.rd EVT_HAL_INH_LINES = 0) ∧
    (let f : FrameSt := theFrame; let l : Fin 8 := 0; let s : State := shooting; s.frameNow = some f ∧ f.phases ≠ [] ∧ f.now.firedC < f.shotsC ∧ s.rd EVT_HAL_INH_LINES = 0 ∧ f.rd RGE_FP_SEQ_LINE_MASK f.prof = 2 ^ l.val ∧ f.now.code < 4 ∧ segCan s (4 * l + f.now.code) = true) ∧
    (let f : FrameSt := theFrame; let l : Fin 8 := 0; let s : State := shooting.wr RGE_SAFE_LIMIT_LIMIT 11 2; s.frameNow = some f ∧ f.phases ≠ [] ∧ f.now.firedC < f.shotsC ∧ s.rd EVT_HAL_INH_LINES = 0 ∧ f.rd RGE_FP_SEQ_LINE_MASK f.prof = 2 ^ l.val ∧ f.now.code < 4 ∧ segCan s (4 * l + f.now.code) = true) ∧
    (let s : State := full; s.frameNow = none) ∧
    (let f : FrameSt := firedFrame; let s : State := framed firedFrame; s.frameNow = some f ∧ f.phases.length = (phaseList (f.rd RGE_FP_SEQ f.prof)).length ∧ phaseFired f f.now = true ∧ f.delivered = false) ∧
    (let f : FrameSt := { firedFrame with delivered := true, miss := true }; let s : State := framed { firedFrame with delivered := true, miss := true }; s.frameNow = some f ∧ f.phases.length = (phaseList (f.rd RGE_FP_SEQ f.prof)).length ∧ phaseFired f f.now = true ∧ f.delivered = true ∧ s.rgh.frames = [f]) ∧
    (let s : State := shooting; s.flag RGE_STAT_ARMED = true) ∧
    (let s : State := full; s.flag RGE_STAT_ARMED = false) ∧
    (let s : State := full.wr RGE_STAT_BLACKOUT 1; s.flag RGE_STAT_BLACKOUT = true) := by and_intros <;> decide +kernel

/-- The hypotheses of `MeasurementsTakeEffect`, clause by clause. -/
theorem witness_measurementsTakeEffect :
    (let x : Nat := 900; let f : FrameSt := theFrame; let s : State := { shooting with rgh := { shooting.rgh with expect := true } }; s.rgh.expect = true ∧ s.frameNow = some f ∧ f.phases ≠ [] ∧ f.now.firedZ = 0 ∧ s.loaded 6 = true ∧ convDead s 64 x = false ∧ s.rd EVT_HAL_INH_LINES = 0) ∧
    (let x : Nat := 900; let s : State := full; s.rgh.expect = false ∧ s.loaded 6 = true ∧ convDead s 64 x = false ∧ s.rd EVT_HAL_INH_LINES = 0) ∧
    (let x : Nat := 900; let s : State := { full with rgh := { deadT := [(64, 700)], expect := true } }; (s.loaded 6 = false ∨ convDead s 64 x = true) ∧ s.rd EVT_HAL_INH_LINES = 0) ∧
    (let f : FrameSt := theFrame; let s : State := { shooting with rgh := { shooting.rgh with expect := true } }; s.rgh.expect = true ∧ s.frameNow = some f ∧ s.rd EVT_HAL_INH_LINES = 0) ∧
    (let i : Fin 64 := 63; let x : Nat := 900; let s : State := { full with rgh := { deadT := [(63, 700)] } }; s.loaded 6 = true ∧ s.rd EVT_HAL_INH_LINES = 0 ∧ kvGet (fun _ => 0) s.rgh.deadT i ≠ 0 ∧ x + 1 < kvGet (fun _ => 0) s.rgh.deadT i + 512) ∧
    (let i : Fin 64 := 63; let x : Nat := 9000; let s : State := { full with rgh := { deadT := [(63, 700)], edges := [(63, 4)] } }; s.loaded 6 = true ∧ (kvGet (fun _ => 0) s.rgh.deadT i = 0 ∨ kvGet (fun _ => 0) s.rgh.deadT i + 512 ≤ x + 1) ∧ 4 ≤ kvGet (fun _ => 0) s.rgh.edges i) ∧
    (let i : Fin 64 := 63; let x : Nat := 2000 + 64 * 1023 + 63; let t0 : Nat := 2000; let b : Nat := 1023; let m : Nat := 0; let f : FrameSt := theFrame; let p : PhSt := { code := 2 }; let s : State := inMeasurement; s.loaded 6 = true ∧ s.rd EVT_HAL_INH_LINES = 0 ∧ (kvGet (fun _ => 0) s.rgh.deadT i = 0 ∨ kvGet (fun _ => 0) s.rgh.deadT i + 512 ≤ x + 1) ∧ kvGet (fun _ => 0) s.rgh.edges i < 3 ∧ s.rgh.start = some t0 ∧ s.rgh.isOpen = true ∧ refPlace s = some m ∧ s.rgh.frames.getD m {} = f ∧ s.rgh.ref.2.2 = false ∧ f.phases.getD s.rgh.ref.2.1 {} = p ∧ f.buf < 2 ∧ p.code < 4 ∧ rcEnabled s (64 * p.code + i) = true ∧ (f.phases.drop (s.rgh.ref.2.1 + 1)).any (fun y => y.code == p.code) = false ∧ x = t0 + 64 * f.rd RGH_FP_WIN_CSTART f.prof + 64 * b + 63 ∧ b < 1024) ∧
    (let s : State := inMeasurement; s.rgh.isOpen = true ∧ s.rd EVT_HAL_INH_LINES = 0) ∧
    (let i : Nat := 0; let j : Nat := 0; let s : State := (framed zoomFrame).wr RGH_RC_EN_EN 0x80000000 5; findPhase s (fun f p => p.firedC == f.shotsC && !p.coarseDone) = some (i, j) ∧ (s.rgh.frames.getD i {}).zoomPass = true ∧ s.rd EVT_HAL_INH_LINES = 0) ∧
    (let j : Nat := 0; let s : State := framed { halfFrame with snap := ((profiled.wr RGE_FP_SEQ_NPH 1 1).wr RGH_FP_WIN_ZOOM_EN 0 1).regs, phases := [{ code := 2, firedC := 3, firedZ := 1 }] }; findPhase s (fun f p => p.firedC == f.shotsC && !p.coarseDone) = some (0, j) ∧ (s.rgh.frames.getD 0 {}).zoomPass = false ∧ (s.rgh.frames.getD 0 {}).delivered = false ∧ (s.rgh.frames.getD 0 {}).phases.length < (phaseList ((s.rgh.frames.getD 0 {}).rd RGE_FP_SEQ (s.rgh.frames.getD 0 {}).prof)).length ∧ s.rd EVT_HAL_INH_LINES = 0) ∧
    (let i : Nat := 0; let j : Nat := 0; let f : FrameSt := halfFrame; let s : State := framed halfFrame; findPhase s (fun f p => phaseFired f p && p.coarseDone && !p.done) = some (i, j) ∧ s.rgh.frames.getD i {} = f ∧ i = 0 ∧ f.phases.length < (phaseList (f.rd RGE_FP_SEQ f.prof)).length ∧ s.rd EVT_HAL_INH_LINES = 0) ∧
    (let j : Nat := 0; let f : FrameSt := analysed; let s : State := framed analysed; findPhase s (fun f p => phaseFired f p && p.coarseDone && !p.done) = some (0, j) ∧ s.rgh.frames.getD 0 {} = f ∧ f.ended = true ∧ f.delivered = false ∧ f.phases.length = (phaseList (f.rd RGE_FP_SEQ f.prof)).length ∧ ((∀ k < f.phases.length, k ≠ j → (f.phases.getD k {}).done = true)) ∧ s.rgh.frames.length = 1 ∧ s.rd EVT_HAL_INH_LINES = 0) ∧
    (let j : Nat := 0; let f : FrameSt := { analysed with ended := false }; let s : State := framed { analysed with ended := false }; findPhase s (fun f p => phaseFired f p && p.coarseDone && !p.done) = some (0, j) ∧ s.rgh.frames = [f] ∧ f.ended = false ∧ f.delivered = false ∧ f.phases.length = (phaseList (f.rd RGE_FP_SEQ f.prof)).length ∧ ((∀ k < f.phases.length, k ≠ j → (f.phases.getD k {}).done = true)) ∧ s.rd EVT_HAL_INH_LINES = 0) ∧
    (let s : State := full; Reaches s (RGH_CTRL.off 0 0) ∧ s.rd EVT_HAL_INH_LINES = 0) ∧
    (let s : State := (full.wr RGH_STAT_FROZEN 1).wr RGH_CTRL_FREEZE 1; Reaches s (RGH_CTRL.off 0 0) ∧ s.rd EVT_HAL_INH_LINES = 0) := by and_intros <;> decide +kernel

/-- The hypotheses of `CalibrationOfFixesTakesEffect`, clause by clause. -/
theorem witness_calibrationOfFixesTakesEffect :
    (let x : Nat := 900; let s : State := sweeping [(255, 4)] 4; calRuns s = true ∧ measuring s = false ∧ convDead s (s.rd RGH_CAL_STAT_INPUT) x = false ∧ s.fix.total < 262144) ∧
    (let x : Nat := 900; let s : State := sweeping [(255, 4)] 262144; (calRuns s = false ∨ measuring s = true ∨ convDead s (s.rd RGH_CAL_STAT_INPUT) x = true ∨
      262144 ≤ s.fix.total)) ∧
    (let x : Nat := 900; let s : State := { sweeping [(255, 4)] 4 with rgh := { deadT := [(0, 700)] } }; (calRuns s = false ∨ measuring s = true ∨ convDead s (s.rd RGH_CAL_STAT_INPUT) x = true ∨
      262144 ≤ s.fix.total)) ∧
    (let x : Nat := 900; let s : State := { sweeping [(255, 4)] 4 with rgh := { expect := true } }; (calRuns s = false ∨ measuring s = true ∨ convDead s (s.rd RGH_CAL_STAT_INPUT) x = true ∨
      262144 ≤ s.fix.total)) ∧
    (let i : Fin 65 := 64; let s : State := (sweeping ((List.range 256).map fun k => (k, 1024)) 262144).wr RGH_CAL_STAT_INPUT 64; calRuns s = true ∧ s.fix.total = 262144 ∧ s.rd RGH_CAL_STAT_INPUT = i ∧ s.frameNow = none ∧ s.fix.waiting = [] ∧ ((∀ j : Fin 256, 0 < kvGet (fun _ => 0) s.fix.hits j ∧ kvGet (fun _ => 0) s.fix.hits j ≤ 4096)) ∧ s.rd EVT_HAL_INH_LINES = 0) ∧
    (let i : Fin 65 := 3; let j : Fin 256 := 9; let s : State := (sweeping ((List.range 9).map fun k => (k, 1024)) 262144).wr RGH_CAL_STAT_INPUT 3; calRuns s = true ∧ s.fix.total = 262144 ∧ s.rd RGH_CAL_STAT_INPUT = i ∧ s.fix.waiting = [] ∧ (kvGet (fun _ => 0) s.fix.hits j = 0 ∨ 4096 < kvGet (fun _ => 0) s.fix.hits j) ∧ s.rd EVT_HAL_INH_LINES = 0) ∧
    (let i : Fin 65 := 64; let s : State := full.wr RGH_CAL_CTRL_EN 0; s.loaded 6 = true ∧ tableStale s i = true) ∧
    (let i : Fin 65 := 64; let s : State := full.wr RGH_CAL_CTRL_EN 1; tableStale s i = false) ∧
    (let s : State := { full with hrn := { full.hrn with domains := 0 } } |> fun s => { s with fix := { s.fix with edges := [(64, 5)] } }; s.powered 22 = false) ∧
    (let s : State := { full with fix := { full.fix with edges := [(64, 5)], part := true } }; s.loaded 6 = true ∧ s.powered 22 = true ∧ s.fix.part = true) ∧
    (let s : State := { full.wr RGH_RATE_CAL_RATE 10 64 with fix := { full.fix with edges := [(64, 5)] } }; s.loaded 6 = true ∧ s.powered 22 = true ∧ s.fix.part = false) := by and_intros <;> decide +kernel

/-- Sink 23 may conduct, with its settings in force. -/
def lamp : State :=
  ((((full.wr ILU_SINK_CFG_USED 1 23).wr ILU_SINK_CTRL_EN 1 23).wr ILU_SINK_CFG_CONV 0 23).wr ILU_SINK_CFG_LAMP 0 23).updSinkSt 23 fun x =>
    { x with ctrl := 0x80002000, duty := 50, run := true, onRem := 90, chRem := 16000 }

/-- Sink 23 is watched by a blanked channel 3 and has had no measurement for a second. -/
def dark : State :=
  { ((((lamp.wr ILU_SINK_CTRL_AWL_EN 1 23 |>.wr SNS_TPL_CFG_PIXPER 8 3).wr ILU_SINK_CFG_GCH 3 23).wr ILU_DIAG_AWL_INT 10).updChan 3 fun x => { x with on := true, blank := true, blankAt := 999999000, endAt := 1000002000 }) with
    elapsed := 1000000000 }

/-- The hypotheses of `SinksTakeEffect`, clause by clause. -/
theorem witness_sinksTakeEffect :
    (let k : Fin 24 := 23; let s : State := ((full.updSinkSt 23 fun x => { x with lit := true }).wr ILU_SINK_CTRL_EN 1 23).wr ILU_SINK_DUTY_DUTY 77 23; s.loaded 7 = true ∧ sinkGated s k = false) ∧
    (let k : Fin 24 := 23; let s : State := { full.updSinkSt 23 fun x => { x with lit := true } with elapsed := 1840 }; s.loaded 7 = true ∧ nextPeriod s k ≤ s.elapsed ∧ timingRef s = true ∧ ((∀ x ∈ s.sink, x.2.since = none ∧ x.2.awl = none))) ∧
    (let k : Fin 24 := 23; let s : State := (full.updSinkSt 23 fun x => { x with ctrl := 0x10000000, duty := 5 }).wr ILU_SINK_DUTY_DUTY 77 23; s.loaded 7 = true ∧ sinkGated s k = true) ∧
    (let k : Fin 24 := 23; let s : State := { ((lamp.wr ILU_SINK_CFG_GCH 3 23).updSinkSt 23 fun x => { x with ctrl := 0xA8002000 }).updChan 3 fun x => { x with on := true, winOpen := 1, endAt := 9000 } with
    elapsed := 5000 }; sinkLights s k = true ∧ sinkGate s k = 2 ∧ (s.sinkSt k).since = none ∧ timingRef s = true) ∧
    (let k : Fin 24 := 23; let u : Nat := 16384; let s : State := { (lamp.updSinkSt 23 fun x => { x with ctrl := 0x80802000, duty := 4, t0 := 1000 }) with elapsed := 2000 }; sinkLights s k = true ∧ sinkGate s k ≠ 2 ∧ (s.sinkSt k).since = none ∧ nextOn (s.sinkSt k).duty (sinkSpread s k) ((s.elapsed - (s.sinkSt k).t0 + 9) / 10) = some u) ∧
    (let k : Fin 24 := 23; let u : Nat := 16384; let a : Nat := 1000; let e : Nat := 3500; let s : State := { (lamp.updSinkSt 23 fun x => { x with ctrl := 0x80802000, duty := 1000, t0 := 1000, since := some 1000, stop := some 3500 }) with elapsed := 2000 }; sinkLights s k = true ∧ sinkGate s k ≠ 2 ∧ (s.sinkSt k).since = some a ∧ (s.sinkSt k).stop = some e ∧ (s.sinkSt k).awl = none ∧ timingRef s = true ∧ nextOn (s.sinkSt k).duty (sinkSpread s k) ((max s.elapsed e - (s.sinkSt k).t0 + 9) / 10) = some u) ∧
    (let k : Fin 24 := 23; let s : State := full; sinkLights s k = false ∧ (s.sinkSt k).awl = none) ∧
    (let k : Fin 24 := 23; let s : State := lamp.updSinkSt 23 fun x => { x with duty := 0 }; sinkGate s k ≠ 2 ∧ (s.sinkSt k).since = none ∧ nextOn (s.sinkSt k).duty (sinkSpread s k) ((s.elapsed - (s.sinkSt k).t0 + 9) / 10) = none) ∧
    (let k : Fin 24 := 23; let s : State := lamp.updSinkSt 23 fun x => { x with ticks := 40, low := 7 }; 40 ≤ (s.sinkSt k).ticks ∧ sinkMay s k = true ∧ measOld s k 10000 = true ∧ ((s.sinkSt k).since = none ∨ sinkLights s k = true)) ∧
    (let k : Fin 24 := 23; let s : State := lamp.updSinkSt 23 fun x => { x with ticks := 40, low := 7, since := some 0 }; 40 ≤ (s.sinkSt k).ticks ∧ sinkMay s k = true ∧ measOld s k 10000 = true ∧ ((s.sinkSt k).since = none ∨ sinkLights s k = true)) ∧
    (let k : Fin 24 := 23; let s : State := lamp.updSinkSt 23 fun x => { x with ticks := 39 }; ((s.sinkSt k).ticks < 40 ∨ sinkMay s k = false ∨ (measOld s k 10000 = false ∧ (s.sinkSt k).began + 300 ≤ s.elapsed ∧ timingRef s = true))) ∧
    (let k : Fin 24 := 23; let s : State := { (lamp.updSinkSt 23 fun x => { x with ticks := 40, meas := some (90, 1) }) with elapsed := 9000 }; ((s.sinkSt k).ticks < 40 ∨ sinkMay s k = false ∨ (measOld s k 10000 = false ∧ (s.sinkSt k).began + 300 ≤ s.elapsed ∧ timingRef s = true))) ∧
    (let k : Fin 24 := 23; let s : State := dark; sinkWatched s k = true ∧ s.flag ILU_SINK_CTRL_AWL_EN k = true ∧ unmeasured s k (awlInt s) = true ∧ sinkMay s k = true ∧ sinkChannel s k = true ∧ blankLong s (s.rd ILU_SINK_CFG_GCH k) = true) ∧
    (let k : Fin 24 := 23; let s : State := full; (unmeasured s k (awlInt s) = false ∨ blankLong s (s.rd ILU_SINK_CFG_GCH k) = false)) ∧
    (let k : Fin 24 := 23; let s : State := dark.wr ILU_SINK_STAT_UNVERIFIED 0 23; s.loaded 7 = true ∧ sinkWatched s k = true ∧ unmeasured s k (4 * awlInt s) = true ∧ s.flag ILU_SINK_STAT_UNVERIFIED k = false) := by and_intros <;> decide +kernel

/-- The hypotheses of `ConverterAndLampTakeEffect`, clause by clause. -/
theorem witness_converterAndLampTakeEffect :
    (let s : State := full; s.rd ILU_CONV_STAT_STATE ≠ 2) ∧
    (let s : State := full.wr ILU_CONV_STAT_STATE 2; s.rd ILU_CONV_STAT_STATE = 2 ∧ s.conv.meas = []) ∧
    (let k : Fin 24 := 23; let mv : Nat := 200; let s : State := { (full.wr ILU_CONV_STAT_STATE 2).wr ILU_SINK_CFG_CONV 1 23 with conv := { target := 20000, meas := [(23, 200)] } }; s.rd ILU_CONV_STAT_STATE = 2 ∧ s.conv.meas = [(k.val, mv)] ∧ s.flag ILU_SINK_CFG_CONV k = true ∧ s.flag ILU_SINK_STAT_OPEN k = false) ∧
    (let s : State := full; Reaches s (ILU_CONV_CTRL.off 0 0) ∧ s.flag ILU_CONV_CTRL_EN = false ∧ convBlocked s = false) ∧
    (let s : State := (full.wr ILU_SINK_CFG_CONV 1 23).wr ILU_SINK_STAT_SHORT_GND 1 23; Reaches s (ILU_CONV_CTRL.off 0 0) ∧ s.flag ILU_CONV_CTRL_EN = false ∧ convBlocked s = true) ∧
    (let s : State := full.wr ILU_CONV_STAT_STATE 1; s.rd ILU_CONV_STAT_STATE = 1) ∧
    (let s : State := { full.wr ILU_CONV_STAT_STATE 1 with elapsed := 9000000, conv := { excursions := 7000000 :: List.replicate 6 8500000 } }; s.loaded 7 = true ∧ (s.conv.excursions.filter fun x => decide (s.elapsed - x ≤ 1000000)).length < 7) ∧
    (let s : State := { full.wr ILU_CONV_STAT_STATE 2 with elapsed := 9000000, conv := { excursions := List.replicate 7 8500000 } }; s.loaded 7 = true ∧ 7 ≤ (s.conv.excursions.filter fun x => decide (s.elapsed - x ≤ 1000000)).length) ∧
    (let s : State := { full with conv := { stopped := true } }; s.conv.stopped = true) ∧
    (let c : ConvFault := .loss; let s : State := full.wr ILU_CONV_STAT_STATE 2; s.loaded 7 = true ∧ (c ≠ .loss ∨ s.rd ILU_CONV_STAT_STATE = 2)) ∧
    (let c : ConvFault := .ilim; let s : State := full; s.loaded 7 = true ∧ (c ≠ .loss ∨ s.rd ILU_CONV_STAT_STATE = 2)) ∧
    (let c : ConvFault := .loss; let s : State := full.wr ILU_CONV_STAT_STATE 1; (s.loaded 7 = false ∨ (c = .loss ∧ s.rd ILU_CONV_STAT_STATE ≠ 2))) ∧
    (let s : State := full; Reaches s (ILU_CTRL.off 0 0)) ∧
    (let s : State := (full.wr ILU_STAT_LAMP_TRIP 1).wr ILU_HAL_LINES 0; Reaches s (ILU_CTRL.off 0 0) ∧ s.rd ILU_HAL_LINES = 0) ∧
    (let s : State := ((full.wr ILU_STAT_LAMP_TRIP 1).wr ILU_HAL_LINES 8).wr EVT_HAL_STAT_LEVEL 8; Reaches s (ILU_CTRL.off 0 0) ∧ s.lampLine = true ∧ s.flag ILU_STAT_LAMP_TRIP = true) ∧
    (let s : State := { full with diss := List.replicate 100 30000000000000000 }; s.loaded 7 = true) ∧
    (let s : State := { full with diss := List.replicate 100 3000000000000000 }; s.loaded 7 = true) ∧
    (let k : Fin 24 := 23; let mv : Nat := 900; let m : Nat := 5; let x : SinkSt := { meas := some (900, 5), binQ := 4 }; let s : State := { full with sink := [(23, { meas := some (900, 5), binQ := 4 })] }; s.loaded 7 = true ∧ s.sink = [(k.val, x)] ∧ timingRef s = true ∧ x.since = none ∧ x.awl = none ∧ x.meas = some (mv, m) ∧ nextRun s 12 1000000 - m ≤ 100000000) ∧
    (let s : State := State.reset; s.loaded 7 = false) ∧
    (let s : State := (full.wr ILU_STAT_DISS_TRIP 1).wr ILU_DIAG_WARN 5; Reaches s (ILU_CTRL.off 0 0) ∧ s.rd ILU_STAT_DISS < dissWarn s) ∧
    (let s : State := (full.wr ILU_STAT_DISS_TRIP 1).wr ILU_STAT_DISS 1500; Reaches s (ILU_CTRL.off 0 0) ∧ dissWarn s ≤ s.rd ILU_STAT_DISS) ∧
    (let s : State := full; Reaches s (ILU_CTRL.off 0 0) ∧ s.flag ILU_CONV_CTRL_EN = false ∧ ((∀ k : Fin 24, s.flag ILU_SINK_CTRL_EN k = false))) ∧
    (let k : Fin 24 := 23; let s : State := lamp; Reaches s (ILU_CTRL.off 0 0) ∧ s.flag ILU_SINK_CTRL_EN k = true) ∧
    (let k : Fin 24 := 23; let s : State := (full.wr ILU_STAT_SHORT_BUSY 1).wr ILU_SINK_CFG_USED 1 23; s.flag ILU_STAT_SHORT_BUSY = true ∧ s.flag ILU_SINK_CFG_USED k = true) ∧
    (let k : Fin 24 := 22; let s : State := ((full.wr ILU_STAT_SHORT_BUSY 1).wr ILU_SINK_CFG_USED 1 23).wr ILU_SINK_STAT_SHORT_ADJ 1 22; s.flag ILU_STAT_SHORT_BUSY = true ∧ s.flag ILU_SINK_CFG_USED k = false) ∧
    (let k : Fin 24 := 21; let s : State := ((full.wr ILU_STAT_SHORT_BUSY 1).wr ILU_SINK_CFG_USED 1 23).wr ILU_SINK_STAT_SHORT_ADJ 1 21; s.flag ILU_STAT_SHORT_BUSY = true ∧ s.flag ILU_SINK_CFG_USED k = false) ∧
    (let s : State := full; s.flag ILU_STAT_SHORT_BUSY = false) := by and_intros <;> decide +kernel

/-- Engine 15 starts at step 62 with the word `w`. -/
def programmed (w : Nat) : State :=
  (((full.wr ILU_PE_CFG_START 62 15).wr ILU_PE_STAT_STEP 62 15).wr ILU_PE_PROG_LO_WORD w 15 62).wr ILU_PE_PROG_HI_WORD (w / 2 ^ 32) 15 62

/-- The hypotheses of `PatternEnginesTakeEffect`, clause by clause. -/
theorem witness_patternEnginesTakeEffect :
    (let e : Fin 16 := 15; let s : State := (programmed 0x1000005555800000).wr ILU_SINK_CFG_PE 15 23; Reaches s (ILU_PE_CFG.off e 0) ∧ peActive s e = false ∧ s.quiescing 7 = false ∧ bitsOf (peWord s e (s.rd ILU_PE_CFG_START e)) 60 4 = 1) ∧
    (let e : Fin 16 := 15; let s : State := (programmed 0x1200005555800000).wr ILU_SINK_CFG_PE 15 23; Reaches s (ILU_PE_CFG.off e 0) ∧ peActive s e = false ∧ s.quiescing 7 = false ∧ bitsOf (peWord s e (s.rd ILU_PE_CFG_START e)) 60 4 = 1) ∧
    (let e : Fin 16 := 15; let s : State := programmed 0; Reaches s (ILU_PE_CFG.off e 0) ∧ peActive s e = false ∧ s.quiescing 7 = false ∧ bitsOf (peWord s e (s.rd ILU_PE_CFG_START e)) 60 4 = 0) ∧
    (let e : Fin 16 := 15; let s : State := programmed 0x7000000000000000; Reaches s (ILU_PE_CFG.off e 0) ∧ peActive s e = false ∧ s.quiescing 7 = false ∧ 7 ≤ bitsOf (peWord s e (s.rd ILU_PE_CFG_START e)) 60 4) ∧
    (let e : Fin 16 := 15; let s : State := programmed 0x6000005555000000; Reaches s (ILU_PE_CFG.off e 0) ∧ peActive s e = false ∧ s.quiescing 7 = false ∧ bitsOf (peWord s e (s.rd ILU_PE_CFG_START e)) 60 4 = 6) ∧
    (let e : Fin 16 := 15; let s : State := programmed 0x4000000015000000; Reaches s (ILU_PE_CFG.off e 0) ∧ peActive s e = false ∧ s.quiescing 7 = false ∧ bitsOf (peWord s e (s.rd ILU_PE_CFG_START e)) 60 4 = 4 ∧ bitsOf (peWord s e (s.rd ILU_PE_CFG_START e)) 40 16 = 0) ∧
    (let e : Fin 16 := 15; let s : State := (programmed 0x3000010000000000).wr ILU_PE_STAT_ACTIVE 1 15; Reaches s (ILU_PE_CFG.off e 0) ∧ peActive s e = true) ∧
    (let e : Fin 16 := 15; let s : State := (((programmed 0x3000010000000000).wr ILU_PE_STAT_ACTIVE 1 15).wr ILU_SINK_CFG_PE 15 23).wr ILU_SINK_STAT_OWNED 1 23; Reaches s (ILU_PE_CFG.off e 0) ∧ peActive s e = true) ∧
    (let e : Fin 16 := 15; let s : State := full; (peActive s e = false ∨ (s.peSt e).held = true)) ∧
    (let e : Fin 16 := 15; let n : Nat := 5; let s : State := ((programmed 0x3000050000000000).wr ILU_PE_STAT_ACTIVE 1 15).updPeSt 15 fun x => { x with next := 63, word := 0x3000050000000000 }; peActive s e = true ∧ (s.peSt e).held = false ∧ s.quiescing 7 = false ∧ (peWaits (peStepWord s e) = false ∨ (bitsOf (peStepWord s e) 58 2 = 0 ∧ bitsOf (peStepWord s e) 40 16 ≤ (s.peSt e).unit + n))) ∧
    (let e : Fin 16 := 15; let n : Nat := 5; let k : Nat := 23; let v : Nat := 1000; let s : State := ((programmed 0x22000A0000800000).wr ILU_PE_STAT_ACTIVE 1 15).updPeSt 15 fun x => { x with unit := 2, v0 := [(23, 1000)], word := 0x22000A0000800000 }; peOn s e 0 = true ∧ bitsOf (peStepWord s e) 60 4 = 2 ∧ (s.peSt e).v0 = [(k, v)] ∧ k < 24 ∧ v ≤ 16383 ∧ bit (peStepWord s e) 57 = true ∧ (s.peSt e).unit + n < bitsOf (peStepWord s e) 40 16) := by and_intros <;> decide +kernel

/-- The hypotheses of `ChainsTakeEffect`, clause by clause. -/
theorem witness_chainsTakeEffect :
    (let ch : Fin 2 := 1; let s : State := (chained.wr ILU_SW_CTRL_DRIVERS 2 1).wr ILU_SW_STAT_SEQ 255 1; Reaches s (ILU_SW_CTRL.off ch 0) ∧ chainEn s ch = true ∧ s.quiescing 7 = false ∧ s.rd ILU_SW_STAT_STATE ch = 0 ∧ chainBad s ch = false) ∧
    (let ch : Fin 2 := 1; let s : State := chained.wr ILU_SW_STAT_STATE 2 1; Reaches s (ILU_SW_CTRL.off ch 0) ∧ chainEn s ch = true ∧ s.quiescing 7 = false ∧ chainState s ch ≠ 0) ∧
    (let ch : Fin 2 := 1; let s : State := chained.wr ILU_SW_CTRL_REFRESH 9 1; chainEn s ch = true ∧ s.loaded 7 = true ∧ s.quiescing 7 = false ∧ s.rd ILU_SW_STAT_STATE ch = 0 ∧ chainBad s ch = false ∧ s.rd ILU_SW_CTRL_REFRESH ch ≠ 0) ∧
    (let ch : Fin 2 := 1; let s : State := (List.range 65).foldl (fun s d => s.wr ILU_SW_SHARE_DBYTES 32 1 d) ((chained.wr ILU_SW_CTRL_REFRESH 9 1).wr ILU_SW_CTRL_DRIVERS 65 1); chainEn s ch = true ∧ s.loaded 7 = true ∧ s.quiescing 7 = false ∧ s.rd ILU_SW_STAT_STATE ch = 0 ∧ chainBad s ch = true ∧ s.rd ILU_SW_CTRL_REFRESH ch ≠ 0) ∧
    (let ch : Fin 2 := 1; let s : State := chained; s.rd ILU_SW_CTRL_REFRESH ch = 0) ∧
    (let ch : Fin 2 := 1; let h : Byte := 0x80; let x : Byte := 9; let s : State := (chained.wr ILU_SW_STAT_STATE 2 1).wr ILU_SW_STAT_SEQ 9 1; (s.rd ILU_SW_STAT_STATE ch = 1 ∨ s.rd ILU_SW_STAT_STATE ch = 2) ∧ ((∀ d, d < s.rd ILU_SW_CTRL_DRIVERS ch → sBytes s ch d = 0)) ∧ h.toNat / 64 = 2 ∧ x.toNat = s.rd ILU_SW_STAT_SEQ ch) ∧
    (let ch : Fin 2 := 1; let h : Byte := 0x80; let x : Byte := 9; let s : State := ((((chained.wr ILU_SW_STAT_STATE 2 1).wr ILU_SW_STAT_SEQ 9 1).wr ILU_SW_CTRL_DRIVERS 1 1).wr ILU_SW_SHARE_SBYTES 1 1 0).wr ILU_SW_STS_BYTES 0x11223344 1 0; (s.rd ILU_SW_STAT_STATE ch = 1 ∨ s.rd ILU_SW_STAT_STATE ch = 2) ∧ s.rd ILU_SW_CTRL_DRIVERS ch = 1 ∧ sBytes s ch 0 = 1 ∧ h.toNat / 64 = 2 ∧ x.toNat = s.rd ILU_SW_STAT_SEQ ch) ∧
    (let ch : Fin 2 := 1; let h : Byte := 0x80; let x : Byte := 9; let v : Byte := 0x85; let c : Byte := 0; let s : State := (((chained.wr ILU_SW_STAT_STATE 2 1).wr ILU_SW_STAT_SEQ 9 1).wr ILU_SW_CTRL_DRIVERS 1 1).wr ILU_SW_SHARE_SBYTES 1 1 0; (s.rd ILU_SW_STAT_STATE ch = 1 ∨ s.rd ILU_SW_STAT_STATE ch = 2) ∧ s.rd ILU_SW_CTRL_DRIVERS ch = 1 ∧ sBytes s ch 0 = 1 ∧ h.toNat / 64 = 2 ∧ x.toNat = s.rd ILU_SW_STAT_SEQ ch ∧ c.toNat ≠ crc8 [v.toNat]) ∧
    (let ch : Fin 2 := 1; let h : Byte := 0x80; let x : Byte := 9; let c : Byte := 0; let s : State := (chained.wr ILU_SW_STAT_STATE 2 1).wr ILU_SW_STAT_SEQ 8 1; (s.rd ILU_SW_STAT_STATE ch = 1 ∨ s.rd ILU_SW_STAT_STATE ch = 2) ∧ (h.toNat / 64 ≠ 2 ∨ x.toNat ≠ s.rd ILU_SW_STAT_SEQ ch ∨ c.toNat ≠ crc8 [h.toNat, x.toNat])) ∧
    (let ch : Fin 2 := 1; let h : Byte := 0x80; let x : Byte := 9; let l : List Byte := [1]; let s : State := (chained.wr ILU_SW_STAT_STATE 2 1).wr ILU_SW_STAT_SEQ 9 1; (s.rd ILU_SW_STAT_STATE ch = 1 ∨ s.rd ILU_SW_STAT_STATE ch = 2) ∧ h.toNat / 64 = 2 ∧ x.toNat = s.rd ILU_SW_STAT_SEQ ch ∧ 3 + l.length ≠ returnLen s ch) ∧
    (let ch : Fin 2 := 1; let s : State := chained; (s.rd ILU_SW_STAT_STATE ch = 0 ∨ s.rd ILU_SW_STAT_STATE ch = 3)) ∧
    (let ch : Fin 2 := 1; let s : State := chained.wr ILU_SW_STAT_STATE 2 1; (s.rd ILU_SW_STAT_STATE ch = 1 ∨ s.rd ILU_SW_STAT_STATE ch = 2)) ∧
    (let ch : Fin 2 := 1; let s : State := chained.wr ILU_SW_STAT_STATE 3 1; s.rd ILU_SW_STAT_STATE ch = 3 ∧ (s.chainSt ch).held = false) ∧
    (let ch : Fin 2 := 1; let s : State := (chained.wr ILU_SW_STAT_STATE 3 1).updChainSt 1 fun x => { x with held := true }; s.rd ILU_SW_STAT_STATE ch = 3 ∧ (s.chainSt ch).held = true ∧ chainEn s ch = true ∧ s.loaded 7 = true ∧ s.quiescing 7 = false ∧ chainBad s ch = false) ∧
    (let ch : Fin 2 := 1; let d : Nat := 5; let l : List Nat := [6]; let s : State := chained.updChainSt 1 fun x => { x with waiting := [5, 6] }; (s.chainSt ch).waiting = d :: l ∧ s.quiesced 7 = false) ∧
    (let ch : Fin 2 := 1; let s : State := (chained.updChainSt 1 fun x => { x with waiting := [5, 6] }).wr GLB_PANEL_STAT_QUIESCED 0x80; ((s.chainSt ch).waiting = [] ∨ s.quiesced 7 = true)) ∧
    (let ch : Fin 2 := 1; let e : Nat := 5; let l : List Nat := [6]; let s : State := chained.updChainSt 1 fun x => { x with flight := [5, 6] }; (s.chainSt ch).flight = e :: l) ∧
    (let ch : Fin 2 := 1; let e : Nat := 5; let l : List Nat := [6]; let s : State := chained.updChainSt 1 fun x => { x with flight := [5, 6] }; (s.chainSt ch).flight = e :: l) := by and_intros <;> decide +kernel

/-- Converter 1 runs; its first regular and injected entries are setup 9. -/
def converting : State := ((full.wr CNV_CTRL_EN 1 1).wr CNV_SEQ_SETUP 9 1 0).wr CNV_INJ_SETUP 9 1 0

/-- Converter 1 is at the last entry of its regular pass, setup 9, in phase `p`. -/
def lastOne (p : Nat) : State :=
  (converting.wr AFE_SU_K_K 0x3F800000 9).updCvSt 1 fun x => { x with phase := p, setup := 9, entry := 3, regRun := true, regNext := 17 }

/-- Converter 0 is at the last entry of its regular pass, the shared setup 9, alone. -/
def aloneOne : State :=
  (full.wr CNV_CTRL_EN 1 0).updCvSt 0 fun x => { x with phase := 3, setup := 9, entry := 3, regRun := true, regNext := 17, alone := true }

/-- The hypotheses of `TriggersStartPasses`, clause by clause. -/
theorem witness_triggersStartPasses :
    (let cv : Fin 2 := 1; let k : Nat := 9; let s : State := converting; Reaches s (CNV_CTRL.off cv 0) ∧ CvIdle s cv ∧ s.rd CNV_TRIG_DELAY cv 0 = 0 ∧ s.rd CNV_SEQ_SETUP cv 0 = k ∧ setupBad s cv k = false ∧ s.flag CNV_SHARED_EN = false) ∧
    (let cv : Fin 2 := 1; let k : Nat := 9; let s : State := converting; Reaches s (CNV_CTRL.off cv 0) ∧ CvIdle s cv ∧ s.rd CNV_TRIG_DELAY cv 1 = 0 ∧ s.rd CNV_INJ_SETUP cv 0 = k ∧ setupBad s cv k = false) ∧
    (let cv : Fin 2 := 1; let s : State := converting.wr CNV_TRIG_DELAY 5 1 0; Reaches s (CNV_CTRL.off cv 0) ∧ CvIdle s cv ∧ s.rd CNV_TRIG_DELAY cv 0 ≠ 0) ∧
    (let cv : Fin 2 := 1; let s : State := (converting.wr CAL_STAT_STATE 1).wr CAL_STAT_STEP 3; Reaches s (CNV_CTRL.off cv 0) ∧ cvOn s cv = true ∧ cvHeld s = true ∧ (s.cvSt 0).phase ≠ 5) ∧
    (let cv : Fin 2 := 1; let s : State := full; Reaches s (CNV_CTRL.off cv 0) ∧ cvOn s cv = false ∧ (s.cvSt 0).phase ≠ 5) ∧
    (let cv : Fin 2 := 1; let k : Nat := 9; let s : State := converting.wr CNV_TRIG_TSRC 1 1 0; s.rd CNV_TRIG_TSRC cv 0 = 1 ∧ CvIdle s cv ∧ s.rd CNV_TRIG_DELAY cv 0 = 0 ∧ s.rd CNV_SEQ_SETUP cv 0 = k ∧ setupBad s cv k = false ∧ s.flag CNV_SHARED_EN = false) ∧
    (let cv : Fin 2 := 1; let q : Fin 2 := 0; let s : State := converting; s.rd CNV_TRIG_TSRC cv q ≠ 1) ∧
    (let cv : Fin 2 := 1; let d : Nat := 5; let s : State := converting.updCvSt 1 fun x => { x with delR := some 5, regRun := true }; (s.cvSt cv).delR = some d ∧ (s.cvSt cv).rpend = false ∧ (s.cvSt cv).regRun = true) ∧
    (let cv : Fin 2 := 1; let d : Nat := 5; let k : Nat := 9; let s : State := converting.updCvSt 1 fun x => { x with delR := some 5 }; (s.cvSt cv).delR = some d ∧ CvIdle (s.updCvSt cv fun x => { x with delR := none }) cv ∧ s.rd CNV_SEQ_SETUP cv 0 = k ∧ setupBad s cv k = false ∧ s.flag CNV_SHARED_EN = false) ∧
    (let s : State := converting.updCvSt 0 fun x => { x with phase := 5, setup := 9 }; (s.cvSt 0).phase = 5 ∧ (s.cvSt 0).second = false ∧ sourceBusy s 0 (setupSources s (s.cvSt 0).setup) = false) ∧
    (let s : State := converting; (s.cvSt 0).phase ≠ 5) ∧
    (let cv : Fin 2 := 1; let s : State := converting.updCvSt 1 fun x => { x with phase := 3, regRun := true, rpend := true }; Reaches s (CNV_CTRL.off cv 0) ∧ cvOn s cv = true ∧ (s.cvSt cv).pair = false ∧ (s.cvSt (1 - cv)).phase = 0 ∧ (s.cvSt (1 - cv)).pair = false ∧ cvOn s (1 - cv) = false) := by and_intros <;> decide +kernel

/-- The hypotheses of `ConversionsTakeEffect`, clause by clause. -/
theorem witness_conversionsTakeEffect :
    (let cv : Fin 2 := 1; let s : State := { converting.updCvSt 1 (fun x => { x with phase := 2 }) with chrono := 77 }; (s.cvSt cv).phase = 2 ∧ (s.cvSt cv).pair = false) ∧
    (let cv : Fin 2 := 1; let s : State := converting; (s.cvSt cv).phase ≠ 2 ∧ (s.cvSt 0).pair = false) ∧
    (let cv : Fin 2 := 1; let k : Nat := 9; let s : State := lastOne 3; CvLast s cv ∧ (s.cvSt cv).phase = 3 ∧ (s.cvSt cv).setup = k ∧ k < 32 ∧ setupSwaps s k = false ∧ (s.cvSt cv).second = false ∧ (s.cvSt cv).ovr = false ∧ s.flag AFE_SU_SET_OW_EN k = false) ∧
    (let cv : Fin 2 := 1; let k : Nat := 9; let s : State := lastOne 3; CvLast s cv ∧ (s.cvSt cv).phase = 3 ∧ (s.cvSt cv).setup = k ∧ k < 32 ∧ setupSwaps s k = false ∧ (s.cvSt cv).second = false ∧ (s.cvSt cv).ovr = false ∧ s.flag AFE_SU_SET_OW_EN k = false) ∧
    (let cv : Fin 2 := 0; let k : Nat := 9; let s : State := aloneOne; CvLast s cv ∧ (s.cvSt cv).phase = 3 ∧ (s.cvSt cv).setup = k ∧ setupSwaps s k = false ∧ s.flag AFE_SU_SET_OW_EN k = false ∧ (s.cvSt cv).alone = true) ∧
    (let cv : Fin 2 := 1; let s : State := converting; (s.cvSt cv).phase ≠ 3) ∧
    (let cv : Fin 2 := 1; let s : State := lastOne 4; (s.cvSt cv).phase = 4) ∧
    (let cv : Fin 2 := 1; let s : State := converting; (s.cvSt cv).phase ≠ 4) ∧
    (let cv : Fin 2 := 1; let k : Nat := 9; let s : State := ((lastOne 4).updCvSt 1 fun x => { x with owOpen := some true }).wr AFE_SU_STAT_OWCOUNT 1 9; CvLast s cv ∧ (s.cvSt cv).phase = 4 ∧ (s.cvSt cv).setup = k ∧ k < 32 ∧ (s.cvSt cv).owOpen = some true) ∧
    (let cv : Fin 2 := 1; let s : State := converting; (s.cvSt cv).phase ≠ 4) ∧
    (let k : Fin 32 := 9; let cv : Fin 2 := 1; let s : State := lastOne 3; Reaches s (AFE_SU_IN.off k 0) ∧ (s.cvSt cv).phase = 3 ∧ (s.cvSt cv).setup = k ∧ (s.cvSt cv).pair = false ∧ (s.cvSt (1 - cv)).phase = 0) ∧
    (let k : Fin 32 := 31; let s : State := full; Reaches s (AFE_SU_IN.off k 0) ∧ (s.cvSt 0).phase = 0 ∧ (s.cvSt 1).phase = 0) ∧
    (let cv : Fin 2 := 1; let s : State := lastOne 1; (s.cvSt cv).phase = 1 ∧ (s.cvSt cv).second = false ∧ sourceBusy s cv (setupSources s (s.cvSt cv).setup) = false) ∧
    (let cv : Fin 2 := 1; let s : State := converting; (s.cvSt cv).phase ≠ 1) := by and_intros <;> decide +kernel

/-- The hypotheses of `FrontEndTakesEffect`, clause by clause. -/
theorem witness_frontEndTakesEffect :
    (let p : Nat := 20000009; let s : State := { full.wr AFE_CFG_SYNC_EN 1 with afe := { good := 7, periods := List.replicate 7 20000009 } }; s.loaded 8 = true ∧ s.flag AFE_CFG_SYNC_EN = true ∧ 1000000000 ≤ 70 * p ∧ 40 * p ≤ 1000000000) ∧
    (let p : Nat := 25000001; let s : State := { full.wr AFE_CFG_SYNC_EN 1 with afe := { good := 7, periods := List.replicate 7 20000009 } }; s.loaded 8 = true ∧ s.flag AFE_CFG_SYNC_EN = true ∧ (70 * p < 1000000000 ∨ 1000000000 < 40 * p)) ∧
    (let s : State := (full.wr AFE_CFG_SYNC_EN 1).wr AFE_MAINS_LOCK 1; s.loaded 8 = true ∧ s.flag AFE_CFG_SYNC_EN = true) ∧
    (let s : State := withPanels 0; (s.loaded 8 = false ∨ s.flag AFE_CFG_SYNC_EN = false)) ∧
    (let s : State := (full.wr AFE_CFG_SRC_AGE 5).updSuSt (full.rd AFE_TS_CFG_SETUP 15) fun u => { u with last := some 70 }; s.loaded 8 = true ∧ s.rd AFE_CFG_SRC_AGE ≠ 0) ∧
    (let n : Fin 16 := 15; let s : State := full.wr AFE_CFG_SRC_AGE 5; s.loaded 8 = true ∧ s.rd AFE_CFG_SRC_AGE ≠ 0 ∧ (s.suSt (s.rd AFE_TS_CFG_SETUP n)).last = none) ∧
    (let s : State := full.wr AFE_CFG_SRC_AGE 0; (s.loaded 8 = false ∨ s.rd AFE_CFG_SRC_AGE = 0)) ∧
    (let m : BitVec 16 := 0x8000; let n : Fin 16 := 15; let s : State := (full.wr AFE_TS_CFG_LATCH 1 15).wr AFE_TS_STAT_STATE 0x8000; Reaches s (AFE_TS_CLR.off 0 0) ∧ m.getLsbD n = true ∧ s.flag AFE_TS_CFG_LATCH n = true ∧ bit (s.rd AFE_TS_STAT_STATE) n = true ∧ kvGet (fun _ => false) s.afe.tsHeld n = false) ∧
    (let m : BitVec 16 := 0x8000; let n : Fin 16 := 14; let s : State := full.wr AFE_TS_STAT_STATE 0x4000; Reaches s (AFE_TS_CLR.off 0 0) ∧ (m.getLsbD n = false ∨ kvGet (fun _ => false) s.afe.tsHeld n = true)) ∧
    (let s : State := full.wr AFE_POLY_COEF 0x3F800000 7 23; Reaches s (AFE_POLY_APPLY.off 0 0)) := by and_intros <;> decide +kernel

/-- Queue 63 with a spill region of one unit and a packet that has been read. -/
def spilling : State :=
  (((full.wr QUE_PART_BASE 100 63).wr QUE_PART_SIZE 2 63).wr QUE_SPILL_SIZE_SPILL 1 63).updQ 63 fun x =>
    { x with pkts := [⟨9, [{ data := 7, f := true }, { data := 8, l := true }]⟩, ⟨10, List.replicate 600 { data := 1 }⟩],
             rd := 2, cmt := 602, wr := 602 }

/-- Queue 63 holds a packet of two words, the first with bad parity. -/
def queued : State :=
  ((full.wr QUE_PART_BASE 100 63).wr QUE_PART_SIZE 2 63).updQ 63 fun x =>
    { x with pkts := [⟨9, [{ data := 7, f := true, bad := true }, { data := 8, l := true }]⟩], cmt := 2, wr := 2 }

/-- DMA channel 7 runs and fills a descriptor of queue 63. -/
def streaming : State :=
  (((((queued.wr QUE_CFG_DMA_EN 1 63).wr QUE_CFG_DCH 7 63).wr QUE_CFG_DEADLINE 5 63).wr PCR_DMA_CTRL_SIZE 3 7).wr PCR_DMA_CTRL_EN 1 7).wr
    PCR_DMA_STAT_STATE 1 7 |>.setDmaCh 7 { descs := [{ idx := 5, addr := 0x5000, len := 64, q := 63, irq := true, got := 8 }] }

/-- The hypotheses of `QueueCommandsTakeEffect`, clause by clause. -/
theorem witness_queueCommandsTakeEffect :
    (let q : Fin 64 := 63; let s : State := full.wr QUE_IDLE_LO 0x1234 63; Reaches s (0x1A00000 + 0x1000 * q) ∧ s.flag QUE_CFG_DMA_EN q = false ∧ qAt (s.q q) = none) ∧
    (let q : Fin 64 := 63; let w : QWord := { data := 7, f := true, bad := true }; let n : Nat := 9; let k : Nat := 0; let s : State := queued; Reaches s (0x1A00000 + 0x1000 * q) ∧ s.flag QUE_CFG_DMA_EN q = false ∧ qAt (s.q q) = some (w, n, k) ∧ qInSpill (s.q q) = false) ∧
    (let q : Fin 64 := 63; let s : State := full; Reaches s (QUE_CMD.off q 0) ∧ qDisabled s q = true) ∧
    (let q : Fin 64 := 63; let s : State := queued.updQ 63 fun x => { x with rd := 2, mark := 1, markV := true }; Reaches s (QUE_CMD.off q 0) ∧ qDisabled s q = false ∧ s.flag QUE_CFG_DMA_EN q = false) ∧
    (let q : Fin 64 := 63; let s : State := queued.updQ 63 fun x => { x with rd := 2, markLost := true }; Reaches s (QUE_CMD.off q 0) ∧ qDisabled s q = false ∧ s.flag QUE_CFG_DMA_EN q = false) ∧
    (let q : Fin 64 := 63; let s : State := queued; Reaches s (QUE_CMD.off q 0) ∧ qDisabled s q = false ∧ s.flag QUE_CFG_DMA_EN q = false) ∧
    (let q : Fin 64 := 63; let p : QPkt := ⟨9, [{ data := 7, f := true, bad := true }, { data := 8, l := true }]⟩; let r : List QPkt := []; let s : State := queued.updQ 63 fun x => { x with rd := 2 }; Reaches s (QUE_CMD.off q 0) ∧ qDisabled s q = false ∧ s.flag QUE_CFG_DMA_EN q = false ∧ (s.q q).pkts = p :: r ∧ p.words.length ≤ Machine.dist (s.q q).rel (s.q q).rd) ∧
    (let q : Fin 64 := 63; let s : State := queued; Reaches s (QUE_CMD.off q 0) ∧ qDisabled s q = false ∧ s.quiesced 10 = false ∧ s.flag QUE_CFG_DMA_EN q = false) ∧
    (let q : Fin 64 := 63; let s : State := full; Reaches s (QUE_CMD.off q 0) ∧ (qDisabled s q = true ∨ s.quiesced 10 = true)) ∧
    (let q : Fin 64 := 63; let n : Nat := 5; let s : State := spilling.updQ 63 fun x => { x with rd := 0 }; (n = 0 ∨ qSpillWaits s q = [])) ∧
    (let q : Fin 64 := 63; let i : Nat := 0; let l : List Nat := [1]; let w : QWord := { data := 7, f := true }; let s : State := spilling; qSpillWaits s q = i :: l ∧ (qWords (s.q q))[i]? = some w ∧ w.data < 2 ^ 64 ∧ (spillSlot s q ((freePlaces (s.q q) 1).headD 0)).1 + 64 ≤ s.board.dramSize) ∧
    (let q : Fin 64 := 63; let i : Nat := 3; let s : State := spilling; Machine.dist (s.q q).rel (s.q q).rd ≤ i ∧ i < Machine.dist (s.q q).rel (s.q q).rd + 512) ∧
    (let q : Fin 64 := 63; let n : Nat := 5; let s : State := spilling; (n = 0 ∨ qReturns s q = [])) ∧
    (let q : Fin 64 := 63; let i : Nat := 2; let k : Nat := 13; let l : List Nat := []; let w : QWord := { data := 0, dram := some 13 }; let s : State := (spillPut spilling 63 13 { data := 7, f := true }).updQ 63 fun x => { qUpdWord x 2 (fun _ => { data := 0, dram := some 13 }) with rd := 1 }; qReturns s q = i :: l ∧ (qWords (s.q q))[i]? = some w ∧ w.dram = some k) := by and_intros <;> decide +kernel

/-- The hypotheses of `DmaChannelsFetchDescriptors`, clause by clause. -/
theorem witness_dmaChannelsFetchDescriptors :
    (let ch : Fin 8 := 7; let s : State := full.wr PCR_DMA_CTRL_SIZE 3 7; Reaches s (PCR_DMA_CTRL.off ch 0) ∧ s.flag PCR_DMA_CTRL_EN ch = false ∧ 3 ≤ s.rd PCR_DMA_CTRL_SIZE ch) ∧
    (let ch : Fin 8 := 7; let s : State := full.wr PCR_DMA_CTRL_SIZE 2 7; Reaches s (PCR_DMA_CTRL.off ch 0) ∧ s.flag PCR_DMA_CTRL_EN ch = false ∧ s.rd PCR_DMA_CTRL_SIZE ch < 3) ∧
    (let ch : Fin 8 := 7; let s : State := streaming; Reaches s (PCR_DMA_CTRL.off ch 0) ∧ s.flag PCR_DMA_CTRL_EN ch = true) ∧
    (let ch : Fin 8 := 7; let s : State := streaming.wr PCR_DMA_STAT_STATE 2 7; Reaches s (PCR_DMA_CTRL.off ch 0) ∧ s.flag PCR_DMA_CTRL_EN ch = true) ∧
    (let ch : Fin 8 := 7; let s : State := full; Reaches s (PCR_DMA_TAIL.off ch 0)) ∧
    (let ch : Fin 8 := 7; let s : State := (streaming.wr PCR_DMA_HEAD_HEAD 7 7).wr PCR_DMA_TAIL_TAIL 2 7; s.rd PCR_DMA_STAT_STATE ch = 1 ∧ s.rd PCR_DMA_HEAD_HEAD ch % 2 ^ s.rd PCR_DMA_CTRL_SIZE ch ≠ s.rd PCR_DMA_TAIL_TAIL ch % 2 ^ s.rd PCR_DMA_CTRL_SIZE ch ∧ (s.dmaCh ch).descs.length + (s.dmaCh ch).asked.length < 512) ∧
    (let ch : Fin 8 := 7; let s : State := full; (s.rd PCR_DMA_STAT_STATE ch ≠ 1 ∨
    s.rd PCR_DMA_HEAD_HEAD ch % 2 ^ s.rd PCR_DMA_CTRL_SIZE ch = s.rd PCR_DMA_TAIL_TAIL ch % 2 ^ s.rd PCR_DMA_CTRL_SIZE ch)) ∧
    (let ch : Fin 8 := 7; let w1 : BitVec 64 := 0x3F01000000; let i : Nat := 3; let r : List Nat := [4]; let s : State := streaming.updDmaCh 7 fun x => { x with asked := [3, 4] }; (s.dmaCh ch).asked = i :: r ∧ dmaBound s ch (bitsOf w1.toNat 32 6) = true ∧ bitsOf w1.toNat 0 25 % 64 = 0 ∧ 64 ≤ bitsOf w1.toNat 0 25 ∧ bitsOf w1.toNat 0 25 ≤ 16777216) ∧
    (let ch : Fin 8 := 7; let w1 : BitVec 64 := 0x3E00000040; let i : Nat := 3; let r : List Nat := [4]; let s : State := streaming.updDmaCh 7 fun x => { x with asked := [3, 4] }; (s.dmaCh ch).asked = i :: r ∧ (dmaBound s ch (bitsOf w1.toNat 32 6) = false ∨ bitsOf w1.toNat 0 25 % 64 ≠ 0 ∨ bitsOf w1.toNat 0 25 = 0 ∨
      16777216 < bitsOf w1.toNat 0 25) ∧ ((∀ d ∈ (s.dmaCh ch).descs, d.idx ≠ i))) ∧
    (let ch : Fin 8 := 7; let s : State := streaming.updDmaCh 7 fun x => { x with asked := [3, 4] }; s.rd PCR_DMA_STAT_STATE ch = 1 ∧ (s.dmaCh ch).asked ≠ []) ∧
    (let ch : Fin 8 := 7; let s : State := full; (s.rd PCR_DMA_STAT_STATE ch ≠ 1 ∨ (s.dmaCh ch).asked = [])) := by and_intros <;> decide +kernel

/-- The hypotheses of `DmaBuffersTakeWords`, clause by clause. -/
theorem witness_dmaBuffersTakeWords :
    (let ch : Fin 8 := 7; let q : Fin 64 := 63; let d : Desc := { idx := 5, addr := 0x5000, len := 64, q := 63, irq := true, got := 8 }; let w : QWord := { data := 7, f := true, bad := true }; let n : Nat := 9; let k : Nat := 0; let s : State := streaming; s.rd PCR_DMA_STAT_STATE ch = 1 ∧ dmaBound s ch q = true ∧ (s.dmaCh ch).descs = [d] ∧ d.q = q.val ∧ d.got < d.len ∧ qAt (s.q q) = some (w, n, k) ∧ qInSpill (s.q q) = false) ∧
    (let ch : Fin 8 := 7; let q : Fin 64 := 63; let d : Desc := { idx := 5, addr := 0x5000, len := 64, q := 63, irq := true, got := 64, npk := 1, cont := true }; let s : State := streaming.setDmaCh 7 { descs := [{ idx := 5, addr := 0x5000, len := 64, q := 63, irq := true, got := 64, npk := 1, cont := true }] }; s.rd PCR_DMA_STAT_STATE ch = 1 ∧ (s.dmaCh ch).descs = [d] ∧ d.q = q.val ∧ d.got = d.len) ∧
    (let ch : Fin 8 := 7; let q : Fin 64 := 63; let d : Desc := { idx := 5, addr := 0x5000, len := 64, q := 63, irq := true, got := 8 }; let s : State := streaming; s.rd PCR_DMA_STAT_STATE ch = 1 ∧ (s.dmaCh ch).descs = [d] ∧ d.q = q.val ∧ 0 < d.got ∧ d.got < d.len ∧ s.rd QUE_CFG_DEADLINE q ≠ 0) ∧
    (let ch : Fin 8 := 7; let s : State := full; (s.dmaCh ch).descs = []) ∧
    (let ch : Fin 8 := 7; let s : State := streaming.wr PCR_DMA_STAT_STATE 2 7; (s.rd PCR_DMA_STAT_STATE ch ≠ 1 ∨ (s.dmaCh ch).descs = [])) ∧
    (let ch : Fin 8 := 7; let s : State := full; (s.rd PCR_DMA_STAT_STATE ch ≠ 1 ∨ (s.dmaCh ch).descs = [])) := by and_intros <;> decide +kernel

/-- The hypotheses of `LinkAndMessagesTakeEffect`, clause by clause. -/
theorem witness_linkAndMessagesTakeEffect :
    (let s : State := full; s.rd PCR_PWR_STAT_STATE ≠ 2) ∧
    (let s : State := full.wr PCR_PWR_STAT_STATE 2; s.rd PCR_PWR_STAT_STATE = 2) ∧
    (let s : State := streaming.wr PCR_LINK_UP 1; s.flag PCR_LINK_UP = true) ∧
    (let s : State := full; s.flag PCR_LINK_UP = false) ∧
    (let v : Fin 64 := 63; let s : State := full.set 0x1109004 0x80000000#32; s.rd EVT_HAL_INH_LINES = 0 ∧ s.rd ILU_HAL_LINES = 0 ∧ s.vecReq = [] ∧ s.funcMask = false ∧ (s.get (0x1109000 + 4 * (v / 32))).getLsbD (v % 32) = true) ∧
    (let v : Fin 64 := 63; let s : State := full; s.rd EVT_HAL_INH_LINES = 0 ∧ s.rd ILU_HAL_LINES = 0 ∧ s.vecReq = [] ∧ (s.get (0x1109000 + 4 * (v / 32))).getLsbD (v % 32) = false) ∧
    (let s : State := full; s.rd EVT_HAL_INH_LINES = 0 ∧ s.rd ILU_HAL_LINES = 0 ∧ s.vecReq = []) ∧
    (let u : Fin 64 := 63; let s : State := { (full.set 0x1109004 0x80000000#32).set 0x11083FC 0#32 with funcMask := true }; s.rd EVT_HAL_INH_LINES = 0 ∧ s.rd ILU_HAL_LINES = 0 ∧ s.vecReq = [] ∧ (s.get (0x110800C + 16 * u)).getLsbD 0 = false ∧ (s.get (0x1109000 + 4 * (u / 32))).getLsbD (u % 32) = true) ∧
    (let s : State := full.wr GLB_CINCH_STAT_COUNT 0xFFFF; Reaches s (GLB_CINCH.off 0 0)) ∧
    (let s : State := full.wr GLB_CINCH_STAT_COUNT 7; s.captures = []) ∧
    (let s : State := stamped; Reaches s (GLB_ALINE_CTRL.off 0 0)) ∧
    (let s : State := stamped; Reaches s (GLB_ALINE_LINE.off 0 0)) ∧
    (let v : Fin 64 := 63; let s : State := ((full.set 0x11083FC 0).wr EVT_VSTAT_DUE 1 63).wr EVT_VSTAT_HOLDOFF 1 63; s.rd EVT_HAL_INH_LINES = 0 ∧ s.rd ILU_HAL_LINES = 0 ∧ s.vecReq = [] ∧ s.active 11 = true ∧ s.flag EVT_VSTAT_HOLDOFF v = true ∧ s.flag EVT_VSTAT_DUE v = true ∧ s.masked v = false) ∧
    (let v : Fin 64 := 63; let s : State := full.wr EVT_VSTAT_HOLDOFF 1 63; s.rd EVT_HAL_INH_LINES = 0 ∧ s.rd ILU_HAL_LINES = 0 ∧ s.vecReq = [] ∧ s.flag EVT_VSTAT_DUE v = false) ∧
    (let w : Fin 9 := 8; let j : Fin 32 := 31; let s : State := full.wr EVT_PEND 0x80000000 8; Reaches s (EVT_PEND.off w 0) ∧ 32 * w.val + j ≠ 114 ∧ 32 * w.val + j ≠ 117 ∧ 32 * w.val + j ≠ 118 ∧ 32 * w.val + j ≠ 166 ∧ s.raised.contains (32 * w.val + j) = false) ∧
    (let w : Fin 9 := 8; let j : Fin 32 := 30; let s : State := full.wr EVT_PEND 0xFFFFFFFF 8; Reaches s (EVT_PEND.off w 0) ∧ 32 * w.val + j ≠ 114 ∧ 32 * w.val + j ≠ 117 ∧ 32 * w.val + j ≠ 118 ∧ 32 * w.val + j ≠ 166 ∧ s.raised.contains (32 * w.val + j) = false) ∧
    (let w : Fin 9 := 8; let v : Word := 0x80000000; let j : Fin 32 := 31; let s : State := (((full.set 0x11083FC 0).wr EVT_MAP_VEC 63 287).wr EVT_MAP_VEN 1 287).wr EVT_PEND 0x80000000 8; Reaches s (EVT_EN.off w 0) ∧ s.rd EVT_HAL_INH_LINES = 0 ∧ s.rd ILU_HAL_LINES = 0 ∧ s.vecReq = [] ∧ s.active 11 = true ∧ s.enabled (32 * w + j) = false ∧ v.getLsbD j = true ∧ s.isPend (32 * w + j) = true ∧ s.flag EVT_MAP_VEN (32 * w + j) = true ∧ s.flag EVT_VSTAT_HOLDOFF (s.rd EVT_MAP_VEC (32 * w + j)) = false ∧ s.masked (s.rd EVT_MAP_VEC (32 * w + j)) = false) ∧
    (let w : Fin 9 := 8; let s : State := full; Reaches s (EVT_EN.off w 0)) := by and_intros <;> decide +kernel

/-- The ring is up and both ports are trained. -/
def ringUp : State :=
  (((full.wr BRD_CTRL_EN 1).wr BRD_STAT_STATE 4).wr BRD_PORT_STAT_STATE 4 0).wr BRD_PORT_STAT_STATE 4 1

/-- The lead of the ring. -/
def leading : State := { ringUp.wr BRD_STAT_LEAD 1 with ring := { idTaken := true } }

/-- A follower with ID 5. -/
def following : State := { ringUp.wr BRD_STAT_ID 5 with ring := { idTaken := true } }

/-- The hypotheses of `RingTrainsAddressesAndFolds`, clause by clause. -/
theorem witness_ringTrainsAddressesAndFolds :
    (let s : State := full.wr BRD_CFG_ROLE 1; Reaches s (BRD_CTRL.off 0 0) ∧ s.flag BRD_CTRL_EN = false) ∧
    (let s : State := leading; Reaches s (BRD_CTRL.off 0 0) ∧ s.flag BRD_CTRL_EN = true ∧ s.loaded 12 = true ∧ s.flag BRD_STAT_LEAD = true) ∧
    (let s : State := (leading.wr BRD_STAT_FOLDED 1).wr BRD_STAT_FOLD_PORT 1; Reaches s (BRD_CTRL.off 0 0) ∧ s.flag BRD_CTRL_EN = true ∧ s.loaded 12 = true ∧ s.flag BRD_STAT_LEAD = true) ∧
    (let s : State := following; Reaches s (BRD_CTRL.off 0 0) ∧ s.flag BRD_CTRL_EN = true ∧ isLead s = false) ∧
    (let p : Fin 2 := 1; let s : State := following.wr BRD_PORT_STAT_STATE 1 1; ringForwards s = true ∧ s.rd BRD_PORT_STAT_STATE p = 1) ∧
    (let p : Fin 2 := 1; let s : State := following.wr BRD_PORT_STAT_STATE 2 1; ringForwards s = true ∧ s.rd BRD_PORT_STAT_STATE p = 2) ∧
    (let p : Fin 2 := 1; let s : State := ((((following.wr BRD_PORT_STAT_STATE 3 1).wr BRD_STAT_STATE 1).wr BRD_STAT_FOLDED 1).wr BRD_STAT_FOLD_PORT 1); ringForwards s = true ∧ s.rd BRD_PORT_STAT_STATE p = 3) ∧
    (let p : Fin 2 := 1; let s : State := (((following.wr BRD_PORT_STAT_STATE 3 1).wr BRD_STAT_FOLDED 1).wr BRD_STAT_FOLD_PORT 1); ringForwards s = true ∧ s.rd BRD_PORT_STAT_STATE p = 3) ∧
    (let p : Fin 2 := 0; let s : State := following.wr BRD_PORT_STAT_STATE 3 0; ringForwards s = true ∧ s.rd BRD_PORT_STAT_STATE p = 3) ∧
    (let p : Fin 2 := 1; let s : State := { (following.wr BRD_PORT_STAT_EYE 40 1).wr BRD_PORT_STAT_STATE 0 1 with ring := { following.ring with relock := [1], refold := some 1 } }; ringForwards s = true ∧ s.rd BRD_PORT_STAT_STATE p = 0 ∧ s.ring.relock.contains p.val = true) ∧
    (let p : Fin 2 := 1; let s : State := leading; ringForwards s = true ∧ portUp s p = true) ∧
    (let p : Fin 2 := 0; let s : State := { (leading.wr BRD_STAT_STATE 1).wr BRD_PORT_STAT_STATE 0 0 with ring := { leading.ring with relock := [0] } }; isLead s = true ∧ s.rd BRD_PORT_STAT_STATE p = 0 ∧ s.ring.relock.contains p.val = true ∧ portUp s (1 - p.val) = true ∧ s.flag BRD_STAT_FOLDED = false ∧ s.rd BRD_STAT_STATE = 1) ∧
    (let p : Fin 2 := 0; let s : State := (leading.wr BRD_STAT_STATE 1).wr BRD_PORT_STAT_STATE 3 0; isLead s = true ∧ s.rd BRD_PORT_STAT_STATE p = 3 ∧ portUp s (1 - p.val) = true ∧ s.flag BRD_STAT_FOLDED = false ∧ s.rd BRD_STAT_STATE = 1) ∧
    (let s : State := State.reset; ringForwards s = false) ∧
    (let p : Fin 2 := 0; let s : State := following.wr BRD_PORT_STAT_STATE 0 0; s.rd BRD_PORT_STAT_STATE p = 0 ∧ s.ring.relock.contains p.val = false) ∧
    (let s : State := { following with nbr := [(3, []), (19, [])], ring := { following.ring with nbrPort := [(1, 1)] } }; ringForwards s = true) ∧
    (let s : State := ((following.wr BRD_PORT_STAT_STATE 0 1).wr BRD_STAT_FOLDED 1).wr BRD_STAT_FOLD_PORT 1; ringForwards s = true) ∧
    (let p : Fin 2 := 1; let s : State := following.wr BRD_PORT_STAT_STATE 0 1; ringForwards s = true ∧ (s.rd BRD_PORT_STAT_STATE p = 0 ∨ s.rd BRD_PORT_STAT_STATE p = 5)) ∧
    (let p : Fin 2 := 1; let s : State := { following.wr BRD_PORT_STAT_STATE 5 1 with ring := { following.ring with relock := [1, 0] } }; ringForwards s = true ∧ (s.rd BRD_PORT_STAT_STATE p = 0 ∨ s.rd BRD_PORT_STAT_STATE p = 5)) ∧
    (let h : RingHdr := ⟨0, true, 0, 0, 3, 0⟩; let next : BitVec 11 := 2047; let s : State := { following.wr BRD_STAT_STATE 1 with ring := {} }; ringOn s = true ∧ portUp s h.port = true ∧ h.hops ≠ 2047 ∧ s.flag BRD_STAT_LEAD = false ∧ s.ring.enumSeq ≠ some h.seq.toNat ∧ s.flag BRD_CFG_ID_MODE = false ∧ next ≠ 0) ∧
    (let h : RingHdr := ⟨1, true, 0, 0, 3, 1⟩; let next : BitVec 11 := 9; let s : State := { following with ring := { following.ring with enumSeq := some 0 } }; ringOn s = true ∧ portUp s h.port = true ∧ h.hops ≠ 2047 ∧ s.flag BRD_STAT_LEAD = false ∧ s.ring.enumSeq ≠ some h.seq.toNat ∧ s.flag BRD_CFG_ID_MODE = false ∧ next ≠ 0) ∧
    (let h : RingHdr := ⟨0, true, 0, 0, 3, 0⟩; let next : BitVec 11 := 0; let s : State := { following.wr BRD_STAT_STATE 1 with ring := {} }; ringOn s = true ∧ portUp s h.port = true ∧ h.hops ≠ 2047 ∧ s.flag BRD_STAT_LEAD = false ∧ s.ring.enumSeq ≠ some h.seq.toNat ∧ s.flag BRD_CFG_ID_MODE = false ∧ next = 0) ∧
    (let h : RingHdr := ⟨0, true, 0, 0, 3, 0⟩; let s : State := { (following.wr BRD_CFG_ID_MODE 1).wr BRD_CFG_ID 6 with ring := {} }; ringOn s = true ∧ portUp s h.port = true ∧ h.hops ≠ 2047 ∧ s.flag BRD_STAT_LEAD = false ∧ s.ring.enumSeq ≠ some h.seq.toNat ∧ s.flag BRD_CFG_ID_MODE = true) ∧
    (let h : RingHdr := ⟨1, true, 0, 9, 3, 0⟩; let s : State := { (following.wr BRD_CFG_ID_MODE 1).wr BRD_CFG_ID 9 with ring := {} }; ringOn s = true ∧ portUp s h.port = true ∧ h.hops ≠ 2047 ∧ s.flag BRD_STAT_LEAD = false ∧ s.ring.enumSeq ≠ some h.seq.toNat ∧ s.flag BRD_CFG_ID_MODE = true) ∧
    (let h : RingHdr := ⟨1, true, 0, 0, 3, 0⟩; let s : State := { (following.wr BRD_CFG_ID_MODE 1).wr BRD_CFG_ID 9 with ring := {} }; ringOn s = true ∧ portUp s h.port = true ∧ h.hops ≠ 2047 ∧ s.flag BRD_STAT_LEAD = false ∧ s.ring.enumSeq ≠ some h.seq.toNat ∧ s.flag BRD_CFG_ID_MODE = true) ∧
    (let h : RingHdr := ⟨1, true, 0, 0, 3, 7⟩; let s : State := { following with ring := { following.ring with enumSeq := some 7 } }; ringForwards s = true ∧ portUp s h.port = true ∧ h.hops ≠ 2047 ∧ isLead s = false ∧ (ringOn s = false ∨ s.ring.enumSeq = some h.seq.toNat)) ∧
    (let h : RingHdr := ⟨1, true, 0, 0, 2047, 7⟩; let s : State := following; ringForwards s = true ∧ portUp s h.port = true ∧ h.hops = 2047 ∧ isLead s = false) ∧
    (let h : RingHdr := ⟨0, true, 0, 0, 3, 0⟩; let own : Bool := true; let s : State := leading; isLead s = true ∧ portUp s h.port = true ∧ (s.rd BRD_STAT_STATE ≠ 2 ∨ own = false)) ∧
    (let h : RingHdr := ⟨0, true, 0, 0, 3, 0⟩; let own : Bool := false; let s : State := leading.wr BRD_STAT_STATE 2; isLead s = true ∧ portUp s h.port = true ∧ (s.rd BRD_STAT_STATE ≠ 2 ∨ own = false)) ∧
    (let h : RingHdr := ⟨0, true, 0, 0, 2047, 0⟩; let s : State := leading.wr BRD_STAT_STATE 2; isLead s = true ∧ portUp s h.port = true ∧ s.rd BRD_STAT_STATE = 2 ∧ s.ring.isOpen = false) ∧
    (let h : RingHdr := ⟨1, true, 0, 0, 3, 0⟩; let s : State := leading.wr BRD_STAT_STATE 2; isLead s = true ∧ portUp s h.port = true ∧ s.rd BRD_STAT_STATE = 2 ∧ s.ring.isOpen = false) ∧
    (let h : RingHdr := ⟨0, true, 0, 0, 3, 0⟩; let s : State := { leading.wr BRD_STAT_STATE 2 with ring := { leading.ring with isOpen := true, cntD := some 2 } }; isLead s = true ∧ portUp s h.port = true ∧ s.rd BRD_STAT_STATE = 2 ∧ s.ring.isOpen = true) ∧
    (let h : RingHdr := ⟨1, true, 0, 0, 3, 0⟩; let s : State := { leading.wr BRD_STAT_STATE 2 with ring := { leading.ring with isOpen := true } }; isLead s = true ∧ portUp s h.port = true ∧ s.rd BRD_STAT_STATE = 2 ∧ s.ring.isOpen = true) ∧
    (let s : State := leading.wr BRD_STAT_STATE 2; isLead s = true ∧ s.rd BRD_STAT_STATE = 2 ∧ s.ring.isOpen = false ∧ portUp s 0 = true) ∧
    (let s : State := { (leading.wr BRD_STAT_STATE 2).wr BRD_PORT_STAT_STATE 0 0 with ring := { leading.ring with cntD := some 2 } }; isLead s = true ∧ s.rd BRD_STAT_STATE = 2 ∧ s.ring.isOpen = false ∧ portUp s 0 = false) ∧
    (let h : RingHdr := ⟨0, false, 5, 0, 3, 0⟩; let s : State := following.wr BRD_STAT_STATE 2; HearsFrame s h) ∧
    (let h : RingHdr := ⟨1, false, 0, 9, 3, 0⟩; let s : State := leading; HearsFrame s h) ∧
    (let h : RingHdr := ⟨1, false, 5, 6, 3, 0⟩; let s : State := following.wr BRD_STAT_STATE 3; HearsFrame s h ∧ isLead s = false) ∧
    (let h : RingHdr := ⟨1, false, 0, 9, 3, 0⟩; let turn : BitVec 32 := 1000; let round : Nat := 5000; let s : State := { leading with ring := { leading.ring with cntD := some 1 } }; HearsFrame s h ∧ isLead s = true ∧ h.port = 1 ∧ s.rd BRD_STAT_STATE = 4 ∧ s.ring.ids.all (fun d => d.1 != 0) = true ∧ (round - turn.toNat) / 2 ≠ 0) ∧
    (let h : RingHdr := ⟨1, false, 0, 9, 3, 0⟩; let turn : BitVec 32 := 1000; let round : Nat := 5000; let s : State := ((leading.wr BRD_PRES_P 0xFFFFF).wr BRD_STAT_FOLDED 1).wr BRD_STAT_FOLD_PORT 1; HearsFrame s h ∧ isLead s = true ∧ h.port = 1 ∧ s.rd BRD_STAT_STATE = 4 ∧ s.ring.ids.all (fun d => d.1 != 0) = true ∧ (round - turn.toNat) / 2 ≠ 0) ∧
    (let h : RingHdr := ⟨1, false, 0, 9, 0, 0⟩; let s : State := { (leading.wr BRD_STAT_STATE 3).wr BRD_CODE_OFFSET 5 with ring := { leading.ring with cntD := some 1, cntU := some 0, lat := [(0, 900)] } }; TakesFrame s h ∧ isLead s = true ∧ s.rd BRD_STAT_STATE = 3 ∧ s.flag BRD_STAT_LEAD_CONFLICT = false) ∧
    (let h : RingHdr := ⟨1, false, 0, 9, 0, 0⟩; let s : State := { (leading.wr BRD_STAT_STATE 3).wr BRD_CODE_OFFSET 5 with ring := { leading.ring with cntD := some 1, cntU := some 0, lat := [(0, 900)] } }; TakesFrame s h ∧ isLead s = true ∧ s.rd BRD_STAT_STATE = 3 ∧ s.flag BRD_STAT_LEAD_CONFLICT = false) ∧
    (let h : RingHdr := ⟨1, false, 0, 9, 4, 0⟩; let x : BitVec 32 := 2000; let s : State := leading; TakesFrame s h ∧ isLead s = true ∧ s.rd BRD_STAT_STATE = 4 ∧ x ≠ 0) ∧
    (let h : RingHdr := ⟨1, false, 0, 9, 0, 0⟩; let x : BitVec 32 := 2000; let s : State := { leading.wr BRD_PRES_P 0xFFFFF with ring := { leading.ring with broken := true, ids := [(1, 9), (2, 7)], cntD := some 2 } }; TakesFrame s h ∧ isLead s = true ∧ s.rd BRD_STAT_STATE = 4 ∧ x ≠ 0) ∧
    (let h : RingHdr := ⟨0, false, 5, 0, 2047, 0⟩; let s : State := (following.wr BRD_STAT_FOLDED 1).wr BRD_STAT_FOLD_PORT 1; TakesFrame s h ∧ isLead s = false) ∧
    (let h : RingHdr := ⟨0, false, 5, 0, 4, 0⟩; let s : State := (following.wr BRD_STAT_FOLDED 1).wr BRD_STAT_FOLD_PORT 1; TakesFrame s h ∧ isLead s = false) ∧
    (let h : RingHdr := ⟨1, false, 0, 5, 4, 0⟩; let s : State := (following.wr BRD_STAT_STATE 3).wr BRD_CFG_ID_MODE 1; ringForwards s = true ∧ portUp s h.port = true ∧ ringOwnSrc s h = true ∧ isLead s = false ∧ s.flag BRD_CFG_ID_MODE = true ∧ (s.rd BRD_STAT_STATE = 2 ∨ s.rd BRD_STAT_STATE = 3)) ∧
    (let h : RingHdr := ⟨1, false, 6, 5, 4, 0⟩; let s : State := (following.wr BRD_STAT_STATE 2).wr BRD_CFG_ID_MODE 1; ringForwards s = true ∧ portUp s h.port = true ∧ ringOwnSrc s h = true ∧ isLead s = false ∧ s.flag BRD_CFG_ID_MODE = true ∧ (s.rd BRD_STAT_STATE = 2 ∨ s.rd BRD_STAT_STATE = 3)) := by and_intros <;> decide +kernel

/-- The hypotheses of `RingCarriesTimePositionAndEvents`, clause by clause. -/
theorem witness_ringCarriesTimePositionAndEvents :
    (let h : RingHdr := ⟨0, true, 0, 0, 3, 0⟩; let s : State := following; TakesFrame s h ∧ isLead s = false) ∧
    (let h : RingHdr := ⟨0, true, 0, 0, 3, 0⟩; let s : State := { following with chrono := 9000 }; TakesFrame s h ∧ isLead s = false) ∧
    (let h : RingHdr := ⟨0, true, 0, 0, 3, 0⟩; let s : State := { following with chrono := 9000 }; TakesFrame s h ∧ isLead s = false) ∧
    (let h : RingHdr := ⟨0, true, 0, 9, 3, 0⟩; let s : State := leading; TakesFrame s h ∧ isLead s = true) ∧
    (let s : State := leading.wr BRD_PRES_P 33; isLead s = true ∧ s.rd BRD_STAT_STATE = 4) ∧
    (let s : State := { leading.wr BRD_PRES_P 33 with ring := { leading.ring with isOpen := true } }; isLead s = true ∧ s.rd BRD_STAT_STATE = 4) ∧
    (let n : Fin 4 := 2; let s : State := { leading.wr BRD_CFG_DIST 4 with ring := { leading.ring with waiting := [(2, [(300, false), (500, true)])], toSend := [(2, [(500, true)])] } }; isLead s = true ∧ s.rd BRD_STAT_STATE = 4 ∧ s.rd PCR_PWR_STAT_STATE ≠ 2 ∧ s.rd BRD_CFG_DIST = 2 ^ n.val) ∧
    (let h : RingHdr := ⟨0, true, 0, 0, 3, 0⟩; let log : Fin 4 := 1; let m : Fin 4 := 3; let s : State := (following.wr LOG_CFG_SRC 7 3).wr LOG_CFG_RING_LOG 1 3; TakesFrame s h ∧ isLead s = false ∧ logsRun s = true ∧ s.rd LOG_CFG_SRC m = 7 ∧ s.rd LOG_CFG_RING_LOG m = log ∧ ((∀ k : Fin 4, k ≠ m → s.rd LOG_CFG_SRC k ≠ 7)) ∧ ((∀ i : Fin 128, s.rd LOG_WP_CTRL_MODE i = 0))) ∧
    (let h : RingHdr := ⟨0, true, 0, 0, 3, 0⟩; let log : Fin 4 := 1; let m : Fin 4 := 3; let s : State := { (following.wr LOG_CFG_SRC 7 3).wr LOG_CFG_RING_LOG 1 3 with ring := { following.ring with waiting := [(3, [(9, false)])] } }; TakesFrame s h ∧ isLead s = false ∧ logsRun s = true ∧ s.rd LOG_CFG_SRC m = 7 ∧ s.rd LOG_CFG_RING_LOG m = log ∧ ((∀ k : Fin 4, k ≠ m → s.rd LOG_CFG_SRC k ≠ 7)) ∧ ((∀ i : Fin 128, s.rd LOG_WP_CTRL_MODE i = 0))) ∧
    (let h : RingHdr := ⟨0, true, 0, 0, 3, 0⟩; let log : Fin 4 := 1; let m : Fin 4 := 3; let s : State := ((following.wr LOG_CFG_SRC 7 3).wr LOG_CFG_RING_LOG 1 3).wr LOG_STAT_SRC_LOST 1 3; TakesFrame s h ∧ isLead s = false ∧ logsRun s = true ∧ s.rd LOG_CFG_SRC m = 7 ∧ s.rd LOG_CFG_RING_LOG m = log ∧ ((∀ k : Fin 4, k ≠ m → s.rd LOG_CFG_SRC k ≠ 7)) ∧ ((∀ i : Fin 128, s.rd LOG_WP_CTRL_MODE i = 0))) ∧
    (let h : RingHdr := ⟨0, false, 5, 0, 3, 0⟩; let s : State := following.wr RGE_CODE_SRC 1; TakesFrame s h ∧ isLead s = false ∧ s.flag RGE_STAT_BUSY = false) ∧
    (let s : State := { following.wr RGE_CODE_SRC 1 with ring := { following.ring with path := true, family := some 8, heard := 40 } }; isLead s = false ∧ s.ring.family ≠ none ∧ s.flag RGE_STAT_BUSY = false) ∧
    (let s : State := leading; (isLead s = true ∨ s.ring.family = none)) ∧
    (let h : RingHdr := ⟨1, false, 0, 9, 3, 0⟩; let s : State := (((leading.wr BRD_FWD_CFG_QEN 1).wr BRD_FWD_CFG_QUEUE 63).wr QUE_PART_SIZE 1 63).updQ 63 fun x => { x with prods := [67] }; TakesFrame s h ∧ isLead s = true ∧ s.flag BRD_FWD_CFG_QEN = true ∧ s.loaded 10 = true ∧ s.quiescing 10 = false ∧ s.swapping 10 = false ∧ qDisabled s (s.rd BRD_FWD_CFG_QUEUE) = false ∧ (s.q (s.rd BRD_FWD_CFG_QUEUE)).prods.head? = some 67 ∧ (s.q (s.rd BRD_FWD_CFG_QUEUE)).isOpen = false ∧ (s.q (s.rd BRD_FWD_CFG_QUEUE)).openW = [] ∧ (s.q (s.rd BRD_FWD_CFG_QUEUE)).pkts = [] ∧ 2 ≤ qCap s (s.rd BRD_FWD_CFG_QUEUE) ∧ (s.q (s.rd BRD_FWD_CFG_QUEUE)).cmt = (s.q (s.rd BRD_FWD_CFG_QUEUE)).wr) ∧
    (let h : RingHdr := ⟨1, false, 0, 9, 3, 0⟩; let s : State := leading; TakesFrame s h ∧ (isLead s = false ∨ s.flag BRD_FWD_CFG_QEN = false)) ∧
    (let h : RingHdr := ⟨1, false, 0, 9, 3, 0⟩; let s : State := leading; TakesFrame s h ∧ nbrSide s h.src.toNat = none) ∧
    (let h : RingHdr := ⟨1, false, 0, 9, 3, 0⟩; let f : Fin 16 := 3; let part : Fin 8 := 7; let frame : Word := 8; let stamp : BitVec 64 := 50; let entries : List ProfEntry := List.replicate 32 {}; let side : Nat := 1; let s : State := { (leading.wr BRD_NBR_RIGHT_EN 1).wr BRD_NBR_RIGHT_ID 9 with hrn := { leading.hrn with domains := 16 }, ring := { leading.ring with parts := [(19, ⟨8, 50, (List.range 7).map fun k => (k, [])⟩)] } }; TakesFrame s h ∧ nbrSide s h.src.toNat = some side ∧ s.domain 4 = true ∧ (kvGet (fun _ => {}) s.ring.parts (16 * side + f)).frame = frame.toNat ∧ (kvGet (fun _ => {}) s.ring.parts (16 * side + f)).stamp = stamp.toNat ∧ entries.length = 32 ∧ (kvPut (kvGet (fun _ => {}) s.ring.parts (16 * side + f)).parts part entries).length = 8) ∧
    (let h : RingHdr := ⟨1, false, 0, 9, 3, 0⟩; let f : Fin 16 := 3; let frame : Word := 8; let entries : List ProfEntry := List.replicate 32 {}; let side : Nat := 1; let s : State := { (leading.wr BRD_NBR_RIGHT_EN 1).wr BRD_NBR_RIGHT_ID 9 with hrn := { leading.hrn with domains := 16 } }; TakesFrame s h ∧ nbrSide s h.src.toNat = some side ∧ s.domain 4 = true ∧ (kvGet (fun _ => {}) s.ring.parts (16 * side + f)).frame ≠ frame.toNat ∧ entries.length = 32) ∧
    (let h : RingHdr := ⟨0, false, 6, 0, 2046, 0⟩; let s : State := following; ringForwards s = true ∧ portUp s h.port = true ∧ h.bcast = false ∧ h.dest.toNat ≠ s.rd BRD_STAT_ID ∧ h.src.toNat ≠ s.rd BRD_STAT_ID ∧ h.hops ≠ 2047) ∧
    (let h : RingHdr := ⟨0, false, 6, 0, 2047, 0⟩; let s : State := following; ringForwards s = true ∧ portUp s h.port = true ∧ h.hops = 2047 ∧ ringOwnSrc s h = false ∧ (h.bcast = true ∨ h.dest.toNat ≠ s.rd BRD_STAT_ID)) ∧
    (let h : RingHdr := ⟨1, true, 6, 0, 40, 0⟩; let s : State := leading; ringForwards s = true ∧ portUp s h.port = true ∧ ringOwnSrc s h = true) ∧
    (let h : RingHdr := ⟨0, false, 6, 5, 4, 0⟩; let s : State := following; ringForwards s = true ∧ portUp s h.port = true ∧ ringOwnSrc s h = true) ∧
    (let h : RingHdr := ⟨0, false, 5, 0, 2, 0⟩; let s : State := following.wr BRD_CNT_BAD 0xFFFF; ringForwards s = true ∧ portUp s h.port = true) := by and_intros <;> decide +kernel

/-- The hypotheses of `TunnelledAccessesRunOnTheFollower`, clause by clause. -/
theorem witness_tunnelledAccessesRunOnTheFollower :
    (let s : State := leading.wr BRD_TUN_CMD_BUSY 1; Reaches s (BRD_TUN_CMD.off 0 0) ∧ s.loaded 12 = true) ∧
    (let s : State := following; Reaches s (BRD_TUN_CMD.off 0 0) ∧ s.loaded 12 = true) ∧
    (let s : State := leading; Reaches s (BRD_TUN_CMD.off 0 0) ∧ s.loaded 12 = true) ∧
    (let s : State := leading.wr BRD_TUN_DEST_ID 6; Reaches s (BRD_TUN_CMD.off 0 0) ∧ s.loaded 12 = true) ∧
    (let s : State := leading.wr BRD_TUN_DEST_ID 6; Reaches s (BRD_TUN_CMD.off 0 0) ∧ s.flag BRD_TUN_CMD_BUSY = false ∧ isLead s = true ∧ s.rd BRD_TUN_DEST_ID ≠ s.rd BRD_STAT_ID) ∧
    (let h : RingHdr := ⟨0, false, 5, 0, 3, 0⟩; let n : Fin 64 := 63; let s : State := following; TakesFrame s h ∧ isLead s = false ∧ responds s (EVT_VMOD.off n 0) = true ∧ s.loaded 11 = true ∧ ringSends s = true) ∧
    (let h : RingHdr := ⟨0, false, 5, 0, 3, 0⟩; let n : Fin 64 := 63; let s : State := following.wr EVT_VMOD_HOLD 77 63; TakesFrame s h ∧ isLead s = false ∧ responds s (EVT_VMOD.off n 0) = true ∧ s.loaded 11 = true ∧ ringSends s = true ∧ s.pwr.d2dDown = false) ∧
    (let h : RingHdr := ⟨1, false, 0, 9, 3, 0⟩; let s : State := leading; TakesFrame s h ∧ isLead s = true) ∧
    (let h : RingHdr := ⟨1, false, 0, 9, 3, 0⟩; let s : State := leading.wr BRD_TUN_CMD_BUSY 1; TakesFrame s h ∧ s.flag BRD_TUN_CMD_BUSY = true) ∧
    (let h : RingHdr := ⟨1, false, 0, 9, 3, 0⟩; let s : State := leading; TakesFrame s h ∧ s.flag BRD_TUN_CMD_BUSY = false) ∧
    (let s : State := leading.wr BRD_TUN_CMD_BUSY 1; s.flag BRD_TUN_CMD_BUSY = true) ∧
    (let s : State := leading; s.flag BRD_TUN_CMD_BUSY = false) := by and_intros <;> decide +kernel

/-- A valid calibration record of generation 4 that holds what `r` holds. -/
def goodRec (r : Rec) : Rec :=
  { r with magic := recMagic 2, version := 1, kind := 1, length := recLength 2, gen := 4, commit := commitWord 4,
           crc := recCrc 2 { r with magic := recMagic 2, version := 1, kind := 1, length := recLength 2, gen := 4 } }

/-- Such a record in slot A is the newest one. -/
theorem newest_goodRec (r : Rec) : newestRec 2 (goodRec r) {} = some (0, goodRec r) := by
  have h : (goodRec r).valid 2 = true := by simp [goodRec, Rec.valid, recCrc, recBytes, recHeader, recPayload]
  have e : Rec.valid 2 {} = false := by decide
  simp [newestRec, h, e]

/-- Step SINKS alone is selected, with a record in force. -/
def onlySinks : State := { full.wr CAL_CTRL_STEPS 0x10 with cal := { calA := goodRec {} } }

/-- A factory run stands at step SINKS with step 6 left, its declared voltage 5 V. -/
def trimming : State := { ((full.wr CAL_STAT_STATE 1).wr CAL_STAT_STEP 5).wr CAL_REF_V_UV 5000000 with cal := { run := { uv := 5000000, load := 1000000 }, left := [6], started := some 5 } }

/-- Every sink's current at every code. -/
def sinkCodes : List (List Nat) := List.replicate 24 ((List.range 256).map fun k => 200000 + 100 * (k - 3) + 100 * (3 - k))

/-- A record of a kind is written into slot 1. -/
def saving (k : Nat) : State := { full.wr LGB_STAT_SAVE_BUSY 1 with cal := { writing := k, target := 1, draft := { gen := 7 } } }

/-- The firmware window holds the header of an image: version 5, security version 2, signature at 64. -/
def imaged : State :=
  (List.range 7).foldl (fun s i => s.set (0x1008000 + 4 * i) ([0x57464E48#32, 0x00400001#32, 2900#32, 5#32, 2#32, 64#32, 2836#32].getD i 0)) full

/-- The token window holds the token of the challenge. -/
def challenged : State :=
  { (List.range 11).foldl (fun s i => s.set (0x1003000 + 4 * i) (BitVec.ofNat 32 (leAt (tokenBody full).toArray (4 * i) 4))) full with
    sec := { chalLive := true } }

/-- The hypotheses of `FactoryRunTakesItsSteps`, clause by clause. -/
theorem witness_factoryRunTakesItsSteps :
    (let s : State := trimming; Reaches s (CAL_CTRL.off 0 0) ∧ calRunning s = true) ∧
    (let s : State := full.wr CAL_CTRL_STEPS 1; Reaches s (CAL_CTRL.off 0 0) ∧ calRunning s = false ∧ declaredOk s = true ∧ s.rd CAL_CTRL_STEPS ≠ 0x3F ∧ newestOf s 2 = none) ∧
    (let k : Nat := 0; let r : List Nat := [1, 2, 3, 4, 5]; let s : State := full.wr CAL_CTRL_STEPS 0x3F; Reaches s (CAL_CTRL.off 0 0) ∧ calRunning s = false ∧ declaredOk s = true ∧ (s.rd CAL_CTRL_STEPS = 0x3F ∨ newestOf s 2 ≠ none) ∧ bitsList (s.rd CAL_CTRL_STEPS) 6 = k :: r ∧ (stepRefs s (k + 1)).all (fun p => near2 p.2 ((startRun s).ref p.1)) = true) ∧
    (let s : State := trimming; Reaches s (CAL_CTRL.off 0 0) ∧ calRunning s = true) ∧
    (let s : State := full; Reaches s (CAL_CTRL.off 0 0) ∧ calRunning s = false) ∧
    (let m : CalMeasure := .sinks 4000000 sinkCodes; let s : State := trimming; m.wf = true ∧ s.rd CAL_STAT_STATE = 1 ∧ calReady s = true ∧ measureStep m = s.rd CAL_STAT_STEP ∧ refOk s (refRead m) = false) ∧
    (let m : CalMeasure := .sinks 5000000 sinkCodes; let k : Nat := 6; let r : List Nat := []; let s : State := trimming; m.wf = true ∧ s.rd CAL_STAT_STATE = 1 ∧ calReady s = true ∧ measureStep m = s.rd CAL_STAT_STEP ∧ refOk s (refRead m) = true ∧ s.cal.left = k :: r ∧ k < 8 ∧ refOk s (stepRefs s k) = true) ∧
    (let m : CalMeasure := .lanes; let k : Nat := 3; let r : List Nat := [4]; let s : State := { trimming.wr CAL_STAT_STEP 1 with cal := { trimming.cal with left := [3, 4] } }; m.wf = true ∧ s.rd CAL_STAT_STATE = 1 ∧ calReady s = true ∧ measureStep m = s.rd CAL_STAT_STEP ∧ refOk s (refRead m) = true ∧ s.cal.left = k :: r ∧ k < 8 ∧ refOk s (stepRefs s k) = true) ∧
    (let m : CalMeasure := .lanes; let k : Nat := 2; let r : List Nat := [5]; let s : State := { trimming.wr CAL_STAT_STEP 1 with cal := { trimming.cal with left := [2, 5] } }; m.wf = true ∧ s.rd CAL_STAT_STATE = 1 ∧ calReady s = true ∧ measureStep m = s.rd CAL_STAT_STEP ∧ refOk s (refRead m) = true ∧ s.cal.left = k :: r ∧ (k = 5 ∨ (k = 2 ∧ s.frameNow = none)) ∧ refOk s (stepRefs s k) = false) ∧
    (let m : CalMeasure := .sinks 5000000 sinkCodes; let s : State := { trimming with cal := { trimming.cal with left := [] } }; m.wf = true ∧ s.rd CAL_STAT_STATE = 1 ∧ calReady s = true ∧ measureStep m = s.rd CAL_STAT_STEP ∧ refOk s (refRead m) = true ∧ s.cal.left = []) ∧
    (let m : CalMeasure := .lanes; let s : State := full; m.wf = true ∧ (s.rd CAL_STAT_STATE ≠ 1 ∨ calReady s = false ∨ measureStep m ≠ s.rd CAL_STAT_STEP)) ∧
    (let m : CalMeasure := .lanes; let s : State := trimming; m.wf = true ∧ (s.rd CAL_STAT_STATE ≠ 1 ∨ calReady s = false ∨ measureStep m ≠ s.rd CAL_STAT_STEP)) ∧
    (let m : CalMeasure := .sinks 5000000 []; m.wf = false) := by and_intros <;> decide +kernel

/-- The hypotheses of the two clauses of `FactoryRunTakesItsSteps` that need a record in force. -/
theorem witness_factoryRunWithRecord :
    (let s : State := onlySinks; (Reaches s (CAL_CTRL.off 0 0) ∧ calRunning s = false ∧ declaredOk s = true ∧
      bitsList (s.rd CAL_CTRL_STEPS) 6 = [4] ∧ (stepRefs s 5).all (fun p => near2 p.2 ((startRun s).ref p.1)) = true) ∧ newestOf s 2 ≠ none) ∧
    (let s : State := { onlySinks with board := { onlySinks.board with refUv := 4000000 } };
      (Reaches s (CAL_CTRL.off 0 0) ∧ calRunning s = false ∧ declaredOk s = true ∧
        bitsList (s.rd CAL_CTRL_STEPS) 6 = [4] ∧ near2 s.board.refUv (s.rd CAL_REF_V_UV) = false) ∧ newestOf s 2 ≠ none) := by
  have h : newestRec 2 (goodRec {}) {} ≠ none := by rw [newest_goodRec]; simp
  exact ⟨⟨by decide +kernel, h⟩, by decide +kernel, h⟩

/-- The hypotheses of `RecordsAreWrittenAndKept`, clause by clause. -/
theorem witness_recordsAreWrittenAndKept :
    (let s : State := saving 1; s.cal.writing = 1 ∧ s.cal.saveHeld = false ∧ s.cal.saveDue = false ∧ s.rd CAL_STAT_STATE ≠ 2) ∧
    (let s : State := (saving 2).wr CAL_STAT_STATE 2; s.cal.writing = 2 ∧ s.cal.saveHeld = false ∧ s.cal.saveDue = false) ∧
    (let s : State := { (saving 2).wr CAL_STAT_STATE 2 with cal := { (saving 2).cal with trial := [(2, [])] } }; s.cal.writing = 2 ∧ s.cal.saveHeld = false ∧ s.cal.saveDue = false) ∧
    (let s : State := saving 1; s.cal.writing ≠ 0 ∧ s.cal.retry = false) ∧
    (let s : State := { saving 1 with cal := { (saving 1).cal with retry := true } }; s.cal.writing = 1 ∧ s.cal.retry = true ∧ s.cal.saveHeld = false ∧ s.rd CAL_STAT_STATE ≠ 2) ∧
    (let s : State := { (saving 2).wr CAL_STAT_STATE 2 with cal := { (saving 2).cal with retry := true } }; s.cal.writing = 2 ∧ s.cal.retry = true ∧ s.cal.saveHeld = false ∧ s.cal.saveDue = false) ∧
    (let s : State := full; s.cal.writing = 0) ∧
    (let s : State := full; Reaches s (LGB_CTRL.off 0 0)) ∧
    (let s : State := saving 2; Reaches s (LGB_CTRL.off 0 0)) ∧
    (let s : State := { trimming with sec := { quote := some (5, []) } }; s.cal.saveDue = false) ∧
    (let s : State := full; Reaches s (LGB_RTC_SEC.off 0 0)) := by and_intros <;> decide +kernel

/-- The hypotheses of `SecurityCommandsAnswer`, clause by clause. -/
theorem witness_securityCommandsAnswer :
    (let s : State := full; Reaches s (SEC_CTRL.off 0 0) ∧ fwHeader ((windowBytes s 0x1008000 16).take 64) = none) ∧
    (let ver : Nat := 5; let svn : Nat := 2; let off : Nat := 64; let s : State := imaged; Reaches s (SEC_CTRL.off 0 0) ∧ fwHeader ((windowBytes s 0x1008000 16).take 64) = some (ver, svn, off) ∧ s.rd SEC_STAT_SVN ≤ svn) ∧
    (let s : State := { full with sec := { fwSvn := 32 } }; Reaches s (SEC_CTRL.off 0 0) ∧ s.sec.fwSvn < 2 ^ SEC_STAT_SVN.w) ∧
    (let s : State := full.set (SEC_ROOT_STAGE.off 0 0) 0x12; Reaches s (SEC_CTRL.off 0 0) ∧ s.flag SEC_STAT_ROOT_SET = false ∧ s.get (SEC_ROOT_STAGE.off 0 0) = 0x12#32) ∧
    (let ok : Bool := true; let s : State := full; Reaches s (SEC_CTRL.off 0 0) ∧ (s.flag SEC_STAT_ROOT_SET = true ∨ s.get (SEC_ROOT_STAGE.off 0 0) ≠ 0x12#32 ∨ ok = false)) ∧
    (let ok : Bool := false; let s : State := full.set (SEC_ROOT_STAGE.off 0 0) 0x12; Reaches s (SEC_CTRL.off 0 0) ∧ (s.flag SEC_STAT_ROOT_SET = true ∨ s.get (SEC_ROOT_STAGE.off 0 0) ≠ 0x12#32 ∨ ok = false)) ∧
    (let s : State := full.wr SEC_STAT_ROOT_SET 1; Reaches s (SEC_CTRL.off 0 0)) ∧
    (let s : State := full; Reaches s (SEC_CTRL.off 0 0)) ∧
    (let s : State := full.wr SEC_STAT_BUSY 1; Reaches s (SEC_CTRL.off 0 0)) ∧
    (let s : State := full.wr SEC_STAT_IDX_LOST 1; Reaches s (SEC_CTRL.off 0 0)) ∧
    (let s : State := full.wr2 LGB_CTR_LO_COUNT LGB_CTR_HI_COUNT 65536 92; Reaches s (SEC_CTRL.off 0 0)) ∧
    (let s : State := full.wr2 LGB_CTR_LO_COUNT LGB_CTR_HI_COUNT 64511 92; Reaches s (SEC_CTRL.off 0 0)) ∧
    (let i : Nat := 9; let body : List Byte := List.replicate 208 0x5A; let s : State := { full with sec := { quote := some (9, List.replicate 208 0x5A), committed := true } }; s.sec.quote = some (i, body) ∧ s.sec.committed = true ∧ body.length = 208) ∧
    (let s : State := full; (s.sec.committed = false ∨ s.sec.quote = none)) ∧
    (let s : State := full; Reaches s (SEC_CTRL.off 0 0)) ∧
    (let s : State := full.wr SEC_STAT_FAILS 3; Reaches s (SEC_CTRL.off 0 0) ∧ s.rd SEC_STAT_FAILS = 3) ∧
    (let s : State := full.wr SEC_STAT_FAILS 2; Reaches s (SEC_CTRL.off 0 0) ∧ s.rd SEC_STAT_FAILS ≠ 3 ∧ (s.sec.chalLive = false ∨ (windowBytes s 0x1003000 720).take 44 ≠ tokenBody s)) ∧
    (let s : State := challenged; Reaches s (SEC_CTRL.off 0 0) ∧ s.rd SEC_STAT_FAILS ≠ 3 ∧ s.sec.chalLive = true ∧ (windowBytes s 0x1003000 720).take 44 = tokenBody s ∧ s.flag SEC_STAT_ROOT_SET = false) := by and_intros <;> decide +kernel

/-- Waypoint 127, in a mode and with an action, stands one tick ahead of Log 3. -/
def waypoint (m a : Nat) : State :=
  (((((((full.wr LOG_CFG_SRC 8 3).wr LOG_WP_CTRL_MODE m 127).wr LOG_WP_CTRL_ACTION a 127).wr LOG_WP_CTRL_LOG 3 127).wr LOG_WP_CTRL_ARMED 1 127).wr
    LOG_WP_CTRL_PERIOD 5 127).wr LOG_WP_ARG_ARG 0xABCD 127).wr LOG_WP_POS_LO_POS 1 127

/-- What a record in force holds of step LADDER. -/
def keptRec : Rec := { sections := [(3, [9, 8])], nums := [(2, 31)] }

/-- The last step of a run in which LADDER is left out. -/
def leftOut : State := { trimming with cal := { trimming.cal with left := [], calA := goodRec keptRec } }

/-- The hypotheses of `MarkIsTakenOnAPacketBoundary`, clause by clause. -/
theorem witness_markIsTakenOnAPacketBoundary :
    (let q : Fin 64 := 63; let s : State := queued; Reaches s (QUE_CMD.off q 0) ∧ qDisabled s q = false ∧ s.flag QUE_CFG_DMA_EN q = false ∧ qOnBoundary (s.q q) = true) ∧
    (let q : Fin 64 := 63; let s : State := queued.updQ 63 fun x => { x with rd := 1 }; Reaches s (QUE_CMD.off q 0) ∧ qDisabled s q = false ∧ s.flag QUE_CFG_DMA_EN q = false ∧ qOnBoundary (s.q q) = false) := by and_intros <;> decide +kernel

/-- The hypotheses of `ABoundQueueHasItsChannelAsOnlyConsumer`, clause by clause. -/
theorem witness_aBoundQueueHasItsChannelAsOnlyConsumer :
    (let q : Fin 64 := 63; let s : State := streaming.wr QUE_IDLE_LO 0x77 63; Reaches s (0x1A00000 + 0x1000 * q) ∧ s.flag QUE_CFG_DMA_EN q = true) ∧
    (let q : Fin 64 := 63; let s : State := streaming; Reaches s (QUE_CMD.off q 0) ∧ qDisabled s q = false ∧ s.flag QUE_CFG_DMA_EN q = true) ∧
    (let ch : Fin 8 := 6; let q : Fin 64 := 63; let s : State := streaming; s.flag QUE_CFG_DMA_EN q = true ∧ s.rd QUE_CFG_DCH q ≠ ch) ∧
    (let q : Fin 64 := 63; let s : State := streaming; Reaches s (QUE_CMD.off q 0) ∧ qDisabled s q = false ∧ s.quiesced 10 = false ∧ s.flag QUE_CFG_DMA_EN q = true) := by and_intros <;> decide +kernel

/-- The hypotheses of `DeclaredReferencesLieNearTheirNominalValues`, clause by clause. -/
theorem witness_declaredReferencesLieNearTheirNominalValues :
    (let s : State := full.wr CAL_REF_PIN_VPIN 1; Reaches s (CAL_CTRL.off 0 0) ∧ calRunning s = false ∧ (¬ (4900000 ≤ s.rd CAL_REF_V_UV ∧ s.rd CAL_REF_V_UV ≤ 5100000 ∧ 9800000 ≤ s.rd CAL_REF_R_MOHM ∧ s.rd CAL_REF_R_MOHM ≤ 10200000 ∧
      98000 ≤ s.rd CAL_REF_T_PS ∧ s.rd CAL_REF_T_PS ≤ 102000 ∧ s.rd CAL_REF_PIN_VPIN ≠ s.rd CAL_REF_PIN_RPIN))) ∧
    (let s : State := full.wr CAL_REF_V_UV 5100001; Reaches s (CAL_CTRL.off 0 0) ∧ calRunning s = false ∧ (¬ (4900000 ≤ s.rd CAL_REF_V_UV ∧ s.rd CAL_REF_V_UV ≤ 5100000 ∧ 9800000 ≤ s.rd CAL_REF_R_MOHM ∧ s.rd CAL_REF_R_MOHM ≤ 10200000 ∧
      98000 ≤ s.rd CAL_REF_T_PS ∧ s.rd CAL_REF_T_PS ≤ 102000 ∧ s.rd CAL_REF_PIN_VPIN ≠ s.rd CAL_REF_PIN_RPIN))) ∧
    (let s : State := full.wr CAL_REF_V_UV 5100000; Reaches s (CAL_CTRL.off 0 0) ∧ calRunning s = false ∧ 4900000 ≤ s.rd CAL_REF_V_UV ∧ s.rd CAL_REF_V_UV ≤ 5100000 ∧ 9800000 ≤ s.rd CAL_REF_R_MOHM ∧ s.rd CAL_REF_R_MOHM ≤ 10200000 ∧ 98000 ≤ s.rd CAL_REF_T_PS ∧ s.rd CAL_REF_T_PS ≤ 102000 ∧ s.rd CAL_REF_PIN_VPIN ≠ s.rd CAL_REF_PIN_RPIN) := by and_intros <;> decide +kernel

/-- The hypotheses of `CommitOfP13WaitsForTheFactoryRun`, clause by clause. -/
theorem witness_commitOfP13WaitsForTheFactoryRun :
    (let s : State := { (full.wr CAL_STAT_STATE 1).wr HRN_STAT_STATE 3 with hrn := { full.hrn with image := oneSection } }; loadState s = 3 ∧ calRunning s = true ∧ CommitInvolves s 13) ∧
    (let s : State := { ((full.wr CAL_STAT_STATE 1).wr HRN_STAT_STATE 2).wr HRN_CTRL_AUTO_COMMIT 1 with hrn := { full.hrn with image := oneSection } }; loadState s = 2 ∧ (s.hrn.boot = true ∨ s.flag HRN_CTRL_AUTO_COMMIT = true) ∧ calRunning s = true ∧ CommitInvolves s 13) := by and_intros <;> decide +kernel

/-- The hypotheses of `SinkTakesHighHeadAfterEightMeasurements`, clause by clause. -/
theorem witness_sinkTakesHighHeadAfterEightMeasurements :
    (let k : Fin 24 := 23; let mv : Nat := 3000; let s : State := (lamp.wr ILU_DIAG_HEAD_MAX 100).updSinkSt 23 fun x => { x with ticks := 40, high := 7 }; 40 ≤ (s.sinkSt k).ticks ∧ sinkMay s k = true ∧ measOld s k 10000 = true ∧ 20 * s.rd ILU_DIAG_HEAD_MAX < mv ∧ (s.sinkSt k).high = 7 ∧ s.flag ILU_SINK_STAT_HIGH_HEAD k = false) ∧
    (let k : Fin 24 := 23; let mv : Nat := 3000; let s : State := (lamp.wr ILU_DIAG_HEAD_MAX 100).updSinkSt 23 fun x => { x with ticks := 40, high := 6 }; 40 ≤ (s.sinkSt k).ticks ∧ sinkMay s k = true ∧ measOld s k 10000 = true ∧ 20 * s.rd ILU_DIAG_HEAD_MAX < mv ∧ (s.sinkSt k).high < 7) ∧
    (let k : Fin 24 := 23; let mv : Nat := 2000; let s : State := (lamp.wr ILU_DIAG_HEAD_MAX 100).updSinkSt 23 fun x => { x with ticks := 40, high := 6 }; 40 ≤ (s.sinkSt k).ticks ∧ sinkMay s k = true ∧ measOld s k 10000 = true ∧ mv ≤ 20 * s.rd ILU_DIAG_HEAD_MAX) := by and_intros <;> decide +kernel

/-- The hypotheses of `StepsLeftOutKeepTheirRecord`. -/
theorem witness_stepsLeftOutKeepTheirRecord :
    (let m : CalMeasure := .sinks 5000000 sinkCodes; let s : State := leftOut; m.wf = true ∧ s.rd CAL_STAT_STATE = 1 ∧ calReady s = true ∧
      measureStep m = s.rd CAL_STAT_STEP ∧ refOk s (refRead m) = true ∧ s.cal.left = [] ∧ s.cal.writing = 0 ∧ 3 ≠ s.rd CAL_STAT_STEP ∧
      (s.cal.trial.any fun p => p.1 == 3) = false ∧
      ((if s.rd CAL_STAT_STEP = 1 then laneFigures s else stepFigs s m).any fun p => p.1 == 2) = false ∧
      (s.cal.figs.any fun p => p.1 == 2) = false) ∧
    newestOf leftOut 2 = some (0, goodRec keptRec) :=
  ⟨by decide +kernel, newest_goodRec keptRec⟩

/-- The hypotheses of `LeadIsTakenFromRoleOrStrap`, clause by clause. -/
theorem witness_leadIsTakenFromRoleOrStrap :
    (let s : State := full.wr BRD_CFG_ROLE 1; Reaches s (BRD_CTRL.off 0 0) ∧ s.flag BRD_CTRL_EN = false ∧ s.loaded 12 = true) ∧
    (let s : State := { full with ring := { strapLead := true } }; Reaches s (BRD_CTRL.off 0 0) ∧ s.flag BRD_CTRL_EN = false ∧ s.loaded 12 = true) ∧
    (let s : State := { full.wr BRD_CFG_ROLE 2 with ring := { strapLead := true } }; Reaches s (BRD_CTRL.off 0 0) ∧ s.flag BRD_CTRL_EN = false ∧ s.loaded 12 = true) := by and_intros <;> decide +kernel

/-- The hypotheses of `WaypointsFireOnTheirPositionOrLine`, clause by clause. -/
theorem witness_waypointsFireOnTheirPositionOrLine :
    (let n : Fin 4 := 3; let i : Fin 128 := 127; let s : State := waypoint 1 5; s.active 0 = true ∧ ((∀ k : Fin 128, k ≠ i → s.rd LOG_WP_CTRL_MODE k = 0)) ∧ ringDelayed s n = false ∧ s.rd LOG_CFG_SRC n = 8 ∧ (s.log n).c = logValue s n ∧ (s.log n).genOn = false ∧ s.rd LOG_WP_CTRL_LOG i = n ∧ s.flag LOG_WP_CTRL_ARMED i = true ∧ s.rd LOG_WP_CTRL_ACTION i = 5 ∧ wpPos s i = (logValue s n + 1) % 2 ^ 48) ∧
    (let n : Fin 4 := 3; let i : Fin 128 := 127; let s : State := waypoint 2 5; s.active 0 = true ∧ ((∀ k : Fin 128, k ≠ i → s.rd LOG_WP_CTRL_MODE k = 0)) ∧ ringDelayed s n = false ∧ s.rd LOG_CFG_SRC n = 8 ∧ (s.log n).c = logValue s n ∧ (s.log n).genOn = false ∧ s.rd LOG_WP_CTRL_LOG i = n ∧ s.flag LOG_WP_CTRL_ARMED i = true ∧ s.rd LOG_WP_CTRL_ACTION i = 5 ∧ wpPos s i = (logValue s n + 1) % 2 ^ 48) ∧
    (let n : Fin 4 := 3; let i : Fin 128 := 127; let s : State := waypoint 4 5; s.active 0 = true ∧ ((∀ k : Fin 128, k ≠ i → s.rd LOG_WP_CTRL_MODE k = 0)) ∧ ringDelayed s n = false ∧ s.rd LOG_CFG_SRC n = 8 ∧ (s.log n).c = logValue s n ∧ (s.log n).genOn = false ∧ s.rd LOG_WP_CTRL_LOG i = n ∧ s.flag LOG_WP_CTRL_ARMED i = true ∧ s.rd LOG_WP_CTRL_ACTION i = 5 ∧ wpPos s i = (logValue s n + 1) % 2 ^ 48) ∧
    (let n : Fin 4 := 3; let i : Fin 128 := 127; let s : State := (waypoint 1 1).wr GLB_PANEL_STAT_LOADED 1; s.active 0 = true ∧ ((∀ k : Fin 128, k ≠ i → s.rd LOG_WP_CTRL_MODE k = 0)) ∧ ringDelayed s n = false ∧ s.rd LOG_CFG_SRC n = 8 ∧ (s.log n).c = logValue s n ∧ (s.log n).genOn = false ∧ s.rd LOG_WP_CTRL_LOG i = n ∧ s.flag LOG_WP_CTRL_ARMED i = true ∧ s.rd LOG_WP_CTRL_ACTION i = 1 ∧ wpPos s i = (logValue s n + 1) % 2 ^ 48 ∧ s.rd LOG_WP_CTRL_MODE i = 1 ∧ s.loaded 5 = false) ∧
    (let n : Fin 4 := 3; let i : Fin 128 := 127; let s : State := (waypoint 3 5).updLog 3 fun g => { g with genOn := true, pos := 1, k := 11, int := 9, den := 65536 }; s.active 0 = true ∧ ((∀ k : Fin 128, k ≠ i → s.rd LOG_WP_CTRL_MODE k = 0)) ∧ ringDelayed s n = false ∧ s.rd LOG_CFG_SRC n = 8 ∧ (s.log n).c = logValue s n ∧ (s.log n).genOn = true ∧ (s.log n).pos = (logValue s n + 1) % 2 ^ 48 ∧ (s.log n).lastIssue = none ∧ s.rd LOG_WP_CTRL_LOG i = n ∧ s.rd LOG_WP_CTRL_ACTION i = 5 ∧ s.rd LOG_WP_CTRL_MODE i = 3 ∧ (s.log n).k < 2 ^ 32 ∧ ((s.log n).k + 2 ^ 32 - wpPos s i % 2 ^ 32) % 2 ^ 32 < 2 ^ 31 ∧ ((s.log n).k + 2 ^ 32 - wpPos s i % 2 ^ 32) % 2 ^ 32 % wpPeriod s i = 0) ∧
    (let n : Fin 4 := 3; let i : Fin 128 := 127; let s : State := (waypoint 1 5).wr LOG_WP_POS_LO_POS 2 127; s.active 0 = true ∧ ((∀ k : Fin 128, k ≠ i → s.rd LOG_WP_CTRL_MODE k = 0)) ∧ ringDelayed s n = false ∧ s.rd LOG_CFG_SRC n = 8 ∧ (s.log n).c = logValue s n ∧ (s.log n).genOn = false ∧ wpPos s i ≠ (logValue s n + 1) % 2 ^ 48) := by and_intros <;> decide +kernel

end Sys2Proof.Tests
end

section
/-! SUPPORT. What the end of a command leaves alone beyond the registers. -/

namespace Sys2Proof.Safety

open Sys2Proof.Machine

theorem Keeps.hrn {mask : Nat → Nat} {s t : State} (h : Keeps mask s t) : t.hrn = s.hrn := by
  have := congrArg State.hrn h.rest; exact this

theorem Keeps.cal {mask : Nat → Nat} {s t : State} (h : Keeps mask s t) : t.cal = s.cal := by
  have := congrArg State.cal h.rest; exact this

@[simp] theorem finish_hrn (s : State) : (finish s).hrn = s.hrn := (finish_keeps s).hrn

@[simp] theorem finish_cal (s : State) : (finish s).cal = s.cal := (finish_keeps s).cal

theorem answers_done {s : State} {P : State → Prop} : Answers (done s) P ↔ P (finish s) := Iff.rfl

end Sys2Proof.Safety
end

section
/-! SUPPORT. What a write of `HRN_CMD` comes to, and what an error code of the harness changes. -/

namespace Sys2Proof.Machine

/-- Equal words give equal fields. -/
theorem State.rd_congr {s t : State} {f : Fld} {i j : Nat} (h : t.get (f.off i j) = s.get (f.off i j)) : t.rd f i j = s.rd f i j := by
  simp only [State.rd, h]

/-- The state in which a host write that no stamp can act on is taken: the stamp in force, if any, is counted as ignored (R366). -/
def stampIgnored (s : State) : State := if (stampNow s).isSome then s.sat GLB_ORDER_CNT_STAMP_IGN else s

@[simp] theorem stampIgnored_hrn (s : State) : (stampIgnored s).hrn = s.hrn := by
  unfold stampIgnored; split <;> rfl

@[simp] theorem stampIgnored_cal (s : State) : (stampIgnored s).cal = s.cal := by
  unfold stampIgnored; split <;> rfl

theorem stampIgnored_get (s : State) {o : Nat} (h : o ≠ GLB_ORDER_CNT.off 0 0) : (stampIgnored s).get o = s.get o := by
  unfold stampIgnored
  split
  · exact State.get_wr_ne s _ _ 0 0 h
  · rfl

@[simp] theorem loadState_stampIgnored (s : State) : loadState (stampIgnored s) = loadState s :=
  State.rd_congr (stampIgnored_get s (by decide))

/-- The row of `HRN_CMD`. -/
def hrnCmdRow : RegDesc := ⟨0x100004, 0, 1, 0, 1, 0, 0, 0, 0, 0, 0xfff, 16⟩

theorem regRow_hrnCmd : regRow 0x100004 = some hrnCmdRow := by decide

theorem responds_hrnCmd (s : State) : responds s 0x100004 = true := rfl

/-- No stamp acts on `HRN_CMD`, which holds no tagged parameter (R366). -/
theorem stampActs_hrnCmd (s : State) (i ch : Nat) : stampActs s hrnCmdRow.base i ch = false := rfl

/-- `HRN_CMD` holds no locked field (R52). -/
theorem lockRefuses_hrnCmd (s : State) (off : Nat) (v : Word) : lockRefuses s hrnCmdRow off v = false := by
  simp [lockRefuses, hrnCmdRow]

/-- `HRN_CMD` is resident and on the core die: a host write of it always gives its command. -/
theorem hostSet_hrnCmd (s : State) (v : Word) : hostSet s HRN_CMD v = hrnCmd (stampIgnored s) v.toNat := by
  have hreach : (!responds s 0x100004 || (s.pwr.d2dDown && onFieldDie 0x100004)) = false := by
    simp [responds_hrnCmd, onFieldDie]
  have hacts : ((stampNow s).any fun t => stampActs s hrnCmdRow.base (regIndex hrnCmdRow 0x100004).1 t.1) = false := by
    simp [stampActs_hrnCmd]
  show writeAt s 0x100004 v (stampNow s) = _
  simp only [writeAt, hreach, regRow_hrnCmd, hacts, lockRefuses_hrnCmd]
  rfl

@[simp] theorem hrnErr_hrn (s : State) (c : Nat) (p : Option Nat) : (hrnErr s c p).hrn = s.hrn :=
  (State.wr_hrn _ HRN_STAT_ERR_PANEL_V _ 0 0).trans ((State.wr_hrn _ HRN_STAT_ERR_PANEL _ 0 0).trans (State.wr_hrn s HRN_STAT_ERR_CODE c 0 0))

@[simp] theorem hrnErr_cal (s : State) (c : Nat) (p : Option Nat) : (hrnErr s c p).cal = s.cal :=
  (State.wr_cal _ HRN_STAT_ERR_PANEL_V _ 0 0).trans ((State.wr_cal _ HRN_STAT_ERR_PANEL _ 0 0).trans (State.wr_cal s HRN_STAT_ERR_CODE c 0 0))

theorem hrnErr_get (s : State) (c : Nat) (p : Option Nat) {o : Nat} (h : o ≠ HRN_STAT.off 0 0) : (hrnErr s c p).get o = s.get o :=
  (State.get_wr_ne _ HRN_STAT_ERR_PANEL_V _ 0 0 h).trans
    ((State.get_wr_ne _ HRN_STAT_ERR_PANEL _ 0 0 h).trans (State.get_wr_ne s HRN_STAT_ERR_CODE _ 0 0 h))

@[simp] theorem rd_hrnErr_code (s : State) (c : Nat) (p : Option Nat) : (hrnErr s c p).rd HRN_STAT_ERR_CODE = c % 2 ^ 8 := by
  unfold hrnErr
  rw [State.rd_wr_apart _ _ _ _ _ _ _ _ (by decide) (by decide), State.rd_wr_apart _ _ _ _ _ _ _ _ (by decide) (by decide)]
  exact State.rd_wr_same s HRN_STAT_ERR_CODE c 0 0 (by decide)

end Sys2Proof.Machine
end

section
/-! PROOF. A commit that involves `P13` while a factory run is in progress (R47). -/

namespace Sys2Proof.Safety

open Sys2Proof.Machine

/-- `u` holds all that the start of a commit looks at as `s` does: the harness unit, the loaded panels and the factory run. -/
structure SameCommit (s u : State) : Prop where
  hrn : u.hrn = s.hrn
  cal : u.cal = s.cal
  panels : u.get (GLB_PANEL_STAT.off 0 0) = s.get (GLB_PANEL_STAT.off 0 0)
  run : u.get (CAL_STAT.off 0 0) = s.get (CAL_STAT.off 0 0)

theorem sameCommit_stampIgnored (s : State) : SameCommit s (stampIgnored s) :=
  ⟨stampIgnored_hrn s, stampIgnored_cal s, stampIgnored_get s (by decide), stampIgnored_get s (by decide)⟩

theorem sameCommit_wr_loadState (s : State) (v : Nat) : SameCommit s (s.wr HRN_STAT_STATE v) :=
  ⟨rfl, rfl, State.get_wr_ne s _ v 0 0 (by decide), State.get_wr_ne s _ v 0 0 (by decide)⟩

section
variable {s u : State} (h : SameCommit s u)
include h

theorem SameCommit.calRunning : calRunning u = calRunning s := by
  have hst : u.rd CAL_STAT_STATE = s.rd CAL_STAT_STATE := State.rd_congr h.run
  simp only [Machine.calRunning, hst]

theorem SameCommit.loaded (p : Nat) : u.loaded p = s.loaded p := by
  have hst : u.rd GLB_PANEL_STAT_LOADED = s.rd GLB_PANEL_STAT_LOADED := State.rd_congr h.panels
  simp only [State.loaded, hst]

theorem SameCommit.dependentsOf (l : List Nat) : dependentsOf u l = dependentsOf s l := by
  have hdep : u.dependsOn = s.dependsOn := by funext p q; simp only [State.dependsOn, h.hrn]
  simp only [Machine.dependentsOf, hdep, h.loaded]

theorem SameCommit.commitTargets : commitTargets u = commitTargets s := by
  simp only [Safety.commitTargets, h.hrn, h.loaded]

theorem SameCommit.commitInvolves (p : Nat) : CommitInvolves u p ↔ CommitInvolves s p := by
  simp only [CommitInvolves, h.hrn, h.commitTargets, h.dependentsOf]

end

/-- R47: the start of a commit that involves `P13` does no more than give CAL_RUNNING, about `P13`. -/
theorem commitStart_of_calRunning {s : State} (hrun : calRunning s = true) (hinv : CommitInvolves s 13) :
    commitStart s = hrnErr s 0x21 (some 13) := by
  have hinv' : (((imageOf s.hrn.image).secs.map (·.panel)).contains 13 || (commitTargets s).contains 13 ||
      (dependentsOf s (commitTargets s)).contains 13) = true := by
    simpa only [Bool.or_eq_true, or_assoc] using hinv
  exact if_pos (by rw [hrun, Bool.true_and]; exact hinv')

/-- What a commit refused from a state that agrees with `s` leaves at the end of its command. -/
theorem SameCommit.finish_commitStart {s u : State} (h : SameCommit s u) (hrun : Machine.calRunning s = true) (hinv : CommitInvolves s 13) :
    (finish (commitStart u)).rd HRN_STAT_ERR_CODE = 0x21 ∧ (finish (commitStart u)).hrn.asked = s.hrn.asked ∧
      (finish (commitStart u)).cal = s.cal ∧
      (finish (commitStart u)).get (GLB_PANEL_STAT.off 0 0) = s.get (GLB_PANEL_STAT.off 0 0) := by
  rw [commitStart_of_calRunning (h.calRunning.trans hrun) ((h.commitInvolves 13).mpr hinv)]
  refine ⟨?_, ?_, ?_, ?_⟩
  · exact (rd_finish _ HRN_STAT_ERR_CODE 0 0 (by decide)).trans (rd_hrnErr_code u 0x21 (some 13))
  · rw [finish_hrn, hrnErr_hrn, h.hrn]
  · rw [finish_cal, hrnErr_cal, h.cal]
  · rw [get_finish _ _ (by decide), hrnErr_get _ _ _ (by decide), h.panels]

/-- COMMIT in READY starts the commit. -/
theorem exec_commit_of_ready {s : State} (hload : loadState s = 3) : exec .commit s = done (commitStart (stampIgnored s)) := by
  have hcmd : commitCmd (stampIgnored s) = commitStart (stampIgnored s) := by simp [commitCmd, hload]
  exact congrArg done ((hostSet_hrnCmd s 2).trans hcmd)

/-- An image that verifies is committed at once in a boot load and under AUTO_COMMIT. -/
theorem verifyDone_of_auto {s : State} (hload : loadState s = 2) (hauto : s.hrn.boot = true ∨ s.flag HRN_CTRL_AUTO_COMMIT = true)
    (hok : verifyImage s s.hrn.image s.hrn.image.length = none) : verifyDone s = commitStart (s.wr HRN_STAT_STATE 3) := by
  have hflag : (s.wr HRN_STAT_STATE 3).flag HRN_CTRL_AUTO_COMMIT = s.flag HRN_CTRL_AUTO_COMMIT := by
    simp only [State.flag, State.rd_wr_ne s HRN_STAT_STATE 3 0 0 HRN_CTRL_AUTO_COMMIT 0 0 (by decide)]
  have hauto' : (s.hrn.boot || s.flag HRN_CTRL_AUTO_COMMIT) = true := by simpa only [Bool.or_eq_true] using hauto
  simp [verifyDone, hload, hok, hflag, hauto']

/-- Settles O50: COMMIT and an automatic commit both come to `commitStart`, which refuses before it asks any panel. -/
theorem commitOfP13WaitsForTheFactoryRun : Obligations.CommitOfP13WaitsForTheFactoryRun := by
  refine ⟨fun s hload hrun hinv => ?_, fun s hload hauto hrun hinv => ?_⟩
  · rw [exec_commit_of_ready hload, answers_done]
    exact (sameCommit_stampIgnored s).finish_commitStart hrun hinv
  · show Answers (done (verifyDone s)) _
    rw [answers_done]
    intro hok
    rw [verifyDone_of_auto hload hauto hok]
    exact (sameCommit_wr_loadState s 3).finish_commitStart hrun hinv

end Sys2Proof.Safety
end

section
/-! PROOF. An on-phase cut short of 400 ns is not measured (R266), and so takes no HIGH_HEAD (R284). -/

namespace Sys2Proof.Safety

open Sys2Proof.Machine

/-- R266: an on-phase that has proved shorter than 400 ns by the moment of its measurement gives none: only time has passed. -/
theorem sinkMeasure_of_short {s : State} {k : Nat} (mv : Nat) (reg : Bool) (hticks : (s.sinkSt k).ticks ≠ 0)
    (hshort : ((s.passTo ((s.sinkSt k).began + 300)).sinkSt k).ticks < 40) :
    sinkMeasure s k mv reg = s.passTo ((s.sinkSt k).began + 300) := by
  simp [sinkMeasure, hticks, Nat.not_le.mpr hshort]

/-- The end of a command leaves HIGH_HEAD of sink 0 as it is. -/
theorem highHead_finish (s : State) : (finish s).rd ILU_SINK_STAT_HIGH_HEAD 0 = s.rd ILU_SINK_STAT_HIGH_HEAD 0 :=
  rd_finish s ILU_SINK_STAT_HIGH_HEAD 0 0 (by decide)

/-- Sink 0 under GATE 1 with an on-phase of 50 ticks (R263, R264), in an open window of channel 0 that lasts longer, after seven
measurements in a row above HEAD_MAX. -/
def gatedSink : State :=
  ((((State.reset.wr GLB_PANEL_STAT_LOADED 0x82).wr ILU_DIAG_HEAD_MAX 100).wr ILU_SINK_CFG_USED 1 0).wr ILU_SINK_CTRL_EN 1 0
    |>.updSinkSt 0 fun x => { x with ctrl := 0x98002000, duty := 50, run := true, high := 7 }).updChan 0 fun x =>
      { x with on := true, winOpen := 1, endAt := 9000 }

/-- The on-phase of `gatedSink` starts, and 100 ns into it channel 0 is disabled, which closes the window: the sink is dark from there. -/
def cutOnPhase : State := channelOff ((sinkPhase gatedSink 0).passTo 100) 0

/-- `cutOnPhase` meets what the first clause of the statement asks, with the pin at 3 V and HEAD_MAX at 2 V. -/
theorem cutOnPhase_meets_hypotheses :
    40 ≤ (cutOnPhase.sinkSt 0).ticks ∧ sinkMay cutOnPhase 0 = true ∧ measOld cutOnPhase 0 10000 = true ∧
      20 * cutOnPhase.rd ILU_DIAG_HEAD_MAX < 3000 ∧ (cutOnPhase.sinkSt 0).high = 7 ∧ cutOnPhase.flag ILU_SINK_STAT_HIGH_HEAD 0 = false := by
  and_intros <;> decide +kernel

/-- The on-phase of `cutOnPhase` has lasted 10 of its 50 ticks at the moment at which it would be measured. -/
theorem cutOnPhase_short : ((cutOnPhase.passTo ((cutOnPhase.sinkSt 0).began + 300)).sinkSt 0).ticks = 10 := by decide +kernel

theorem cutOnPhase_highHead_clear : (cutOnPhase.passTo ((cutOnPhase.sinkSt 0).began + 300)).rd ILU_SINK_STAT_HIGH_HEAD 0 = 0 := by
  decide +kernel

/-- `SINK_MEASURE` leaves HIGH_HEAD of `cutOnPhase` clear. -/
theorem highHead_sinkMeasure_cutOnPhase (mv : Nat) (reg : Bool) :
    (finish (sinkMeasure cutOnPhase 0 mv reg)).rd ILU_SINK_STAT_HIGH_HEAD 0 = 0 := by
  have hticks : (cutOnPhase.sinkSt 0).ticks ≠ 0 := by have := cutOnPhase_meets_hypotheses.left; omega
  have hshort : ((cutOnPhase.passTo ((cutOnPhase.sinkSt 0).began + 300)).sinkSt 0).ticks < 40 := by rw [cutOnPhase_short]; decide
  rw [highHead_finish, sinkMeasure_of_short mv reg hticks hshort]
  exact cutOnPhase_highHead_clear

/-- Refutes O51: nothing in its hypotheses keeps the sink lit up to the moment of the measurement, 300 ns after the on-phase starts. In
`cutOnPhase` the gate window has closed after 100 ns, so R266 gives no eighth measurement and HIGH_HEAD stays clear. -/
theorem not_sinkTakesHighHeadAfterEightMeasurements : ¬ Obligations.SinkTakesHighHeadAfterEightMeasurements := by
  intro ⟨heighth, _, _⟩
  obtain ⟨hticks, hmay, hold, hpin, hseven, hflag⟩ := cutOnPhase_meets_hypotheses
  have hset := answers_done.mp (heighth 0 3000 true cutOnPhase hticks hmay hold hpin hseven hflag)
  have hclear := highHead_sinkMeasure_cutOnPhase 3000 true
  exact absurd (hclear.symm.trans hset.left) (by decide)

end Sys2Proof.Safety
end

section
/-! SUPPORT. What the end of a command leaves of the queues and the DMA channels, and that it takes back no output. -/

namespace Sys2Proof.Safety

open Sys2Proof.Machine

theorem Keeps.qs {mask : Nat → Nat} {s t : State} (h : Keeps mask s t) : t.qs = s.qs := by
  have := congrArg State.qs h.rest; exact this

theorem Keeps.dma {mask : Nat → Nat} {s t : State} (h : Keeps mask s t) : t.dma = s.dma := by
  have := congrArg State.dma h.rest; exact this

@[simp] theorem finish_qs (s : State) : (finish s).qs = s.qs := (finish_keeps s).qs

@[simp] theorem finish_dma (s : State) : (finish s).dma = s.dma := (finish_keeps s).dma

@[simp] theorem finish_q (s : State) (n : Nat) : (finish s).q n = s.q n := by simp only [State.q, finish_qs]

/-! ### Outputs stand once made -/

/-- All that the device has put out in `s` it has put out in `t` too, which may add to it. -/
structure OutsStand (s t : State) : Prop where
  suffix : s.outs <:+ t.outs

theorem OutsStand.of_eq {s t : State} (h : t.outs = s.outs) : OutsStand s t := ⟨h ▸ List.suffix_rfl⟩

theorem OutsStand.refl (s : State) : OutsStand s s := .of_eq rfl

theorem OutsStand.trans {s t u : State} (h : OutsStand s t) (k : OutsStand t u) : OutsStand s u := ⟨h.suffix.trans k.suffix⟩

theorem OutsStand.out (s : State) (o : Out) : OutsStand s (s.out o) := ⟨List.suffix_cons o s.outs⟩

theorem OutsStand.wr (s : State) (f : Fld) (v i j : Nat) : OutsStand s (s.wr f v i j) := .of_eq rfl

theorem OutsStand.rge (s : State) (r : RgeSt) : OutsStand s { s with rge := r } := .of_eq rfl

theorem OutsStand.ite {s t u : State} {c : Prop} [Decidable c] (h : OutsStand s t) (k : OutsStand s u) :
    OutsStand s (if c then t else u) := by by_cases hc : c <;> simp [hc, h, k]

theorem OutsStand.forEach {α : Type} {l : List α} {f : State → α → State} (h : ∀ s a, OutsStand s (f s a)) (s : State) :
    OutsStand s (Machine.forEach l s f) := by
  induction l generalizing s with
  | nil => exact .refl s
  | cons a l ih => exact (h s a).trans (ih (f s a))

theorem OutsStand.mem {s t : State} (h : OutsStand s t) {o : Out} (ho : o ∈ s.outs) : o ∈ t.outs := h.suffix.mem ho

theorem outsStand_raise (s : State) (n : Nat) : OutsStand s (raise s n) := by
  unfold raise
  have hpend : ∀ t : State, OutsStand t (t.setBit EVT_PEND (n % 32) (n / 32)) := fun t => .wr t _ _ _ _
  have hlist : ∀ t : State, OutsStand t { t with raised := n :: t.raised } := fun _ => .of_eq rfl
  have hask : ∀ t : State, OutsStand t (askVector t n) := fun t => by
    unfold askVector
    exact .ite (.of_eq rfl) (.refl t)
  have hforward : ∀ t : State, OutsStand t (forwardEvent t n) := fun t => by
    unfold forwardEvent ringOwn
    exact .ite ((OutsStand.out t _).trans (.of_eq rfl)) (.refl t)
  exact ((((OutsStand.wr s _ _ _ _).trans (hpend _)).trans (hlist _)).trans (hask _)).trans (hforward _)

theorem outsStand_updFamily (s : State) : OutsStand s (updFamily s) := by
  unfold updFamily
  have hraise : ∀ (s : State) b, OutsStand s (raiseIf s b 117) := fun s _ => .ite (outsStand_raise s 117) (.refl s)
  exact .ite (.rge s _) (((((OutsStand.rge s _).trans (.wr _ _ _ _ _)).trans (.wr _ _ _ _ _)).trans (.ite (.rge _ _) (.refl _))).trans (hraise _ _))

theorem outsStand_betweenFrames (s : State) : OutsStand s (betweenFrames s) := by
  have htables : OutsStand s (takeTables s) := (OutsStand.forEach (f := takeTable) (fun _ _ => .of_eq rfl) s).trans (.of_eq rfl)
  exact (OutsStand.ite (.refl s) htables).trans (.ite (outsStand_updFamily _) (.refl _))

theorem outsStand_abortFrame (s : State) : OutsStand s (abortFrame s) := by
  unfold abortFrame
  split
  · exact .refl s
  · rename_i f _
    have hphase : ∀ (s : State) b k, OutsStand s (clearPhase s b k) := fun _ _ _ => .of_eq rfl
    have hclear : OutsStand s (if f.delivered then s else forEach f.phases s fun s p => clearPhase s f.buf p.code) :=
      .ite (.refl s) (.forEach (fun s _ => hphase s _ _) s)
    have hend : ∀ (s : State) r g, OutsStand s { s with rge := r, rgh := g } := fun _ _ _ => .of_eq rfl
    exact (((((hclear.trans (.wr _ _ _ _ _)).trans (.wr _ _ _ _ _)).trans (.wr _ _ _ _ _)).trans (.wr _ _ _ _ _)).trans
      (hend _ _ _)).trans (outsStand_betweenFrames _)

theorem outsStand_disarmEmitter (s : State) : OutsStand s (disarmEmitter s) := by
  unfold disarmEmitter
  exact .ite ((((outsStand_abortFrame s).trans (.wr _ _ _ _ _)).trans (.rge _ _)).trans (outsStand_raise _ _)) (.refl s)

theorem outsStand_stopEmitter (s : State) (trip : Fld) (evt : Nat) : OutsStand s (stopEmitter s trip evt) :=
  ((outsStand_disarmEmitter s).trans (.wr _ trip 1 0 0)).trans (outsStand_raise _ evt)

theorem outsStand_updSafe (s : State) : OutsStand s (updSafe s) := by
  unfold updSafe
  have hbit : ∀ (s : State) t, OutsStand s (s.setBit AFE_TS_STAT_SAFE_ACT t) := fun s _ => .wr s _ _ _ _
  exact .ite (.forEach (fun s _ => .ite (hbit s _) (.refl s)) s) (.refl s)

theorem outsStand_updMatrix (s : State) : OutsStand s (updMatrix s) := by
  unfold updMatrix
  exact .ite (.refl s) (.ite ((OutsStand.wr s _ _ _ _).trans (.forEach (fun _ _ => .wr _ _ _ _ _) _))
    (.ite (.refl s) ((OutsStand.wr s _ _ _ _).trans (.forEach (fun _ _ => .wr _ _ _ _ _) _))))

theorem outsStand_actOnLines (s : State) : OutsStand s (actOnLines s) := by
  unfold actOnLines
  exact (((OutsStand.wr s _ _ _ _).trans (.rge _ _)).trans (.ite (outsStand_stopEmitter _ _ _) (.refl _))).trans
    (.ite ((OutsStand.wr _ _ _ _ _).trans (outsStand_raise _ _)) (.refl _))

theorem outsStand_linesRound (s : State) : OutsStand s (linesRound s) :=
  (((outsStand_updSafe s).trans (outsStand_updMatrix _)).trans (.wr _ _ _ _ _)).trans (outsStand_actOnLines _)

theorem outsStand_sendVector (s : State) (v : Nat) : OutsStand s (sendVector s v) := by
  unfold sendVector
  have hemit : OutsStand s (emitMsix s v) := by
    unfold emitMsix
    exact ((OutsStand.out s _).trans (.wr _ _ _ _ _)).trans (.ite (.refl _) (.wr _ _ _ _ _))
  have hpba : OutsStand s (setPba s v true) := .of_eq rfl
  exact .ite (.wr s _ _ _ _) (.ite hpba hemit)

theorem outsStand_flushVectors (s : State) : OutsStand s (flushVectors s) := by
  unfold flushVectors
  have hasked : OutsStand s { s with vecReq := [] } := .of_eq rfl
  exact hasked.trans (.forEach (fun s v => outsStand_sendVector s (v % 64)) _)

/-- What a command has put out is still there at its end. -/
theorem outsStand_finish (s : State) : OutsStand s (finish s) :=
  ((((outsStand_linesRound s).trans (outsStand_linesRound _)).trans (outsStand_linesRound _)).trans (outsStand_flushVectors _)).trans
    (.of_eq rfl)

end Sys2Proof.Safety
end

section
/-! SUPPORT. What a write of `QUE_CMD` comes to, and what it finds of the queue that it names. -/

namespace Sys2Proof.Machine

theorem Fld.off_ne_of_lt_base {f : Fld} {o : Nat} (i j : Nat) (h : o < f.base) : f.off i j ≠ o := by
  unfold Fld.off; omega

theorem stampIgnored_rd (s : State) {f : Fld} {i j : Nat} (h : f.off i j ≠ GLB_ORDER_CNT.off 0 0) :
    (stampIgnored s).rd f i j = s.rd f i j := State.rd_congr (stampIgnored_get s h)

theorem stampIgnored_flag (s : State) {f : Fld} {i j : Nat} (h : f.off i j ≠ GLB_ORDER_CNT.off 0 0) :
    (stampIgnored s).flag f i j = s.flag f i j := by simp only [State.flag, stampIgnored_rd s h]

@[simp] theorem stampIgnored_qs (s : State) : (stampIgnored s).qs = s.qs := by
  unfold stampIgnored; split <;> rfl

@[simp] theorem stampIgnored_q (s : State) (q : Nat) : (stampIgnored s).q q = s.q q := by simp only [State.q, stampIgnored_qs]

@[simp] theorem stampIgnored_dmaEn (s : State) (q : Nat) : (stampIgnored s).flag QUE_CFG_DMA_EN q = s.flag QUE_CFG_DMA_EN q :=
  stampIgnored_flag s (Fld.off_ne_of_lt_base q 0 (by decide))

@[simp] theorem stampIgnored_quiesced (s : State) (p : Nat) : (stampIgnored s).quiesced p = s.quiesced p := by
  have hfield : (stampIgnored s).rd GLB_PANEL_STAT_QUIESCED = s.rd GLB_PANEL_STAT_QUIESCED := stampIgnored_rd s (by decide)
  simp only [State.quiesced, hfield]

@[simp] theorem qDisabled_stampIgnored (s : State) (q : Nat) : qDisabled (stampIgnored s) q = qDisabled s q := by
  have hsize : (stampIgnored s).rd QUE_PART_SIZE q = s.rd QUE_PART_SIZE q := stampIgnored_rd s (Fld.off_ne_of_lt_base q 0 (by decide))
  have herr : (stampIgnored s).flag QUE_STAT_CFG_ERR q = s.flag QUE_STAT_CFG_ERR q :=
    stampIgnored_flag s (Fld.off_ne_of_lt_base q 0 (by decide))
  simp only [qDisabled, hsize, herr]

/-- The row of `QUE_CMD`. -/
def queCmdRow : RegDesc := ⟨0xc00018, 0x40, 64, 0, 1, 0, 0, 0, 0, 0, 0xffff07, 10⟩

theorem regRow_queCmd (q : Fin 64) : regRow (QUE_CMD.off q 0) = some queCmdRow := by revert q; decide

theorem regIndex_queCmd (q : Fin 64) : regIndex queCmdRow (QUE_CMD.off q 0) = (q.val, 0) := by revert q; decide

/-- `QUE_CMD` stands in block 12, at the offset of a word, and is neither of the registers that are never stamped (R366). -/
theorem queCmd_place (q : Fin 64) :
    QUE_CMD.off q 0 / 0x100000 = 12 ∧ QUE_CMD.off q 0 % 4 = 0 ∧ QUE_CMD.off q 0 ≠ 0x90 ∧ QUE_CMD.off q 0 ≠ 0x94 := by
  have hoff : QUE_CMD.off q 0 = 0xC00018 + q.val * 0x40 := by simp [Fld.off, QUE_CMD]
  omega

/-- No stamp acts on `QUE_CMD`, which holds no tagged parameter (R366). -/
theorem stampActs_queCmd (s : State) (i ch : Nat) : stampActs s queCmdRow.base i ch = false := rfl

/-- `QUE_CMD` holds no locked field (R52). -/
theorem lockRefuses_queCmd (s : State) (off : Nat) (v : Word) : lockRefuses s queCmdRow off v = false := by
  simp [lockRefuses, queCmdRow]

theorem writeReg_queCmd (s : State) (q : Fin 64) (v : Word) :
    writeReg s queCmdRow (QUE_CMD.off q 0) v false none = qCommand s q v.toNat := by
  simp only [writeReg, (queCmd_place q).left, regIndex_queCmd]
  rfl

end Sys2Proof.Machine

namespace Sys2Proof.Safety

open Sys2Proof.Machine

/-- A write that reaches `QUE_CMD` gives the command that its word names. -/
theorem hostSet_queCmd {s : State} {q : Fin 64} (h : Reaches s (QUE_CMD.off q 0)) (v : Word) :
    hostSet s QUE_CMD v q = qCommand (stampIgnored s) q v.toNat := by
  obtain ⟨-, hword, hctrl, hline⟩ := queCmd_place q
  have hreach : (!responds s (QUE_CMD.off q 0) || (s.pwr.d2dDown && onFieldDie (QUE_CMD.off q 0))) = false := by
    obtain ⟨hresponds, hlink | hcore⟩ := h
    · simp [hresponds, hlink]
    · simp [hresponds, hcore]
  have hacts : ((stampNow s).any fun t => stampActs s queCmdRow.base (regIndex queCmdRow (QUE_CMD.off q 0)).1 t.1) = false := by
    simp [stampActs_queCmd]
  have hstamp : hostSet s QUE_CMD v q = writeAt s (QUE_CMD.off q 0) v (stampNow s) := by
    simp [hostSet, hostWrite, hword, hctrl, hline]
  rw [hstamp, ← writeReg_queCmd]
  simp only [writeAt, hreach, regRow_queCmd, hacts, lockRefuses_queCmd]
  rfl

end Sys2Proof.Safety
end

section
/-! SUPPORT. What `QUE_STAT` shows after a queue's state is replaced, and after a command's result code is set. -/

namespace Sys2Proof.Machine

/-- A write in a row of registers leaves the rows beside it alone. -/
theorem State.rd_wr_sister (s : State) {f g : Fld} (v i : Nat) (hs : g.s1 = f.s1) (hb : g.base ≠ f.base) :
    (s.wr f v i).rd g i = s.rd g i :=
  State.rd_wr_ne s f v i 0 g i 0 (by unfold Fld.off; rw [hs]; omega)

@[simp] theorem State.q_out (s : State) (o : Out) (n : Nat) : (s.out o).q n = s.q n := rfl

theorem State.rd_sat_sister (s : State) (f g : Fld) (k i : Nat) (hs : g.s1 = f.s1) (hb : g.base ≠ f.base) :
    (s.sat f k i).rd g i = s.rd g i := State.rd_wr_sister s _ i hs hb

theorem State.q_sat (s : State) (f : Fld) (k i j n : Nat) : (s.sat f k i j).q n = s.q n := rfl

theorem qSync_q (s : State) (q n : Nat) : (qSync s q).q n = s.q n := by
  unfold qSync
  dsimp only
  rw [State.q_wr, State.q_wr, State.q_wr, State.q_wr, State.q_wr, State.q_wr]

theorem qPut_q (s : State) (q : Nat) (st : QSt) : (qPut s q st).q q = st := by rw [qPut, qSync_q, State.q_setQ]

theorem rd_qPut_markValid (s : State) (q : Nat) (st : QSt) : (qPut s q st).rd QUE_STAT_MARK_VALID q = if st.markV then 1 else 0 := by
  simp (disch := decide) only [qPut, qSync, State.rd_wr_sister, State.rd_wr_apart, State.rd_wr_same, State.q_setQ]
  cases st.markV <;> rfl

theorem rd_qPut_markLost (s : State) (q : Nat) (st : QSt) : (qPut s q st).rd QUE_STAT_MARK_LOST q = if st.markLost then 1 else 0 := by
  simp (disch := decide) only [qPut, qSync, State.rd_wr_sister, State.rd_wr_apart, State.rd_wr_same, State.q_setQ]
  cases st.markLost <;> rfl

theorem rd_qPut_empty (s : State) (q : Nat) (st : QSt) : (qPut s q st).rd QUE_STAT_EMPTY q = if st.rd = st.cmt then 1 else 0 := by
  simp (disch := decide) only [qPut, qSync, State.rd_wr_sister, State.rd_wr_same, State.q_setQ, beq_iff_eq]
  split <;> rfl

@[simp] theorem cmdErr_qs (s : State) (q e : Nat) : (cmdErr s q e).qs = s.qs := rfl

theorem cmdErr_q (s : State) (q e n : Nat) : (cmdErr s q e).q n = s.q n := rfl

theorem rd_cmdErr (s : State) (q : Nat) {e : Nat} (he : e < 16) : (cmdErr s q e).rd QUE_STAT_CMD_ERR q = e :=
  (State.rd_wr_same s QUE_STAT_CMD_ERR e q 0 (by decide)).trans (Nat.mod_eq_of_lt he)

/-- A result code leaves the other fields of `QUE_STAT` as they are. -/
theorem rd_cmdErr_apart (s : State) (q e : Nat) (g : Fld) (hg : g.lo + g.w ≤ 32)
    (h : g.lo + g.w ≤ QUE_STAT_CMD_ERR.lo ∨ QUE_STAT_CMD_ERR.lo + QUE_STAT_CMD_ERR.w ≤ g.lo) : (cmdErr s q e).rd g q = s.rd g q :=
  State.rd_wr_apart s QUE_STAT_CMD_ERR e q 0 g q 0 hg h

end Sys2Proof.Machine

namespace Sys2Proof.Safety

open Sys2Proof.Machine

theorem settleMask_queStat (q : Fin 64) : settleMask (QUE_STAT.off q 0) = 0 := by revert q; decide

/-- The end of a command leaves the fields of `QUE_STAT` as they are. -/
theorem rd_finish_queStat (s : State) (q : Fin 64) (f : Fld) (hb : f.base = QUE_STAT.base) (h1 : f.s1 = QUE_STAT.s1) :
    (finish s).rd f q = s.rd f q := by
  have hoff : f.off q 0 = QUE_STAT.off q 0 := by simp only [Fld.off, hb, h1, Nat.zero_mul]
  exact State.rd_congr (get_finish s _ (by rw [hoff]; exact settleMask_queStat q))

theorem rd_finish_cmdErr (s : State) (q : Fin 64) {e : Nat} (he : e < 16) : (finish (cmdErr s q e)).rd QUE_STAT_CMD_ERR q = e := by
  rw [rd_finish_queStat _ q QUE_STAT_CMD_ERR rfl rfl, rd_cmdErr s q he]

/-- The end of a command that sets a result code leaves the other fields of `QUE_STAT` as they are. -/
theorem rd_finish_cmdErr_apart (s : State) (q : Fin 64) (e : Nat) (g : Fld) (hb : g.base = QUE_STAT.base) (h1 : g.s1 = QUE_STAT.s1)
    (hg : g.lo + g.w ≤ 32) (h : g.lo + g.w ≤ QUE_STAT_CMD_ERR.lo ∨ QUE_STAT_CMD_ERR.lo + QUE_STAT_CMD_ERR.w ≤ g.lo) :
    (finish (cmdErr s q e)).rd g q = s.rd g q := by
  rw [rd_finish_queStat _ q g hb h1, rd_cmdErr_apart s q e g hg h]

/-- A command refused with code `e` shows it and changes no queue. -/
theorem answers_cmdErr (s : State) (q : Fin 64) {e : Nat} (he : e < 16) :
    Answers (done (cmdErr (stampIgnored s) q e)) fun t => t.rd QUE_STAT_CMD_ERR q = e ∧ t.qs = s.qs := by
  rw [answers_done]
  exact ⟨rd_finish_cmdErr _ q he, by simp⟩

end Sys2Proof.Safety
end

section
/-! PROOF. MARK on a packet boundary and inside a packet (R337). -/

namespace Sys2Proof.Machine

theorem qMark_of_boundary {s : State} {q : Nat} (hen : qDisabled s q = false) (hfree : s.flag QUE_CFG_DMA_EN q = false)
    (hb : qOnBoundary (s.q q) = true) :
    qMark s q = cmdErr (qPut s q { s.q q with mark := (s.q q).rd, markV := true, markLost := false }) q 0 := by
  simp [qMark, hen, hfree, hb]

theorem qMark_inside_packet {s : State} {q : Nat} (hen : qDisabled s q = false) (hfree : s.flag QUE_CFG_DMA_EN q = false)
    (hb : qOnBoundary (s.q q) = false) : qMark s q = cmdErr s q 1 := by
  simp [qMark, hen, hfree, hb]

end Sys2Proof.Machine

namespace Sys2Proof.Safety

open Sys2Proof.Machine

theorem exec_mark {s : State} {q : Fin 64} (h : Reaches s (QUE_CMD.off q 0)) : exec (.mark q) s = done (qMark (stampIgnored s) q) :=
  congrArg done (hostSet_queCmd h 1)

/-- Settles O47: MARK comes to `qMark`, which looks at the boundary once the queue is neither disabled nor bound. -/
theorem markIsTakenOnAPacketBoundary : Obligations.MarkIsTakenOnAPacketBoundary := by
  refine ⟨fun q s hreach hen hfree hb => ?_, fun q s hreach hen hfree hb => ?_⟩
  · rw [exec_mark hreach, qMark_of_boundary (by simpa using hen) (by simpa using hfree) (by simpa using hb), answers_done]
    rw [finish_q, cmdErr_q, qPut_q]
    refine ⟨rfl, by rw [stampIgnored_q], by rw [stampIgnored_q], ?_, ?_, ?_⟩
    · exact rd_finish_cmdErr _ q (by decide)
    · rw [rd_finish_cmdErr_apart _ q 0 QUE_STAT_MARK_VALID rfl rfl (by decide) (by decide), rd_qPut_markValid, if_pos rfl]
    · rw [rd_finish_cmdErr_apart _ q 0 QUE_STAT_MARK_LOST rfl rfl (by decide) (by decide), rd_qPut_markLost, if_neg Bool.false_ne_true]
  · rw [exec_mark hreach, qMark_inside_packet (by simpa using hen) (by simpa using hfree) (by simpa using hb)]
    exact answers_cmdErr s q (by decide)

end Sys2Proof.Safety
end

section
/-! SUPPORT. A pop read of a queue that is bound to a DMA channel (R335, R344). -/

namespace Sys2Proof.Machine

/-- A field that is its whole register reads as the register's word. -/
theorem State.rd_whole (s : State) {f : Fld} (i j : Nat) (hlo : f.lo = 0) (hw : f.w = 32) : s.rd f i j = (s.get (f.off i j)).toNat := by
  simp only [State.rd, bitsOf, hlo, hw, Nat.pow_zero, Nat.div_one]
  exact Nat.mod_eq_of_lt (s.get (f.off i j)).isLt

/-- What a pop read of queue `q` returns where there is nothing to pop (R335, R336). -/
def emptyItem (s : State) (q : Nat) : List Nat :=
  popItem (s.rd2 QUE_IDLE_LO QUE_IDLE_HI q) 0 0 false false false false false false

/-- The empty item is the queue's idle word, and zeros. -/
theorem emptyItem_eq (s : State) (q : Nat) :
    emptyItem s q = [(s.get (QUE_IDLE_LO.off q 0)).toNat, (s.get (QUE_IDLE_HI.off q 0)).toNat, 0, 0] := by
  have hlo : s.rd QUE_IDLE_LO q = (s.get (QUE_IDLE_LO.off q 0)).toNat := State.rd_whole s q 0 rfl rfl
  have hhi : s.rd QUE_IDLE_HI q = (s.get (QUE_IDLE_HI.off q 0)).toNat := State.rd_whole s q 0 rfl rfl
  have hlt : (s.get (QUE_IDLE_LO.off q 0)).toNat < 2 ^ 32 := (s.get (QUE_IDLE_LO.off q 0)).isLt
  have hlow : ((s.get (QUE_IDLE_LO.off q 0)).toNat + 2 ^ 32 * (s.get (QUE_IDLE_HI.off q 0)).toNat) % 2 ^ 32 =
      (s.get (QUE_IDLE_LO.off q 0)).toNat := by omega
  have hhigh : ((s.get (QUE_IDLE_LO.off q 0)).toNat + 2 ^ 32 * (s.get (QUE_IDLE_HI.off q 0)).toNat) / 2 ^ 32 =
      (s.get (QUE_IDLE_HI.off q 0)).toNat := by omega
  simp only [emptyItem, popItem, State.rd2, hlo, hhi, hlow, hhigh]
  rfl

/-- R344: a pop of a bound queue captures the empty item and moves nothing. -/
theorem qPop_of_bound {s : State} {q : Nat} (h : s.flag QUE_CFG_DMA_EN q = true) :
    qPop s q = s.setQ q { s.q q with pop := emptyItem s q } := if_pos h

/-- Offset of word `k` of the pop window of queue `q` (R335). -/
def popOff (q k : Nat) : Nat := 0x1A00000 + 0x1000 * q + 4 * k

theorem popOff_zero (q : Nat) : popOff q 0 = 0x1A00000 + 0x1000 * q := by unfold popOff; omega

theorem popOff_succ (q k : Nat) : popOff q k + 4 = popOff q (k + 1) := by unfold popOff; omega

section
variable {q k : Nat} (hq : q < 64) (hk : k < 4)
include hq hk

theorem responds_popOff (s : State) : responds s (popOff q k) = responds s (popOff q 0) := by
  have hpanel : ∀ n < 4, panelOf (popOff q n) = 10 := fun n hn => by
    have hblock : popOff q n / 0x100000 = 26 := by unfold popOff; omega
    have hin : popOff q n < 0x1A40000 := by unfold popOff; omega
    simp [panelOf, hblock, hin]
  simp only [responds, hpanel k hk, hpanel 0 (by decide)]

theorem regRow_popOff : regRow (popOff q k) = none := by
  have hblock : popOff q k / 0x100000 = 26 := by unfold popOff; omega
  simp [regRow, blockRows, hblock, findRow]

theorem windowWord_popOff : windowWord (popOff q k) = true := by
  have hlo : 0x1A00000 ≤ popOff q k := by unfold popOff; omega
  have hhi : popOff q k < 0x1A00000 + 0x40000 := by unfold popOff; omega
  have hword : popOff q k % 0x1000 < 16 := by unfold popOff; omega
  simp [windowWord, hlo, hhi, hword]

/-- A read of a word of the pop window: the first one pops. -/
theorem readWord_popOff {s : State} (h : responds s (popOff q 0) = true) :
    readWord s (popOff q k) =
      let t := if k = 0 then qPop s q else s
      (t, BitVec.ofNat 32 ((t.q q).pop.getD k 0)) := by
  have hlo : 0x1A00000 ≤ popOff q k := by unfold popOff; omega
  have hhi : popOff q k < 0x1A40000 := by unfold popOff; omega
  have hqueue : (popOff q k - 0x1A00000) / 0x1000 = q := by unfold popOff; omega
  have hword : popOff q k % 0x1000 / 4 = k := by unfold popOff; omega
  simp only [readWord, responds_popOff hq hk, h, regRow_popOff hq hk, windowWord_popOff hq hk]
  simp [readWindow, hlo, hhi, hqueue, hword, Nat.not_le.mpr hk]

end

/-- A pop read of a bound queue returns the empty item; of the state only the queue's captured item changes. -/
theorem hostRead_pop_of_bound {s : State} {q : Nat} (hq : q < 64) (hr : responds s (popOff q 0) = true)
    (h : s.flag QUE_CFG_DMA_EN q = true) :
    hostRead s (popOff q 0) 4 = (s.setQ q { s.q q with pop := emptyItem s q }).out
      (.readData (popOff q 0) [s.get (QUE_IDLE_LO.off q 0), s.get (QUE_IDLE_HI.off q 0), 0, 0]) := by
  have hword : popOff q 0 % 4 = 0 := by unfold popOff; omega
  have hpop : readWord s (popOff q 0) = (s.setQ q { s.q q with pop := emptyItem s q }, s.get (QUE_IDLE_LO.off q 0)) := by
    simp [readWord_popOff hq (k := 0) (by decide) hr, qPop_of_bound h, emptyItem_eq]
  have hrest : ∀ k < 4, 0 < k → readWord (s.setQ q { s.q q with pop := emptyItem s q }) (popOff q k) =
      (s.setQ q { s.q q with pop := emptyItem s q }, BitVec.ofNat 32 ((emptyItem s q).getD k 0)) := fun k hk hpos => by
    simp [readWord_popOff hq hk (s := s.setQ q _) hr, Nat.ne_of_gt hpos]
  simp only [hostRead, hword, if_true, readWords, hpop, popOff_succ, hrest 1 (by decide) (by decide), hrest 2 (by decide) (by decide),
    hrest 3 (by decide) (by decide)]
  simp [emptyItem_eq]

end Sys2Proof.Machine
end

section
/-! SUPPORT. Commands on a queue that is bound to a DMA channel (R344), a flush of it (R342) and a data write of another channel. -/

namespace Sys2Proof.Machine

section
variable {s : State} {q : Nat} (hen : qDisabled s q = false) (hbound : s.flag QUE_CFG_DMA_EN q = true)
include hen hbound

theorem qMark_of_bound : qMark s q = cmdErr s q 4 := by simp [qMark, hen, hbound]

theorem qRewind_of_bound : qRewind s q = cmdErr s q 4 := by simp [qRewind, hen, hbound]

theorem qRelease_of_bound (n : Nat) : qRelease s q n = cmdErr s q 4 := by simp [qRelease, hen, hbound]

end

theorem qFlushCmd_of_enabled {s : State} {q : Nat} (hen : qDisabled s q = false) (hin : s.quiesced 10 = false) :
    qFlushCmd s q = cmdErr (qFlush s q) q 0 := by simp [qFlushCmd, hen, hin]

/-- R344: no channel but the queue's own takes a word of it. -/
theorem dmaWord_of_other {s : State} {ch q : Nat} (h : s.rd QUE_CFG_DCH q ≠ ch) : dmaWord s ch q = s := by
  unfold dmaWord
  dsimp only
  split
  · simp [h]
  · rfl

/-- The completion of a descriptor touches no queue. -/
theorem dmaComplete_qs (s : State) (ch : Nat) (d : Desc) (flags pad : Nat) : (dmaComplete s ch d flags pad).qs = s.qs := by
  unfold dmaComplete; dsimp only; split <;> rfl

/-- Of the registers the completion of a descriptor changes the channel's `PCR_DMA_STAT` alone. -/
theorem dmaComplete_get (s : State) {ch : Nat} (d : Desc) (flags pad : Nat) {o : Nat} (h : o ≠ PCR_DMA_STAT.off ch 0) :
    (dmaComplete s ch d flags pad).get o = s.get o := by
  unfold dmaComplete
  dsimp only
  split <;> exact State.get_wr_ne _ PCR_DMA_STAT_FETCHED _ ch 0 h

/-- A flush is its effect on the queue itself, and at most the completion of a descriptor. -/
theorem qFlush_cases (s : State) (q : Nat) :
    qFlush s q = qFlushCore s q ∨ ∃ ch d, qFlush s q = dmaComplete (qFlushCore s q) ch d 4 0 := by
  unfold qFlush
  dsimp only
  split
  · split
    · exact .inr ⟨_, _, rfl⟩
    · exact .inl rfl
  · exact .inl rfl

theorem qFlush_pkts (s : State) (q : Nat) : ((qFlush s q).q q).pkts = [] := by
  have hcore : ((qFlushCore s q).q q).pkts = [] := by rw [qFlushCore, State.q_sat, qPut_q]
  obtain h | ⟨ch, d, h⟩ := qFlush_cases s q
  · rw [h, hcore]
  · rw [h, State.q, dmaComplete_qs, ← State.q, hcore]

/-- R342: a flush leaves RD at CMT. -/
theorem qFlush_empty (s : State) (q : Fin 64) : (qFlush s q).rd QUE_STAT_EMPTY q = 1 := by
  have hcore : (qFlushCore s q).rd QUE_STAT_EMPTY q = 1 := by
    rw [qFlushCore, State.rd_sat_sister _ QUE_CNT_MISC_FLUSHES QUE_STAT_EMPTY 1 q rfl (by decide), rd_qPut_empty, if_pos rfl]
  obtain h | ⟨ch, d, h⟩ := qFlush_cases s q
  · rw [h, hcore]
  · have hoff : QUE_STAT_EMPTY.off q 0 ≠ PCR_DMA_STAT.off ch 0 := by
      have := q.isLt
      simp only [Fld.off, QUE_STAT_EMPTY, PCR_DMA_STAT]
      omega
    rw [h, State.rd_congr (dmaComplete_get _ d 4 0 hoff), hcore]

end Sys2Proof.Machine
end

section
/-! PROOF. A queue bound to a DMA channel has that channel as its only consumer (R344). -/

namespace Sys2Proof.Safety

open Sys2Proof.Machine

theorem exec_queuePop (s : State) (q : Fin 64) : exec (.queuePop q) s = done (hostRead s (popOff q 0) 4) := by
  rw [popOff_zero]; rfl

theorem exec_rewind {s : State} {q : Fin 64} (h : Reaches s (QUE_CMD.off q 0)) : exec (.rewind q) s = done (qRewind (stampIgnored s) q) :=
  congrArg done (hostSet_queCmd h 2)

theorem exec_release {s : State} {q : Fin 64} (h : Reaches s (QUE_CMD.off q 0)) (n : BitVec 16) :
    exec (.release q n) s = done (qRelease (stampIgnored s) q n.toNat) := by
  have hv : (BitVec.ofNat 32 (3 + 256 * n.toNat)).toNat = 3 + 256 * n.toNat := by rw [BitVec.toNat_ofNat]; omega
  have hop : (3 + 256 * n.toNat) % 8 = 3 := by omega
  have hcount : bitsOf (3 + 256 * n.toNat) 8 16 = n.toNat := by unfold bitsOf; omega
  have hcmd : qCommand (stampIgnored s) q (3 + 256 * n.toNat) = qRelease (stampIgnored s) q n.toNat := by simp only [qCommand, hop, hcount]
  exact congrArg done ((hostSet_queCmd h _).trans (by rw [hv, hcmd]))

theorem exec_flush {s : State} {q : Fin 64} (h : Reaches s (QUE_CMD.off q 0)) : exec (.flush q) s = done (qFlushCmd (stampIgnored s) q) :=
  congrArg done (hostSet_queCmd h 4)

theorem exec_dmaDataWrite_of_other {s : State} {ch : Fin 8} {q : Fin 64} (h : s.rd QUE_CFG_DCH q ≠ ch) :
    exec (.dmaDataWrite ch q) s = done s := by
  show done (if dmaState s ch == 1 then dmaWord s ch q else s) = done s
  rw [dmaWord_of_other h, ite_self]

/-- Settles O48: each other consumer is stopped by DMA_EN (a pop read, MARK, REWIND, RELEASE) or by DCH (another channel); FLUSH takes
no word and goes on. -/
theorem aBoundQueueHasItsChannelAsOnlyConsumer : Obligations.ABoundQueueHasItsChannelAsOnlyConsumer := by
  refine ⟨fun q s hreach hbound => ?_, fun q n s hreach hen hbound => ?_, fun ch q s _ hother => ?_, fun q s hreach hen hin _ => ?_⟩
  · rw [← popOff_zero] at hreach
    rw [exec_queuePop, hostRead_pop_of_bound q.isLt hreach.left hbound, answers_done, ← popOff_zero]
    refine ⟨?_, by simp, by simp, by simp, fun o ho => get_finish _ o ho⟩
    exact List.contains_iff_mem.mpr ((outsStand_finish _).mem (List.mem_cons_self ..))
  · have hen' : qDisabled (stampIgnored s) q = false := by simpa using hen
    have hbound' : (stampIgnored s).flag QUE_CFG_DMA_EN q = true := by simpa using hbound
    rw [exec_mark hreach, exec_rewind hreach, exec_release hreach, qMark_of_bound hen' hbound', qRewind_of_bound hen' hbound',
      qRelease_of_bound hen' hbound']
    have hrefused := answers_cmdErr s q (e := 4) (by decide)
    exact ⟨hrefused, hrefused, hrefused⟩
  · rw [exec_dmaDataWrite_of_other hother, answers_done]
    exact ⟨finish_qs s, finish_dma s⟩
  · rw [exec_flush hreach, qFlushCmd_of_enabled (by simpa using hen) (by simpa using hin), answers_done]
    refine ⟨?_, ?_, ?_⟩
    · exact rd_finish_cmdErr _ q (by decide)
    · rw [finish_q, cmdErr_q, qFlush_pkts]
    · rw [rd_finish_cmdErr_apart _ q 0 QUE_STAT_EMPTY rfl rfl (by decide) (by decide), qFlush_empty]

end Sys2Proof.Safety
end

section
/-! SUPPORT. What the boot of `PORST#` leaves of the ring: all of it (R440, R441). -/

namespace Sys2Proof.Machine

/-- `t` holds of the ring all that `s` does. -/
structure SameRing (s t : State) : Prop where
  eq : t.ring = s.ring

theorem SameRing.refl (s : State) : SameRing s s := ⟨rfl⟩

theorem SameRing.trans {s t u : State} (h : SameRing s t) (k : SameRing t u) : SameRing s u := ⟨k.eq.trans h.eq⟩

theorem SameRing.set (s : State) (o : Nat) (w : Word) : SameRing s (s.set o w) := ⟨State.set_ring s o w⟩

theorem SameRing.wr (s : State) (f : Fld) (v i j : Nat) : SameRing s (s.wr f v i j) := ⟨State.wr_ring s f v i j⟩

theorem SameRing.wr2 (s : State) (lo hi : Fld) (v i : Nat) : SameRing s (s.wr2 lo hi v i) := (SameRing.wr s _ _ _ _).trans (.wr _ _ _ _ _)

theorem SameRing.cal (s : State) (c : CalSt) : SameRing s { s with cal := c } := ⟨rfl⟩

theorem SameRing.fix (s : State) (x : FixSt) : SameRing s { s with fix := x } := ⟨rfl⟩

theorem SameRing.sec (s : State) (x : SecSt) : SameRing s { s with sec := x } := ⟨rfl⟩

theorem SameRing.ite {s t u : State} {c : Prop} [Decidable c] (h : SameRing s t) (k : SameRing s u) : SameRing s (if c then t else u) := by
  by_cases hc : c <;> simp [hc, h, k]

theorem SameRing.forEach {α : Type} {l : List α} {f : State → α → State} (h : ∀ s a, SameRing s (f s a)) (s : State) :
    SameRing s (forEach l s f) := by
  induction l generalizing s with
  | nil => exact .refl s
  | cons a l ih => exact (h s a).trans (ih (f s a))

/-- An event forwarded to the lead goes out as a frame; its sequence number stands apart from `State.ring`. -/
theorem sameRing_raise (s : State) (n : Nat) : SameRing s (raise s n) := by
  unfold raise
  have hlist : ∀ t : State, SameRing t { t with raised := n :: t.raised } := fun _ => ⟨rfl⟩
  have hask : ∀ t : State, SameRing t (askVector t n) := fun t => by
    unfold askVector
    exact .ite ⟨rfl⟩ (.refl t)
  have hforward : ∀ t : State, SameRing t (forwardEvent t n) := fun t => by
    unfold forwardEvent
    exact .ite ⟨rfl⟩ (.refl t)
  exact ((((SameRing.wr s _ _ _ _).trans (.wr _ _ _ _ _)).trans (hlist _)).trans (hask _)).trans (hforward _)

theorem sameRing_raiseIf (s : State) (b : Bool) (n : Nat) : SameRing s (raiseIf s b n) := .ite (sameRing_raise s n) (.refl s)

theorem sameRing_incident (s : State) (code data : Nat) : SameRing s (incident s code data) := by
  unfold incident
  exact ((SameRing.forEach (fun _ _ => .set _ _ _) s).trans (.set _ _ _)).trans (.wr _ _ _ _ _)

theorem sameRing_showCalRec (s : State) (slot : Nat) (r : Rec) : SameRing s (showCalRec s slot r) := by
  unfold showCalRec
  exact ((((SameRing.wr s _ _ _ _).trans (.wr _ _ _ _ _)).trans (.wr _ _ _ _ _)).trans (.forEach (fun _ _ => .wr _ _ _ _ _) _)).trans
    (.forEach (fun _ _ => .wr _ _ _ _ _) _)

theorem sameRing_trimTake (s : State) (e : Nat) : SameRing s (trimTake s e) := by
  unfold trimTake
  split
  · exact .cal s _
  · exact .refl s

theorem sameRing_forceTables (s : State) (timing : List Byte) : SameRing s (forceTables s timing) := by
  unfold forceTables
  exact .ite (.fix s _) ((SameRing.forEach (f := takeTable) (fun t _ => .fix t _) s).trans (.fix _ _))

theorem sameRing_calResetEnd (s : State) : SameRing s (calResetEnd s) := by
  unfold calResetEnd
  split
  · exact .refl s
  · exact (((SameRing.cal s _).trans (sameRing_incident _ 4 _)).trans (.wr _ _ _ _ _)).trans (sameRing_raise _ 284)

theorem sameRing_bootRecords (s : State) : SameRing s (bootRecords s) := by
  unfold bootRecords
  extract_lets calChecked lgbChecked _ calTaken lgbTaken _ rtcNoted
  have hchecked : SameRing s lgbChecked := (sameRing_raiseIf s _ 285).trans (sameRing_raiseIf calChecked _ 285)
  have hcal : SameRing lgbChecked calTaken := by
    unfold calTaken
    split
    · exact (((sameRing_showCalRec _ _ _).trans (.cal _ _)).trans (.forEach (fun t _ => sameRing_trimTake t _) _)).trans
        (sameRing_forceTables _ _)
    · exact .refl _
  have hlgb : SameRing calTaken lgbTaken := by
    unfold lgbTaken
    split
    · exact ((SameRing.wr _ _ _ _ _).trans (.wr _ _ _ _ _)).trans (.forEach (fun t _ => .wr2 t _ _ _ _) _)
    · exact (sameRing_incident _ 5 0).trans (sameRing_raise _ 285)
  have hrtc : SameRing lgbTaken rtcNoted := .ite ((SameRing.cal _ _).trans (sameRing_incident _ 8 0)) (.refl _)
  exact (((hchecked.trans hcal).trans hlgb).trans hrtc).trans (sameRing_calResetEnd rtcNoted)

theorem sameRing_runFirmware {s t : State} {src : Nat} {read : Nat → List Byte} (h : runFirmware s src read = some t) :
    SameRing s t := by
  unfold runFirmware at h
  split at h
  · cases h
  · dsimp only at h
    split at h
    · cases h
    · cases h
      exact ((SameRing.forEach (fun _ _ => .set _ _ _) s).trans (.sec _ _)).trans (.wr _ _ _ _ _)

theorem sameRing_findSome_runFirmware {α : Type} (l : List α) (s : State) (src : α → Nat) (read : α → Nat → List Byte) :
    SameRing s ((l.findSome? fun p => runFirmware s (src p) (read p)).getD s) := by
  cases hrun : l.findSome? fun p => runFirmware s (src p) (read p) with
  | none => exact .refl s
  | some t =>
    obtain ⟨p, -, hp⟩ := List.exists_of_findSome?_eq_some hrun
    exact sameRing_runFirmware hp

theorem sameRing_bootFirmware (s : State) : SameRing s (bootFirmware s) := by
  unfold bootFirmware
  exact ((SameRing.sec s _).trans (.wr _ _ _ _ _)).trans (sameRing_findSome_runFirmware _ _ _ _)

theorem sameRing_idxSync (s : State) : SameRing s (idxSync s) := by
  unfold idxSync
  exact (SameRing.wr s _ _ _ _).trans (.ite ((SameRing.sec _ _).trans (sameRing_raise _ 8)) (.refl _))

theorem sameRing_secBoot (s : State) : SameRing s (secBoot s) := by
  unfold secBoot
  exact .ite ((SameRing.sec s _).trans (sameRing_idxSync _)) (.wr s _ _ _ _)

theorem sameRing_logbook (s : State) (i n : Nat) : SameRing s (logbook s i n) := .wr2 s _ _ _ _

/-- The strap is the level of `GPIO12`, whatever the boot then does (R385). -/
theorem porst_strapLead (s : State) (up strap : Bool) : (porst s up strap).ring.strapLead = strap := by
  have hkept : ∀ (z : State) (l : List Fld), SameRing z (forEach l z fun z f => z.wr f (s.rd f)) :=
    fun z _ => .forEach (fun _ _ => .wr _ _ _ _ _) z
  have hregs : ∀ (z : State) r, SameRing z { z with regs := r } := fun _ _ => ⟨rfl⟩
  have hboot : ∀ z : State, SameRing z (secBoot (bootRecords (bootFirmware z))) := fun z =>
    ((sameRing_bootFirmware z).trans (sameRing_bootRecords _)).trans (sameRing_secBoot _)
  have hpowered : ∀ z : State, SameRing z (if up then logbook z 89 1 else z) := fun z => .ite (sameRing_logbook z 89 1) (.refl z)
  unfold porst
  dsimp only
  exact congrArg RingSt.strapLead ((((hkept _ _).trans (hregs _ _)).trans (hboot _)).trans (hpowered _)).eq

end Sys2Proof.Machine

namespace Sys2Proof.Safety

open Sys2Proof.Machine

theorem Keeps.ring {mask : Nat → Nat} {s t : State} (h : Keeps mask s t) : t.ring = s.ring := by
  have := congrArg State.ring h.rest; exact this

@[simp] theorem finish_ring (s : State) : (finish s).ring = s.ring := (finish_keeps s).ring

end Sys2Proof.Safety
end

section
/-! SUPPORT. What makes a device the lead on the ring (R384, R385), and what leaves that alone. -/

namespace Sys2Proof.Machine

/-- The fields that `isLead` looks at. -/
def leadFields : List Fld := [GLB_PANEL_STAT_LOADED, BRD_CTRL_EN, BRD_STAT_LEAD]

/-- Whether field `f` of register `i` of its row lies apart from every one of `leadFields`. -/
def Fld.sparesLead (f : Fld) (i : Nat) : Bool :=
  leadFields.all fun g => g.off 0 0 != f.off i 0 || decide (g.lo + g.w ≤ f.lo) || decide (f.lo + f.w ≤ g.lo)

/-- `t` holds all that makes a device the lead as `s` does. -/
structure SameLead (s t : State) : Prop where
  rd : ∀ g ∈ leadFields, t.rd g = s.rd g

theorem SameLead.refl (s : State) : SameLead s s := ⟨fun _ _ => rfl⟩

theorem SameLead.trans {s t u : State} (h : SameLead s t) (k : SameLead t u) : SameLead s u :=
  ⟨fun g hg => (k.rd g hg).trans (h.rd g hg)⟩

theorem SameLead.of_regs {s t : State} (h : t.regs = s.regs) : SameLead s t :=
  ⟨fun g _ => State.rd_congr (congrArg (fun regs => kvGet regReset regs (g.off 0 0)) h)⟩

theorem SameLead.wr (s : State) {f : Fld} {i : Nat} (v : Nat) (h : f.sparesLead i = true) : SameLead s (s.wr f v i) := by
  refine ⟨fun g hg => ?_⟩
  have hword : ∀ g ∈ leadFields, g.lo + g.w ≤ 32 := by decide
  have hfree := List.all_eq_true.mp h g hg
  simp only [Bool.or_eq_true, bne_iff_ne, decide_eq_true_eq, or_assoc] at hfree
  obtain hother | hapart := hfree
  · exact State.rd_wr_ne s f v i 0 g 0 0 hother
  · exact State.rd_wr_apart s f v i 0 g 0 0 (hword g hg) hapart

theorem SameLead.ite {s t u : State} {c : Prop} [Decidable c] (h : SameLead s t) (k : SameLead s u) : SameLead s (if c then t else u) := by
  by_cases hc : c <;> simp [hc, h, k]

theorem SameLead.forEach {α : Type} {l : List α} {f : State → α → State} (h : ∀ s, ∀ a ∈ l, SameLead s (f s a)) (s : State) :
    SameLead s (forEach l s f) := by
  induction l generalizing s with
  | nil => exact .refl s
  | cons a l ih => exact (h s a (List.mem_cons_self ..)).trans (ih (fun s b hb => h s b (List.mem_cons_of_mem _ hb)) (f s a))

section
variable {s t : State} (h : SameLead s t)
include h

theorem SameLead.flag {g : Fld} (hg : g ∈ leadFields) : t.flag g = s.flag g := by simp only [State.flag, h.rd g hg]

theorem SameLead.loaded (p : Nat) : t.loaded p = s.loaded p := by
  simp only [State.loaded, h.rd GLB_PANEL_STAT_LOADED (by decide)]

theorem SameLead.isLead : isLead t = isLead s := by
  simp only [Machine.isLead, ringOn, h.loaded, h.flag (g := BRD_CTRL_EN) (by decide), h.flag (g := BRD_STAT_LEAD) (by decide)]

end

/-! ### The role -/

theorem leadRole_congr {s t : State} (hrole : t.rd BRD_CFG_ROLE = s.rd BRD_CFG_ROLE) (hring : t.ring = s.ring) :
    leadRole t = leadRole s := by simp only [leadRole, hrole, hring]

theorem leadRole_of_lead {s : State} (h : s.rd BRD_CFG_ROLE = 1) : leadRole s = true := by simp [leadRole, h]

theorem leadRole_of_strap {s : State} (h : s.rd BRD_CFG_ROLE = 0) : leadRole s = s.ring.strapLead := by simp [leadRole, h]

theorem leadRole_of_follower {s : State} (h : s.rd BRD_CFG_ROLE = 2) : leadRole s = false := by simp [leadRole, h]

/-! ### Events, states and training -/

/-- A raise changes its source's count and pending bit, and no other register. -/
theorem sameLead_raise (s : State) {n : Nat} (hcnt : EVT_CNT.sparesLead n = true) (hpend : EVT_PEND.sparesLead (n / 32) = true) :
    SameLead s (raise s n) := by
  unfold raise
  have hask : ∀ t : State, SameLead t (askVector t n) := fun t => by
    unfold askVector
    exact .ite (.of_regs rfl) (.refl t)
  have hforward : ∀ t : State, SameLead t (forwardEvent t n) := fun t => by
    unfold forwardEvent
    exact .ite (.of_regs rfl) (.refl t)
  have hlist : ∀ t : State, SameLead t { t with raised := n :: t.raised } := fun _ => .of_regs rfl
  exact ((((SameLead.wr s _ hcnt).trans (.wr _ _ hpend)).trans (hlist _)).trans (hask _)).trans (hforward _)

/-- BRD_LINK (R388). -/
theorem sameLead_raiseIf_link (s : State) (b : Bool) : SameLead s (raiseIf s b 282) :=
  .ite (sameLead_raise s (by decide) (by decide)) (.refl s)

theorem sameLead_ringState (s : State) (st : Nat) : SameLead s (ringState s st) :=
  (SameLead.wr s st (by decide)).trans (sameLead_raiseIf_link _ _)

theorem sameLead_portState (s : State) {p : Nat} (hp : p ∈ [0, 1]) (st : Nat) : SameLead s (portState s p st) := by
  have hfree : ∀ p ∈ [0, 1], BRD_PORT_STAT_STATE.sparesLead p = true := by decide
  exact (SameLead.wr s st (hfree p hp)).trans (sameLead_raiseIf_link _ _)

theorem sameLead_leadLost (s : State) {n : Nat} (hn : n ∈ List.range 4) : SameLead s (leadLost s n) := by
  have hfree : ∀ n ∈ List.range 4, LOG_STAT_SRC_LOST.sparesLead n = true := by decide
  have hwr : ∀ v, SameLead s (s.wr LOG_STAT_SRC_LOST v n) := fun v => .wr s v (hfree n hn)
  exact .ite (.ite (hwr 1) (.refl s)) (hwr 0)

/-- What training does once it has set LEAD leaves the lead as it is. -/
theorem sameLead_leadSync (s : State) : SameLead (s.wr BRD_STAT_LEAD (if leadRole s then 1 else 0)) (leadSync s) := by
  unfold leadSync
  exact .ite (.forEach (fun _ _ hn => .ite (sameLead_leadLost _ hn) (.refl _)) _) (.refl _)

theorem sameLead_ringTrain (s : State) : SameLead (leadSync s) (ringTrain s) := by
  unfold ringTrain
  have hclear : ∀ f ∈ [BRD_STAT_FOLDED, BRD_STAT_FOLD_PORT, BRD_STAT_ID_CONFLICT, BRD_STAT_OVERFLOW, BRD_STAT_LEAD_CONFLICT,
      BRD_STAT_P_EXCEED], f.sparesLead 0 = true := by decide
  have hring : ∀ (s : State) r, SameLead s { s with ring := r } := fun _ _ => .of_regs rfl
  exact ((((sameLead_ringState (leadSync s) 1).trans (.forEach (fun t _ hp => sameLead_portState t hp 1) _)).trans
    (.forEach (fun t f hf => .wr t 0 (hclear f hf)) _)).trans (.wr _ _ (by decide))).trans (hring _ _)

/-- Training makes a device that is on the ring the lead just where ROLE or the strap says so (R385). -/
theorem isLead_ringTrain {s : State} (hloaded : s.loaded 12 = true) (hen : s.flag BRD_CTRL_EN = true) :
    isLead (ringTrain s) = leadRole s := by
  rw [((sameLead_leadSync s).trans (sameLead_ringTrain s)).isLead]
  generalize leadRole s = lead
  have hloaded' : (s.wr BRD_STAT_LEAD (if lead then 1 else 0)).loaded 12 = true := by
    simpa only [State.loaded, State.rd_wr_ne s BRD_STAT_LEAD _ 0 0 GLB_PANEL_STAT_LOADED 0 0 (by decide)] using hloaded
  have hen' : (s.wr BRD_STAT_LEAD (if lead then 1 else 0)).flag BRD_CTRL_EN = true := by
    simpa only [State.flag, State.rd_wr_ne s BRD_STAT_LEAD _ 0 0 BRD_CTRL_EN 0 0 (by decide)] using hen
  have hset : (s.wr BRD_STAT_LEAD (if lead then 1 else 0)).flag BRD_STAT_LEAD = lead := by
    simp only [State.flag, State.rd_wr_same s BRD_STAT_LEAD _ 0 0 (by decide)]
    cases lead <;> rfl
  simp only [isLead, ringOn, hloaded', hen', hset, Bool.true_and]

end Sys2Proof.Machine

namespace Sys2Proof.Safety

open Sys2Proof.Machine

/-- The end of a command makes no device the lead and none a follower. -/
theorem isLead_finish (s : State) : isLead (finish s) = isLead s := by
  have hrest : ∀ g ∈ leadFields, settleMask (g.off 0 0) = 0 := by decide
  have hsame : SameLead s (finish s) := ⟨fun g hg => State.rd_congr (get_finish s _ (hrest g hg))⟩
  exact hsame.isLead

end Sys2Proof.Safety
end

section
/-! SUPPORT. What a write of EN in `BRD_CTRL` comes to (R384, R388). -/

namespace Sys2Proof.Machine

/-- The row of `BRD_CTRL`. -/
def brdCtrlRow : RegDesc := ⟨0xe00004, 0, 1, 0, 1, 0, 0x80000000, 0, 0, 0, 0x40000000, 12⟩

theorem regRow_brdCtrl : regRow 0xE00004 = some brdCtrlRow := by decide

/-- No stamp acts on `BRD_CTRL`, which holds no tagged parameter (R366). -/
theorem stampActs_brdCtrl (s : State) (i ch : Nat) : stampActs s brdCtrlRow.base i ch = false := rfl

/-- `BRD_CTRL` holds no locked field (R52). -/
theorem lockRefuses_brdCtrl (s : State) (off : Nat) (v : Word) : lockRefuses s brdCtrlRow off v = false := by
  simp [lockRefuses, brdCtrlRow]

theorem writeReg_brdCtrl (s : State) (v : Word) : writeReg s brdCtrlRow 0xE00004 v false none = brdCtrl s v.toNat := rfl

/-- The word that sets EN has it set. -/
theorem bit_fieldWord_brdEn (s : State) : bit (fieldWord s BRD_CTRL_EN 1 0 0).toNat 31 = true := by
  unfold fieldWord
  dsimp only
  rw [bit_testBit, BitVec.toNat_ofNat, Nat.testBit_mod_two_pow, setBits_testBit]
  rfl

/-- Setting EN where it was 0 starts training. -/
theorem brdCtrl_of_enable {s : State} {v : Nat} (hen : s.flag BRD_CTRL_EN = false) (hv : bit v 31 = true) :
    brdCtrl s v = ringTrain (s.wr BRD_CTRL_EN 1) := by
  have hfield : bitsOf v 31 1 = 1 := by simpa [bit, bitsOf] using hv
  simp [brdCtrl, hen, hv, hfield]

@[simp] theorem stampIgnored_ring (s : State) : (stampIgnored s).ring = s.ring := by
  unfold stampIgnored; split <;> rfl

end Sys2Proof.Machine

namespace Sys2Proof.Safety

open Sys2Proof.Machine

/-- A write that reaches `BRD_CTRL` acts by `brdCtrl`. -/
theorem hostWrite_brdCtrl {s : State} (h : Reaches s (BRD_CTRL.off 0 0)) (v : Word) :
    hostWrite s 0xE00004 v = brdCtrl (stampIgnored s) v.toNat := by
  have hresponds : responds s 0xE00004 = true := h.left
  have hreach : (!responds s 0xE00004 || (s.pwr.d2dDown && onFieldDie 0xE00004)) = false := by simp [hresponds, onFieldDie]
  have hacts : ((stampNow s).any fun t => stampActs s brdCtrlRow.base (regIndex brdCtrlRow 0xE00004).1 t.1) = false := by
    simp [stampActs_brdCtrl]
  rw [← writeReg_brdCtrl]
  show writeAt s 0xE00004 v (stampNow s) = _
  simp only [writeAt, hreach, regRow_brdCtrl, hacts, lockRefuses_brdCtrl]
  rfl

/-- RING_ENABLE of a device whose EN is 0 starts training. -/
theorem exec_ringEnable {s : State} (h : Reaches s (BRD_CTRL.off 0 0)) (hen : s.flag BRD_CTRL_EN = false) :
    exec .ringEnable s = done (ringTrain ((stampIgnored s).wr BRD_CTRL_EN 1)) := by
  have hen' : (stampIgnored s).flag BRD_CTRL_EN = false := (stampIgnored_flag s (by decide)).trans hen
  have htrain : hostWrite s 0xE00004 (fieldWord s BRD_CTRL_EN 1 0 0) = ringTrain ((stampIgnored s).wr BRD_CTRL_EN 1) := by
    rw [hostWrite_brdCtrl h, brdCtrl_of_enable hen' (bit_fieldWord_brdEn s)]
  exact congrArg done htrain

end Sys2Proof.Safety
end

section
/-! PROOF. ROLE or the strap makes a device the lead (R385). -/

namespace Sys2Proof.Safety

open Sys2Proof.Machine

theorem exec_porst (up strap : Bool) (s : State) : exec (.porst up strap) s = done (porst s up strap) := rfl

/-- Training from RING_ENABLE makes the device the lead just where its ROLE or its strap says so. -/
theorem isLead_ringTrain_of_enable {s : State} (hloaded : s.loaded 12 = true) :
    isLead (ringTrain ((stampIgnored s).wr BRD_CTRL_EN 1)) = leadRole s := by
  have hloaded' : ((stampIgnored s).wr BRD_CTRL_EN 1).loaded 12 = true := by
    have hfield : ((stampIgnored s).wr BRD_CTRL_EN 1).rd GLB_PANEL_STAT_LOADED = s.rd GLB_PANEL_STAT_LOADED :=
      (State.rd_wr_ne _ BRD_CTRL_EN 1 0 0 GLB_PANEL_STAT_LOADED 0 0 (by decide)).trans (stampIgnored_rd s (by decide))
    simpa only [State.loaded, hfield] using hloaded
  have hen' : ((stampIgnored s).wr BRD_CTRL_EN 1).flag BRD_CTRL_EN = true := by
    simp only [State.flag, State.rd_wr_same (stampIgnored s) BRD_CTRL_EN 1 0 0 (by decide)]
    decide
  have hrole : ((stampIgnored s).wr BRD_CTRL_EN 1).rd BRD_CFG_ROLE = s.rd BRD_CFG_ROLE :=
    (State.rd_wr_ne _ BRD_CTRL_EN 1 0 0 BRD_CFG_ROLE 0 0 (by decide)).trans (stampIgnored_rd s (by decide))
  rw [isLead_ringTrain hloaded' hen']
  exact leadRole_congr hrole ((State.wr_ring _ BRD_CTRL_EN 1 0 0).trans (stampIgnored_ring s))

/-- Settles O53: nothing in the boot of PORST touches the strap, and training takes LEAD from ROLE and the strap and then leaves it. -/
theorem leadIsTakenFromRoleOrStrap : Obligations.LeadIsTakenFromRoleOrStrap := by
  refine ⟨fun up strap s => ?_, fun s hreach hen hloaded => ?_⟩
  · rw [exec_porst, answers_done, finish_ring]
    exact porst_strapLead s up strap
  · rw [exec_ringEnable hreach hen, answers_done, isLead_finish, isLead_ringTrain_of_enable hloaded]
    exact ⟨leadRole_of_lead, leadRole_of_strap, leadRole_of_follower⟩

end Sys2Proof.Safety
end

section
/-! SUPPORT. What spares a factory run: it does not show DECLARED (R400) and changes nothing of the run and of the records but trims. -/

namespace Sys2Proof.Machine

/-- `t` spares the factory run of `s`: it shows DECLARED only where `s` does (R400), and of the run and the records it holds all that `s`
does, except for trims that have come into force (R408). -/
structure SparesRun (s t : State) : Prop where
  err : s.rd CAL_STAT_ERR ≠ 10 → t.rd CAL_STAT_ERR ≠ 10
  cal : ∃ trims wait, t.cal = { s.cal with trims := trims, trimWait := wait }

theorem SparesRun.refl (s : State) : SparesRun s s := ⟨id, _, _, rfl⟩

theorem SparesRun.trans {s t u : State} (h : SparesRun s t) (k : SparesRun t u) : SparesRun s u := by
  obtain ⟨_, _, ht⟩ := h.cal
  obtain ⟨_, _, hu⟩ := k.cal
  exact ⟨k.err ∘ h.err, _, _, by rw [hu, ht]⟩

theorem SparesRun.of_eq {s t : State} (hregs : t.regs = s.regs) (hcal : t.cal = s.cal) : SparesRun s t := by
  have hget : t.get (CAL_STAT_ERR.off 0 0) = s.get (CAL_STAT_ERR.off 0 0) := by simp only [State.get, hregs]
  exact ⟨fun h => by rwa [State.rd_congr hget], _, _, hcal⟩

theorem SparesRun.set (s : State) {o : Nat} (w : Word) (h : CAL_STAT_ERR.off 0 0 ≠ o) : SparesRun s (s.set o w) :=
  ⟨fun he => by rwa [State.rd_set_ne s w _ _ _ h], _, _, rfl⟩

/-- Whether registers 0 to 63 of the row of field `f` stand below those of the factory run. -/
def Fld.belowRun (f : Fld) : Bool := decide (f.base + 64 * f.s1 ≤ 0xF00000)

theorem SparesRun.wr (s : State) {f : Fld} {i : Nat} (v : Nat) (hi : i < 64 := by decide) (h : f.belowRun = true := by decide) :
    SparesRun s (s.wr f v i) := by
  have hrow : f.base + 64 * f.s1 ≤ 0xF00000 := by simpa [Fld.belowRun] using h
  have hin : i * f.s1 ≤ 64 * f.s1 := Nat.mul_le_mul_right _ (Nat.le_of_lt hi)
  have hstat : CAL_STAT_ERR.off 0 0 = 0xF00004 := rfl
  exact .set s _ (by rw [hstat]; unfold Fld.off; omega)

/-- A register above those of the factory run. -/
theorem SparesRun.wr_above (s : State) {f : Fld} (v i j : Nat) (h : CAL_STAT_ERR.off 0 0 < f.base) : SparesRun s (s.wr f v i j) :=
  .set s _ (Fld.off_ne_of_lt_base i j h).symm

/-- A write of bits apart from those of ERR, wherever its register stands. -/
theorem SparesRun.wr_apart (s : State) {f : Fld} (v i j : Nat) (h : 16 ≤ f.lo ∨ f.lo + f.w ≤ 12) : SparesRun s (s.wr f v i j) :=
  ⟨fun he => by rwa [State.rd_wr_apart s f v i j CAL_STAT_ERR 0 0 (by decide) h], _, _, rfl⟩

/-- Four bits from bit 12 on, within a field that is set, are those of its new value. -/
theorem bitsOf_setBits_within {n lo w v : Nat} (hlo : lo ≤ 12) (hhi : 16 ≤ lo + w) :
    bitsOf (setBits n lo w v) 12 4 = bitsOf v (12 - lo) 4 := by
  apply Nat.eq_of_testBit_eq
  intro b
  rw [bitsOf_testBit, bitsOf_testBit, setBits_testBit]
  by_cases hb : b < 4
  · rw [if_neg (by omega), if_pos (by omega), show 12 + b - lo = 12 - lo + b by omega]
  · simp [hb]

/-- A write over the bits of ERR, wherever its register stands, whose value does not give them 10. -/
theorem SparesRun.wr_over (s : State) {f : Fld} (v i j : Nat) (hlo : f.lo ≤ 12) (hhi : 16 ≤ f.lo + f.w)
    (hv : bitsOf v (12 - f.lo) 4 ≠ 10) : SparesRun s (s.wr f v i j) := by
  by_cases hoff : CAL_STAT_ERR.off 0 0 = f.off i j
  · have herr : (s.wr f v i j).rd CAL_STAT_ERR = bitsOf v (12 - f.lo) 4 := by
      rw [State.rd, hoff, State.wr, State.get_set_same, BitVec.toNat_ofNat, bitsOf_mod_word _ _ _ (by decide)]
      exact bitsOf_setBits_within hlo hhi
    exact ⟨fun _ => by rwa [herr], _, _, rfl⟩
  · exact .set s _ hoff

theorem SparesRun.sat (s : State) {f : Fld} {i : Nat} (k : Nat) (hi : i < 64 := by decide) (h : f.belowRun = true := by decide) :
    SparesRun s (s.sat f k i) := .wr s _ hi h

theorem SparesRun.bump (s : State) {f : Fld} {i : Nat} (hi : i < 64 := by decide) (h : f.belowRun = true := by decide) :
    SparesRun s (s.bump f i) := .wr s _ hi h

theorem SparesRun.setBit (s : State) {f : Fld} {i : Nat} (b : Nat) (hi : i < 64 := by decide) (h : f.belowRun = true := by decide) :
    SparesRun s (s.setBit f b i) := .wr s _ hi h

theorem SparesRun.ite {s t u : State} {c : Prop} [Decidable c] (h : SparesRun s t) (k : SparesRun s u) :
    SparesRun s (if c then t else u) := by by_cases hc : c <;> simp [hc, h, k]

theorem SparesRun.option {s t : State} {f : Nat → State} {o : Option Nat} (hf : ∀ a, SparesRun s (f a)) (ht : SparesRun s t) :
    SparesRun s (match o with | some a => f a | none => t) := by
  cases o with
  | some a => exact hf a
  | none => exact ht

theorem SparesRun.clrBit (s : State) {f : Fld} {i : Nat} (b : Nat) (hi : i < 64 := by decide) (h : f.belowRun = true := by decide) :
    SparesRun s (s.clrBit f b i) := .ite (.wr s _ hi h) (.refl s)

theorem SparesRun.forEach {α : Type} {l : List α} {f : State → α → State} (h : ∀ s, ∀ a ∈ l, SparesRun s (f s a)) (s : State) :
    SparesRun s (forEach l s f) := by
  induction l generalizing s with
  | nil => exact .refl s
  | cons a l ih => exact (h s a (List.mem_cons_self ..)).trans (ih (fun s b hb => h s b (List.mem_cons_of_mem _ hb)) (f s a))

theorem SparesRun.setQ (s : State) (q : Nat) (x : QSt) : SparesRun s (s.setQ q x) := .of_eq rfl rfl

theorem SparesRun.cvSt (s : State) (cv : Nat) (x : CvSt) : SparesRun s (s.setCvSt cv x) := .of_eq rfl rfl

theorem SparesRun.suSt (s : State) (k : Nat) (x : SuSt) : SparesRun s (s.setSuSt k x) := .of_eq rfl rfl

theorem SparesRun.afe (s : State) (x : AfeSt) : SparesRun s { s with afe := x } := .of_eq rfl rfl

/-! ### Events and trims -/

theorem sparesRun_raise (s : State) {n : Nat} (hn : n < 512 := by decide) : SparesRun s (raise s n) := by
  unfold raise
  have hcnt : SparesRun s (s.bump EVT_CNT n) := by
    have hoff : CAL_STAT_ERR.off 0 0 ≠ EVT_CNT.off n 0 := by simp only [Fld.off, CAL_STAT_ERR, EVT_CNT]; omega
    exact .set s _ hoff
  have hlist : ∀ t : State, SparesRun t { t with raised := n :: t.raised } := fun _ => .of_eq rfl rfl
  have hask : ∀ t : State, SparesRun t (askVector t n) := fun t => by
    unfold askVector
    exact .ite (.of_eq rfl rfl) (.refl t)
  have hforward : ∀ t : State, SparesRun t (forwardEvent t n) := fun t => by
    unfold forwardEvent
    exact .ite (.of_eq rfl rfl) (.refl t)
  exact (((hcnt.trans (.setBit _ _ (by omega))).trans (hlist _)).trans (hask _)).trans (hforward _)

theorem sparesRun_raiseIf (s : State) (b : Bool) {n : Nat} (hn : n < 512 := by decide) : SparesRun s (raiseIf s b n) :=
  .ite (sparesRun_raise s hn) (.refl s)

theorem sparesRun_trimTake (s : State) (e : Nat) : SparesRun s (trimTake s e) := by
  unfold trimTake
  split
  · exact ⟨id, _, _, rfl⟩
  · exact .refl s

end Sys2Proof.Machine
end

section
/-! SUPPORT. A packet that a converter offers to its queue (R326 to R341) spares a factory run. -/

namespace Sys2Proof.Machine

section
variable {q : Nat} (hq : q < 64)
include hq

theorem sparesRun_qSync (s : State) : SparesRun s (qSync s q) := by
  unfold qSync
  exact (((((SparesRun.wr s _ hq).trans (.wr _ _ hq)).trans (.wr _ _ hq)).trans (.wr _ _ hq)).trans (.wr _ _ hq)).trans (.wr _ _ hq)

theorem sparesRun_qPut (s : State) (x : QSt) : SparesRun s (qPut s q x) := (SparesRun.setQ s q x).trans (sparesRun_qSync hq _)

omit hq in
theorem sparesRun_qLossToDma (s : State) (q : Nat) : SparesRun s (qLossToDma s q) := by
  unfold qLossToDma
  dsimp only
  refine .ite (.refl s) ?_
  split
  · exact .of_eq rfl rfl
  · exact .refl s

theorem sparesRun_qOverwrite (s : State) : SparesRun s (qOverwrite s q) :=
  ((sparesRun_qPut hq s _).trans (.sat _ _ hq)).trans (sparesRun_qLossToDma _ q)

theorem sparesRun_qMakeRoom (n : Nat) (s : State) : SparesRun s (qMakeRoom q n s) := by
  induction n generalizing s with
  | zero => exact .refl s
  | succ n ih =>
    have hover := sparesRun_qOverwrite hq s
    exact .ite (.refl s) (.ite (hover.trans (ih _)) (.ite ((hover.trans (.wr _ _ hq)).trans (ih _)) (.refl s)))

theorem sparesRun_qAbort (s : State) : SparesRun s (qAbort s q) :=
  .ite ((sparesRun_qPut hq s _).trans (.sat _ _ hq)) (.refl s)

theorem sparesRun_qCommit (s : State) : SparesRun s (qCommit s q) :=
  ((sparesRun_qPut hq s _).trans (.bump _ hq)).trans (sparesRun_raise _ (by omega))

theorem sparesRun_qOversize (s : State) : SparesRun s (qOversize s q) := (sparesRun_qPut hq s _).trans (.sat _ _ hq)

theorem sparesRun_qPlace (s : State) (w : QWord) : SparesRun s (qPlace s q w) := by
  unfold qPlace
  extract_lets room x placed
  have hroom : SparesRun s room := .ite (.refl s) (sparesRun_qMakeRoom hq _ s)
  have hplaced : SparesRun room placed := sparesRun_qPut hq room _
  refine hroom.trans (.ite (sparesRun_qOversize hq room) (.ite ((sparesRun_qOversize hq room).trans (.wr _ _ hq)) ?_))
  exact hplaced.trans (.ite (sparesRun_qCommit hq placed) (.refl placed))

theorem sparesRun_qAccept (s : State) (p : Nat) (w : QWord) : SparesRun s (qAccept s q p w) := by
  have horphan : SparesRun s (s.sat QUE_CNT_ERR_ORPHAN 1 q) := .sat s _ hq
  have hfirst : SparesRun s (qPlace (qPut (qAbort s q) q { (qAbort s q).q q with dropping := false }) q w) :=
    ((sparesRun_qAbort hq s).trans (sparesRun_qPut hq _ _)).trans (sparesRun_qPlace hq _ w)
  exact .ite horphan (.ite hfirst (.ite (sparesRun_qPlace hq s w) (.ite (.refl s) horphan)))

theorem sparesRun_qWrite (s : State) (p : Nat) (w : QWord) : SparesRun s (qWrite s q p w) :=
  .ite (.refl s) (.ite (.setQ s q _) (sparesRun_qAccept hq s p w))

theorem sparesRun_qPacket (s : State) (p : Nat) (ws : List Nat) : SparesRun s (qPacket s q p ws) :=
  List.foldlRecOn ws _ (motive := fun a : State × Nat => SparesRun s a.1) (.refl s) fun a ha _ _ => ha.trans (sparesRun_qWrite hq a.1 p _)

end

end Sys2Proof.Machine
end

section
/-! SUPPORT. What the converters do at a trigger (R312 to R323) spares a factory run. Only a pass whose entry holds an invalid setup gives a
result at once (R289), and its place follows from the entry's number. -/

namespace Sys2Proof.Machine

/-! ### The result of an invalid setup -/

theorem sparesRun_tsCount (s : State) (t n : Nat) : SparesRun s (tsCount s t n) := .afe s _

theorem sparesRun_tsSet (s : State) (t : Nat) (on : Bool) : SparesRun s (tsSet s t on) :=
  ((SparesRun.ite (.setBit s t) (.clrBit s t)).trans (.setBit _ t)).trans (sparesRun_raise _)

theorem sparesRun_tsResult (s : State) (t y flags : Nat) : SparesRun s (tsResult s t y flags) := by
  unfold tsResult
  extract_lets nan cfg safe c afe held shown on hit n
  have hshown : SparesRun s shown := (SparesRun.afe s _).trans (.ite (.setBit held t) (.ite (.refl held) (.clrBit held t)))
  have hcount : ∀ n, SparesRun shown (tsCount shown t n) := sparesRun_tsCount shown t
  have hset : SparesRun shown (tsSet (tsCount shown t 0) t (!on)) := (hcount 0).trans (sparesRun_tsSet _ t _)
  exact hshown.trans (.ite (hcount 0) (.ite (hcount 0) (.ite (hcount n) (.ite (hcount 0) hset))))

theorem sparesRun_tsAll (s : State) (k y flags : Nat) : SparesRun s (tsAll s k y flags) :=
  .forEach (fun s t _ => .ite (sparesRun_tsResult s t y flags) (.refl s)) s

/-- The value of an invalid setup (R289) is compared with no window (R320). -/
theorem winTest_of_cfg (s : State) (k y : Nat) {flags : Nat} (h : bit flags 0 = true) : winTest s k y flags = (s, false) := by
  simp [winTest, h]

/-- R289: the result of an invalid setup, with code 0. -/
theorem sparesRun_release_of_cfg {s : State} {cv : Nat} (hsetup : (s.cvSt cv).setup < 32) {r : Result} (hcode : r.code = 0)
    (hcfg : bit r.afe 0 = true) (hconv : bitsOf r.conv 4 4 ≠ 10) : SparesRun s (release s cv r false) := by
  unfold release
  extract_lets x k e
  rw [winTest_of_cfg s k r.y hcfg]
  dsimp -zeta only
  extract_lets r' coded shown queued raised told last stat seen judged
  have hk : k < 64 := Nat.lt_trans hsetup (by decide)
  have hr : r' = r := if_neg Bool.false_ne_true
  have hcoded : SparesRun s coded := .wr_over s _ cv e (by decide) (by decide) (by rw [hr, hcode]; decide)
  have hshown : SparesRun coded shown :=
    ((SparesRun.wr_apart coded _ cv e (by decide)).trans (.wr_over _ _ cv e (by decide) (by decide) (by rw [hr]; exact hconv))).trans
      (.wr_apart _ _ cv e (by decide))
  have hqueued : SparesRun shown queued := .ite (sparesRun_qPacket (State.rd_lt shown _ cv 0) shown _ _) (.refl shown)
  have htold : SparesRun queued told := (sparesRun_raiseIf queued _).trans (sparesRun_raiseIf raised _)
  have hstat : SparesRun told stat := ((SparesRun.ite (.refl told) (.wr told _ hk)).trans (.wr last _ hk)).trans (.wr _ _ hk)
  have hjudged : SparesRun stat judged := (SparesRun.suSt stat k _).trans (sparesRun_tsAll seen k _ _)
  have hkept : SparesRun judged (if false = true then autorange judged k r'.code (bit r'.conv 0) else
      judged.updSuSt k fun u => { u with narrow := 0 }) := by
    rw [if_neg Bool.false_ne_true]; exact .suSt judged k _
  exact (((hcoded.trans hshown).trans hqueued).trans htold).trans (.ite (.wr told _) ((hstat.trans hjudged).trans hkept))

/-! ### Conversions and passes -/

section
variable {cv : Nat} (hcv : cv < 2)
include hcv

theorem sparesRun_cvSync (s : State) : SparesRun s (cvSync s cv) := by
  unfold cvSync
  have hcv' : cv < 64 := by omega
  exact ((((((SparesRun.wr s _ hcv').trans (.wr _ _ hcv')).trans (.wr _ _ hcv')).trans (.wr _ _ hcv')).trans (.wr _ _ hcv')).trans
    (.wr _ _ hcv')).trans (.wr _ _ hcv')

theorem sparesRun_cvUpd (s : State) (g : CvSt → CvSt) : SparesRun s (cvUpd s cv g) :=
  (SparesRun.cvSt s cv _).trans (sparesRun_cvSync hcv _)

theorem sparesRun_cvLost (s : State) : SparesRun s (cvLost s cv) := (SparesRun.sat s _ (by omega)).trans (sparesRun_raise _)

theorem sparesRun_selectInputs (s : State) : SparesRun s (selectInputs s cv) :=
  .ite (.ite (.refl s) ((SparesRun.sat s 1).trans (sparesRun_cvUpd hcv _ _)))
    (.ite (sparesRun_cvUpd hcv s _) ((sparesRun_trimTake s cv).trans (sparesRun_cvUpd hcv _ _)))

theorem sparesRun_serveWait (s : State) : SparesRun s (serveWait s cv) := .ite (sparesRun_selectInputs hcv s) (.refl s)

theorem sparesRun_abortConv (s : State) : SparesRun s (abortConv s cv) :=
  (SparesRun.ite (.sat s 1 (by omega)) (.refl s)).trans (sparesRun_cvUpd hcv _ _)

theorem sparesRun_startPass (s : State) (inj : Bool) : SparesRun s (startPass s cv inj) :=
  .ite ((SparesRun.bump s (by omega)).trans (sparesRun_cvUpd hcv _ _)) ((SparesRun.bump s (by omega)).trans (sparesRun_cvUpd hcv _ _))

theorem sparesRun_endPass (s : State) : SparesRun s (endPass s cv) := by
  unfold endPass
  extract_lets x ended
  have hended : SparesRun s ended := (sparesRun_cvUpd hcv s _).trans (sparesRun_raise _ (by omega))
  exact hended.trans (.ite (.refl ended) (.ite (sparesRun_startPass hcv ended false) (.refl ended)))

end

theorem sparesRun_joinPair (s : State) : SparesRun s (joinPair s) := by
  unfold joinPair
  extract_lets a free led joined chosen
  have hfree : SparesRun s free := .ite (sparesRun_abortConv (by decide) s) (.refl s)
  have hchosen : SparesRun free chosen :=
    ((sparesRun_cvUpd (by decide) free _).trans (sparesRun_cvUpd (by decide) led _)).trans (sparesRun_selectInputs (by decide) joined)
  have hbad : SparesRun chosen (raise (chosen.sat AFE_CNT_CFG) 190) := (SparesRun.sat chosen 1).trans (sparesRun_raise _)
  exact (hfree.trans hchosen).trans (.ite (hbad.trans (sparesRun_cvUpd (by decide) _ _)) (sparesRun_selectInputs (by decide) chosen))

theorem sparesRun_joinWaiting (s : State) : SparesRun s (joinWaiting s) := .ite (sparesRun_joinPair s) (.refl s)

theorem setBit_cv (s : State) (f : Fld) (b i : Nat) : (s.setBit f b i).cv = s.cv := State.wr_cv s f _ i 0

theorem sat_cv (s : State) (f : Fld) (k i j : Nat) : (s.sat f k i j).cv = s.cv := State.wr_cv s f _ i j

theorem bump_cv (s : State) (f : Fld) (i j : Nat) : (s.bump f i j).cv = s.cv := State.wr_cv s f _ i j

theorem raise_cv (s : State) (n : Nat) : (raise s n).cv = s.cv := by
  have hlist : ∀ (t : State) l, ({ t with raised := l } : State).cv = t.cv := fun _ _ => rfl
  have hask : ∀ t : State, (askVector t n).cv = t.cv := fun t => by unfold askVector; split <;> rfl
  have hforward : ∀ t : State, (forwardEvent t n).cv = t.cv := fun t => by unfold forwardEvent; split <;> rfl
  rw [raise, hforward, hask, hlist, setBit_cv, bump_cv]

theorem cvSync_cv (s : State) (cv : Nat) : (cvSync s cv).cv = s.cv := by
  unfold cvSync
  iterate 7 rw [State.wr_cv]

theorem State.cvSt_congr {s t : State} (h : t.cv = s.cv) (k : Nat) : t.cvSt k = s.cvSt k := by rw [State.cvSt, State.cvSt, h]

theorem cvUpd_cvSt (s : State) (cv : Nat) (g : CvSt → CvSt) : (cvUpd s cv g).cvSt cv = g (s.cvSt cv) :=
  (State.cvSt_congr (cvSync_cv _ cv) cv).trans (State.cvSt_setCvSt s cv _)

/-- What a round of a function by fuel keeps, all its rounds keep. The round `F` is given the rounds that follow it as `b.1`. -/
theorem brecOn_of_round {R : State → State → Prop} {F : (n : Nat) → Nat.below (motive := fun _ => State → State) n → State → State}
    (hzero : ∀ b s, R s (F 0 b s)) (hsucc : ∀ n b, (∀ s, R s (b.1 s)) → ∀ s, R s (F (n + 1) b s)) (n : Nat) (s : State) :
    R s (Nat.brecOn (motive := fun _ => State → State) n F s) := by
  induction n generalizing s with
  | zero => exact hzero _ s
  | succ n ih => exact hsucc n _ ih s

section
variable {cv : Nat} (hcv : cv < 2)
include hcv

theorem sparesRun_beginEntry (s : State) (inj : Bool) (e : Nat) (again : Bool) : SparesRun s (beginEntry s cv inj e again).1 := by
  unfold beginEntry
  extract_lets k begun bad
  have hk : k < 32 := by unfold k; split <;> exact State.rd_lt s _ cv e
  have hbegun : SparesRun s begun := sparesRun_cvUpd hcv s _
  have hbad : SparesRun begun bad := (SparesRun.sat begun 1).trans (sparesRun_raise _)
  have hsetup : (bad.cvSt cv).setup < 32 := by
    have hkept : bad.cvSt cv = begun.cvSt cv := State.cvSt_congr ((raise_cv _ 190).trans (sat_cv begun AFE_CNT_CFG 1 0 0)) cv
    rw [hkept, cvUpd_cvSt]
    exact hk
  have hcfg : bit (1 + owFlags bad k) 0 = true := by
    unfold owFlags; split <;> split <;> decide
  have hconv : bitsOf (if inj then 8 else 0) 4 4 ≠ 10 := by cases inj <;> decide
  have hgiven := hbad.trans (sparesRun_release_of_cfg hsetup (r := ⟨0, f32NaN, 1 + owFlags bad k, if inj then 8 else 0⟩) rfl hcfg hconv)
  split
  · exact hbegun.trans hgiven
  · split
    · exact (hbegun.trans (sparesRun_cvUpd (by decide) begun _)).trans (sparesRun_joinWaiting _)
    · exact hbegun.trans (sparesRun_selectInputs hcv begun)

theorem sparesRun_cvAdvance (n : Nat) (s : State) : SparesRun s (cvAdvance cv n s) := by
  delta cvAdvance
  refine brecOn_of_round (R := SparesRun) (fun _ s => .refl s) (fun n b ih s => ?_) n s
  have hupd : ∀ g, SparesRun s (cvUpd s cv g) := sparesRun_cvUpd hcv s
  have hgo : ∀ t, SparesRun s t → SparesRun s (b.1 t) := fun t ht => ht.trans (ih t)
  have hentry : ∀ g inj e again, SparesRun s (beginEntry (cvUpd s cv g) cv inj e again).1 := fun g inj e again =>
    (hupd g).trans (sparesRun_beginEntry hcv _ inj e again)
  have hpassed : ∀ (x : State × Bool) t bad, SparesRun s x.1 → x = (t, bad) → SparesRun s (if bad then b.1 t else t) :=
    fun x t bad hx he => by subst he; exact .ite (hgo t hx) hx
  have hpass : ∀ inj, SparesRun s (b.1 (startPass s cv inj)) := fun inj => hgo _ (sparesRun_startPass hcv s inj)
  refine .ite (.refl s) (.ite (hupd _) (.ite (hgo _ ((hupd _).trans (sparesRun_raise _ (by omega)))) (.ite
    (hgo _ (sparesRun_endPass hcv s)) (.ite (hupd _) (.ite ?injected (.ite (hpass true) (.ite (sparesRun_joinPair s)
      (.option (fun e => ?again) (.ite ?next (.ite (hpass false) (.refl s)))))))))))
  all_goals
    split
    exact hpassed _ _ _ (hentry _ _ _ _) ‹_›

theorem sparesRun_cvGo (s : State) : SparesRun s (cvGo s cv) :=
  (sparesRun_serveWait (by omega) s).trans (sparesRun_cvAdvance hcv 80 _)

/-! ### Triggers -/

theorem sparesRun_trigAct (s : State) (q : Nat) : SparesRun s (trigAct s cv q) := by
  have hlost := sparesRun_cvLost hcv s
  have hpend : ∀ g, SparesRun s (cvUpd s cv g) := sparesRun_cvUpd hcv s
  have hstart : ∀ t inj, SparesRun t (cvGo (startPass t cv inj) cv) := fun t inj =>
    (sparesRun_startPass hcv t inj).trans (sparesRun_cvGo hcv _)
  have habort : SparesRun s (if (s.cvSt cv).phase != 0 then abortConv s cv else s) := .ite (sparesRun_abortConv hcv s) (.refl s)
  exact .ite (.ite hlost (.ite (hpend _) (hstart s false))) (.ite hlost (.ite (hpend _) (habort.trans (hstart _ true))))

theorem sparesRun_trigger (s : State) (q : Nat) : SparesRun s (trigger s cv q) :=
  .ite (.refl s) (.ite (sparesRun_cvLost hcv s) (.ite (.refl s) (.ite (sparesRun_cvLost hcv s)
    (.ite (sparesRun_trigAct hcv s q) (sparesRun_cvUpd hcv s _)))))

end

theorem sparesRun_trigBySource (s : State) (src : Nat) (p : Nat → Bool) : SparesRun s (trigBySource s src p) := by
  have hcv : ∀ a ∈ [(0, 0), (0, 1), (1, 0), (1, 1)], a.1 < 2 := by decide
  exact .forEach (fun s a ha => .ite (sparesRun_trigger (hcv a ha) s a.2) (.refl s)) s

theorem sparesRun_cvQuiesce (s : State) : SparesRun s (cvQuiesce s) := by
  have hcv : ∀ cv ∈ [0, 1], cv < 2 := by decide
  exact .forEach (fun s cv ha => (SparesRun.forEach (fun t _ _ => sparesRun_cvLost (hcv cv ha) t) s).trans (sparesRun_cvUpd (hcv cv ha) _ _)) s

end Sys2Proof.Machine
end

section
/-! SUPPORT. What a factory run does to the axes (R402), and what the passing of time does, spares the run. -/

namespace Sys2Proof.Machine

theorem SparesRun.ax (s : State) (a : Nat) (x : AxSt) : SparesRun s (s.setAx a x) := .of_eq rfl rfl

theorem SparesRun.paceSt (s : State) (a : Nat) (x : PaceSt) : SparesRun s (s.setPaceSt a x) := .of_eq rfl rfl

theorem SparesRun.coilSt (s : State) (n : Nat) (x : CoilSt) : SparesRun s (s.setCoilSt n x) := .of_eq rfl rfl

/-! ### Axes -/

theorem sparesRun_choppersIdle (s : State) (a : Nat) : SparesRun s (choppersIdle s a) := (SparesRun.coilSt s _ _).trans (.coilSt _ _ _)

theorem sparesRun_blankOn (s : State) (a coil : Nat) : SparesRun s (blankOn s a coil) := by
  unfold blankOn
  extract_lets taken t on
  have hon : SparesRun s on := (sparesRun_trimTake s _).trans (.coilSt taken _ _)
  exact hon.trans (.ite (sparesRun_trigBySource on 5 _) (.refl on))

theorem sparesRun_wakeCoils (s : State) (a : Nat) : SparesRun s (wakeCoils s a) :=
  .ite (.refl s) (.forEach (fun t coil _ => .ite (sparesRun_blankOn t a coil) (.refl t)) s)

section
variable {a : Nat} (ha : a < 4)
include ha

theorem sparesRun_setPace (s : State) (st : Nat) : SparesRun s (setPace s a st) :=
  (SparesRun.ite (.paceSt s a _) (.refl s)).trans (.wr _ st (by omega))

theorem sparesRun_paceLeave (s : State) (st : Nat) (ends abort : Bool) : SparesRun s (paceLeave s a st ends abort) := by
  unfold paceLeave
  extract_lets left
  have hseam : SparesRun s (setSeam s a (!ends)) := (SparesRun.paceSt s a _).trans (.wr _ _ (by omega))
  have hleft : SparesRun s left := (hseam.trans (.paceSt _ a _)).trans (sparesRun_setPace ha _ st)
  exact .ite (.refl s) (hleft.trans (.ite (.wr left 1 (by omega)) (.refl left)))

theorem sparesRun_paceAbandon (s : State) : SparesRun s (paceAbandon s a) :=
  .ite (sparesRun_setPace ha s 0) (sparesRun_paceLeave ha s 0 false _)

theorem sparesRun_setMode (s : State) (m : Nat) : SparesRun s (setMode s a m) := by
  unfold setMode
  extract_lets set
  have hset : SparesRun s set := (SparesRun.wr s m (by omega)).trans (.ax _ a _)
  exact hset.trans (.ite (.refl set) (sparesRun_paceAbandon ha set))

theorem sparesRun_calStopAxis (s : State) : SparesRun s (calStopAxis s a) := by
  unfold calStopAxis
  extract_lets stopped
  have hstopped : SparesRun s stopped := (SparesRun.ax s a _).trans (sparesRun_setMode ha _ 0)
  exact hstopped.trans (.ite ((sparesRun_choppersIdle stopped a).trans (.wr _ 0 (by omega))) (.refl stopped))

end

/-! ### Time -/

theorem sparesRun_logbook (s : State) (i n : Nat) : SparesRun s (logbook s i n) :=
  (SparesRun.wr_above s _ i 0 (by decide)).trans (.wr_above _ _ i 0 (by decide))

theorem SparesRun.sinkSt (s : State) (k : Nat) (x : SinkSt) : SparesRun s (s.setSinkSt k x) := .of_eq rfl rfl

theorem sparesRun_sinkRun (s : State) (d k : Nat) : SparesRun s (sinkRun s d k) := by
  unfold sinkRun
  extract_lets x now on awl x'
  split
  · exact .sinkSt s k x'
  · exact (((SparesRun.sinkSt s k _).trans (.sinkSt _ k _)).trans (sparesRun_logbook _ _ _)).trans (sparesRun_logbook _ _ _)

theorem sparesRun_laneSend (s : State) (l : Nat) : SparesRun s (laneSend s l) := by
  unfold laneSend
  extract_lets x n r sent
  have hsent : SparesRun s sent := .of_eq rfl rfl
  exact .ite (.refl s) (hsent.trans (.ite (.refl sent) (.of_eq rfl rfl)))

theorem sparesRun_pass (s : State) (d : Nat) : SparesRun s (s.pass d) := by
  unfold State.pass
  extract_lets c rest ran x secs counted
  have hran : SparesRun s ran := .forEach (fun t k _ => sparesRun_sinkRun t c k) s
  have hcounted : SparesRun ran counted :=
    .ite (.refl ran) ((SparesRun.wr_above ran _ 90 0 (by decide)).trans (.wr_above _ _ 90 0 (by decide)))
  have hclocks : ∀ t : State, ∀ e h w r ch n, SparesRun t { t with elapsed := e, hold := h, slew := w, rtc := r, chrono := ch, tickRest := n } :=
    fun _ _ _ _ _ _ _ => .of_eq rfl rfl
  exact ((hran.trans hcounted).trans (hclocks counted _ _ _ _ _ _)).trans (.forEach (fun t l _ => sparesRun_laneSend t l) _)

theorem sparesRun_stepTime (s : State) (m : CalMeasure) : SparesRun s (stepTime s m) := by
  cases m with
  | timing ps groups => exact sparesRun_pass s _
  | _ => exact .refl s

/-! ### The registers that the run itself shows -/

theorem sparesRun_sweepSync (s : State) : SparesRun s (sweepSync s) := .wr s _

theorem sparesRun_incident (s : State) (code data : Nat) : SparesRun s (incident s code data) := by
  unfold incident
  have hwindow : ∀ (t : State) e i w, SparesRun t (t.set (0xF88000 + 16 * e + i) w) := fun t e i w =>
    .set t w (by have : CAL_STAT_ERR.off 0 0 = 0xF00004 := rfl; omega)
  extract_lets e ws entered
  have hentered : SparesRun s entered := .forEach (fun t i _ => hwindow t e (4 * i) _) s
  exact (hentered.trans (hwindow entered e 12 _)).trans (.wr_above _ _ 0 0 (by decide))

end Sys2Proof.Machine
end

section
/-! SUPPORT. START with declared references that are taken (R400) does not show DECLARED: neither the run that begins nor its end at once
(R401) gives ERR that value. -/

namespace Sys2Proof.Machine

theorem rd_err_cal (s : State) (c : CalSt) : ({ s with cal := c } : State).rd CAL_STAT_ERR = s.rd CAL_STAT_ERR := rfl

/-- A state that shows the same code as one that does not show DECLARED does not show it either. -/
theorem err_ne_of_rd_eq {s t : State} (h : t.rd CAL_STAT_ERR = s.rd CAL_STAT_ERR) (hs : s.rd CAL_STAT_ERR ≠ 10) : t.rd CAL_STAT_ERR ≠ 10 :=
  h.symm ▸ hs

theorem rd_err_beginWrite (s : State) (kind : Nat) (r : Rec) : (beginWrite s kind r).rd CAL_STAT_ERR = s.rd CAL_STAT_ERR := by
  unfold beginWrite saveSync
  rw [State.rd_wr_ne _ LGB_STAT_SAVE_BUSY _ 0 0 CAL_STAT_ERR 0 0 (by decide), rd_err_cal]
  rfl

theorem rd_err_saveAfter (s : State) : (saveAfter s).rd CAL_STAT_ERR = s.rd CAL_STAT_ERR := by
  unfold saveAfter saveAsk
  split
  · split
    · rw [rd_err_beginWrite, rd_err_cal]
    · rfl
  · rfl

theorem rd_err_saveNext (s : State) : (saveNext s).rd CAL_STAT_ERR = s.rd CAL_STAT_ERR := by
  unfold saveNext
  split
  · rw [rd_err_beginWrite, rd_err_cal]
  · rfl

/-- A run that ends with another code than DECLARED does not show DECLARED. -/
theorem calEnd_err_ne (s : State) {code : Nat} (h : code % 16 ≠ 10) : (calEnd s code).rd CAL_STAT_ERR ≠ 10 := by
  unfold calEnd
  extract_lets wr2 held c dropped failed noted shown driven
  have hfailed : failed.rd CAL_STAT_ERR ≠ 10 := by
    have hcode : failed.rd CAL_STAT_ERR = code % 16 := State.rd_wr_same (dropped.wr CAL_STAT_STATE 4) CAL_STAT_ERR code 0 0 (by decide)
    rwa [hcode]
  have hnoted : SparesRun failed noted := (sparesRun_incident failed 3 _).trans (sparesRun_raise _)
  have hshown : SparesRun noted shown := (SparesRun.wr_above noted _ 0 0 (by decide)).trans (sparesRun_sweepSync _)
  have hdriven : SparesRun shown driven := .ite (.forEach (fun t a _ => sparesRun_wakeCoils t a) shown) (.refl shown)
  have hsaved : (if wr2 then saveNext driven else driven).rd CAL_STAT_ERR = driven.rd CAL_STAT_ERR := by
    split
    · exact rd_err_saveNext driven
    · rfl
  rw [rd_err_saveAfter, hsaved]
  exact ((hnoted.trans hshown).trans hdriven).err hfailed

/-- The state that has taken the run's descriptor into its trials (R410). -/
def runDescribed (s : State) : State := { s with cal := { s.cal with trial := kvPut s.cal.trial 0 (runDescriptor s) } }

/-- The state that shows COMMIT and the figures of record `r` (R406). -/
def commitShown (s : State) (r : Rec) : State :=
  (sweepSync (forEach (List.range 8) ((s.wr CAL_STAT_STATE 2).wr CAL_STAT_STEP 7) fun s k => s.wr CAL_QF_VALUE (kvGet (fun _ => 0) r.nums k) k)).wr
    CAL_STAT_QFAIL (kvGet (fun _ => 0) r.nums 16)

/-- The state in which COMMIT is the step last started (R409). -/
def commitStarted (s : State) : State := { s with cal := { s.cal with started := some 7 } }

/-- The state in which the COMMIT of a run has begun and its write has not. -/
def commitBegun (s : State) : State := commitStarted (commitShown (runDescribed s) (calRec (runDescribed s)))

/-- After the last step of a run its COMMIT begins, with the write of the record where no other runs (R402, R406, R411). -/
theorem calNext_of_last {s : State} (h : s.cal.left = []) : calNext s =
    if (commitBegun s).cal.writing = 0 then beginWrite (commitBegun s) 2 (calRec (runDescribed s)) else commitBegun s := by
  unfold calNext
  split
  · rfl
  · rename_i hleft
    rw [h] at hleft
    cases hleft

theorem sparesRun_commitShown (s : State) (r : Rec) : SparesRun s (commitShown s r) :=
  ((((SparesRun.wr_apart s 2 0 0 (by decide)).trans (.wr_apart _ 7 0 0 (by decide))).trans
    (.forEach (fun t k _ => .wr_above t _ k 0 (by decide)) _)).trans (sparesRun_sweepSync _)).trans (.wr_apart _ _ 0 0 (by decide))

theorem rd_err_commitBegun (s : State) (h : s.rd CAL_STAT_ERR ≠ 10) : (commitBegun s).rd CAL_STAT_ERR ≠ 10 :=
  err_ne_of_rd_eq (rd_err_cal (commitShown (runDescribed s) _) _) ((sparesRun_commitShown _ _).err (err_ne_of_rd_eq (rd_err_cal s _) h))

/-- The next step of a run, or its COMMIT, does not show DECLARED. -/
theorem calNext_err_ne {s : State} (h : s.rd CAL_STAT_ERR ≠ 10) : (calNext s).rd CAL_STAT_ERR ≠ 10 := by
  cases hleft : s.cal.left with
  | nil =>
    rw [calNext_of_last hleft]
    split
    · exact err_ne_of_rd_eq (rd_err_beginWrite _ 2 _) (rd_err_commitBegun s h)
    · exact rd_err_commitBegun s h
  | cons k rest =>
    rw [calNext, hleft]
    dsimp -zeta only
    extract_lets entered _ begun held
    have hentered : SparesRun s entered :=
      ((SparesRun.wr_apart s 1 0 0 (by decide)).trans (.wr_apart _ k 0 0 (by decide))).trans (sparesRun_sweepSync _)
    have hbegun : begun.rd CAL_STAT_ERR ≠ 10 := err_ne_of_rd_eq (rd_err_cal entered _) (hentered.err h)
    have hheld : SparesRun begun held := .ite (sparesRun_cvQuiesce begun)
      (.ite (.forEach (fun t a ha => sparesRun_calStopAxis (List.mem_range.mp ha) t) begun) (.refl begun))
    split
    · exact calEnd_err_ne held (by decide)
    · exact hheld.err hbegun

theorem declaredOk_iff (s : State) : declaredOk s = true ↔
    4900000 ≤ s.rd CAL_REF_V_UV ∧ s.rd CAL_REF_V_UV ≤ 5100000 ∧ 9800000 ≤ s.rd CAL_REF_R_MOHM ∧ s.rd CAL_REF_R_MOHM ≤ 10200000 ∧
      98000 ≤ s.rd CAL_REF_T_PS ∧ s.rd CAL_REF_T_PS ≤ 102000 ∧ s.rd CAL_REF_PIN_VPIN ≠ s.rd CAL_REF_PIN_RPIN := by
  simp only [declaredOk, near2, Bool.and_eq_true, decide_eq_true_eq, bne_iff_ne]
  omega

/-- R400: START with references that are not taken shows DECLARED and does nothing else. -/
theorem calStart_of_undeclared {s : State} (hidle : calRunning s = false) (hbad : declaredOk s = false) :
    calStart s = s.wr CAL_STAT_ERR 10 := by
  rw [calStart, if_neg (by simp [hidle]), if_pos (by simp [hbad])]

/-- START with references that are taken does not show DECLARED, whether it is refused with NO_BASE or begins a run. -/
theorem calStart_err_ne {s : State} (hidle : calRunning s = false) (hok : declaredOk s = true) : (calStart s).rd CAL_STAT_ERR ≠ 10 := by
  have hcode : ∀ e < 10, (s.wr CAL_STAT_ERR e).rd CAL_STAT_ERR ≠ 10 := fun e he => by
    have hfield := State.rd_wr_same s CAL_STAT_ERR e 0 0 (by decide)
    have hw : CAL_STAT_ERR.w = 4 := rfl
    rw [hfield, hw]
    omega
  rw [calStart, if_neg (by simp [hidle]), if_neg (by simp [hok])]
  split
  · exact hcode 6 (by decide)
  · exact calNext_err_ne (err_ne_of_rd_eq (rd_err_cal _ _) ((sparesRun_incident _ 1 _).err (hcode 0 (by decide))))

end Sys2Proof.Machine
end

section
/-! SUPPORT. What a write of START in `CAL_CTRL` comes to (R400, R402). -/

namespace Sys2Proof.Machine

/-- The row of `CAL_CTRL`. -/
def calCtrlRow : RegDesc := ⟨0xf00000, 0, 1, 0, 1, 0x3f, 0x3f, 0, 0, 0, 0xc0000000, 13⟩

theorem regRow_calCtrl : regRow 0xF00000 = some calCtrlRow := by decide

/-- No stamp acts on `CAL_CTRL`, which holds no tagged parameter (R366). -/
theorem stampActs_calCtrl (s : State) (i ch : Nat) : stampActs s calCtrlRow.base i ch = false := rfl

/-- `CAL_CTRL` holds no locked field (R52). -/
theorem lockRefuses_calCtrl (s : State) (off : Nat) (v : Word) : lockRefuses s calCtrlRow off v = false := by
  simp [lockRefuses, calCtrlRow]

theorem writeReg_calCtrl (s : State) (v : Word) : writeReg s calCtrlRow 0xF00000 v false none = calCtrl s v.toNat := rfl

/-- The word that sets START is START with STEPS as it stands. -/
theorem fieldWord_calStart (s : State) : (fieldWord s CAL_CTRL_START 1 0 0).toNat = 2 ^ 31 + s.rd CAL_CTRL_STEPS := by
  have hrow : regRow (CAL_CTRL_START.off 0 0) = some calCtrlRow := regRow_calCtrl
  have hkeep : (s.get (CAL_CTRL_START.off 0 0) &&& BitVec.ofNat 32 (calCtrlRow.rw ||| calCtrlRow.rwl)).toNat = s.rd CAL_CTRL_STEPS := by
    rw [BitVec.toNat_and]
    exact (Nat.and_two_pow_sub_one_eq_mod _ 6).trans (by rw [State.rd, bitsOf]; simp [CAL_CTRL_STEPS]; rfl)
  have hlt : s.rd CAL_CTRL_STEPS < 64 := State.rd_lt s CAL_CTRL_STEPS 0 0
  simp only [fieldWord, hrow, hkeep]
  simp only [setBits, CAL_CTRL_START, BitVec.toNat_ofNat]
  omega

end Sys2Proof.Machine

namespace Sys2Proof.Safety

open Sys2Proof.Machine

/-- What START finds: the state in which the write of `CAL_CTRL` is taken, with STEPS written as it stood. -/
def startTaken (s : State) : State := (stampIgnored s).wr CAL_CTRL_STEPS (s.rd CAL_CTRL_STEPS)

/-- A write of `CAL_CTRL` that reaches it acts by `calCtrl`. -/
theorem hostWrite_calCtrl {s : State} (h : Reaches s (CAL_CTRL.off 0 0)) (v : Word) :
    hostWrite s 0xF00000 v = calCtrl (stampIgnored s) v.toNat := by
  have hresponds : responds s 0xF00000 = true := h.left
  have hreach : (!responds s 0xF00000 || (s.pwr.d2dDown && onFieldDie 0xF00000)) = false := by simp [hresponds, onFieldDie]
  have hacts : ((stampNow s).any fun t => stampActs s calCtrlRow.base (regIndex calCtrlRow 0xF00000).1 t.1) = false := by
    simp [stampActs_calCtrl]
  rw [← writeReg_calCtrl]
  show writeAt s 0xF00000 v (stampNow s) = _
  simp only [writeAt, hreach, regRow_calCtrl, hacts, lockRefuses_calCtrl]
  rfl

/-- A write of START with STEPS `n` and without ABORT. -/
theorem calCtrl_start (s : State) {n : Nat} (hn : n < 64) : calCtrl s (2 ^ 31 + n) = calStart (s.wr CAL_CTRL_STEPS n) := by
  have hsteps : (2 ^ 31 + n) % 64 = n := by omega
  have hstart : bit (2 ^ 31 + n) 31 = true := by simp only [bit, beq_iff_eq]; omega
  have habort : bit (2 ^ 31 + n) 30 = false := by simp only [bit, beq_eq_false_iff_ne]; omega
  rw [calCtrl, hsteps, if_pos hstart, habort, Bool.false_and, if_neg Bool.false_ne_true]

theorem exec_calStart {s : State} (h : Reaches s (CAL_CTRL.off 0 0)) : exec .calStart s = done (calStart (startTaken s)) := by
  have hwrite : hostField s CAL_CTRL_START 1 = calStart (startTaken s) := by
    show hostWrite s 0xF00000 (fieldWord s CAL_CTRL_START 1 0 0) = _
    rw [hostWrite_calCtrl h, fieldWord_calStart, calCtrl_start _ (State.rd_lt s CAL_CTRL_STEPS 0 0)]
    rfl
  exact congrArg done hwrite

/-! ### What START finds as it stood -/

theorem startTaken_get (s : State) {o : Nat} (hctrl : o ≠ CAL_CTRL.off 0 0) (horder : o ≠ GLB_ORDER_CNT.off 0 0) :
    (startTaken s).get o = s.get o :=
  (State.get_wr_ne _ CAL_CTRL_STEPS _ 0 0 hctrl).trans (stampIgnored_get s horder)

theorem startTaken_rd (s : State) {f : Fld} (hctrl : f.off 0 0 ≠ CAL_CTRL.off 0 0) (horder : f.off 0 0 ≠ GLB_ORDER_CNT.off 0 0) :
    (startTaken s).rd f = s.rd f := State.rd_congr (startTaken_get s hctrl horder)

theorem calRunning_startTaken (s : State) : calRunning (startTaken s) = calRunning s := by
  simp only [calRunning, startTaken_rd s (f := CAL_STAT_STATE) (by decide) (by decide)]

theorem declaredOk_startTaken (s : State) : declaredOk (startTaken s) = declaredOk s := by
  simp only [declaredOk, startTaken_rd s (f := CAL_REF_V_UV) (by decide) (by decide), startTaken_rd s (f := CAL_REF_R_MOHM) (by decide) (by decide),
    startTaken_rd s (f := CAL_REF_T_PS) (by decide) (by decide), startTaken_rd s (f := CAL_REF_PIN_VPIN) (by decide) (by decide),
    startTaken_rd s (f := CAL_REF_PIN_RPIN) (by decide) (by decide)]

theorem startTaken_cal (s : State) : (startTaken s).cal = s.cal := (State.wr_cal _ CAL_CTRL_STEPS _ 0 0).trans (stampIgnored_cal s)

theorem stampIgnored_dram (s : State) : (stampIgnored s).dram = s.dram := by unfold stampIgnored; split <;> rfl

theorem startTaken_dram (s : State) : (startTaken s).dram = s.dram := (State.wr_dram _ CAL_CTRL_STEPS _ 0 0).trans (stampIgnored_dram s)

theorem startTaken_steps (s : State) : (startTaken s).rd CAL_CTRL_STEPS = s.rd CAL_CTRL_STEPS :=
  (State.rd_wr_same _ CAL_CTRL_STEPS _ 0 0 (by decide)).trans (Nat.mod_eq_of_lt (State.rd_lt s CAL_CTRL_STEPS 0 0))

end Sys2Proof.Safety
end

section
/-! PROOF. START tests the declared references (R400). -/

namespace Sys2Proof.Safety

open Sys2Proof.Machine

/-- START with references that are not taken is refused with DECLARED. -/
theorem exec_calStart_of_undeclared {s : State} (h : Reaches s (CAL_CTRL.off 0 0)) (hidle : calRunning s = false) (hbad : declaredOk s = false) :
    exec .calStart s = done ((startTaken s).wr CAL_STAT_ERR 10) := by
  rw [exec_calStart h, calStart_of_undeclared ((calRunning_startTaken s).trans hidle) ((declaredOk_startTaken s).trans hbad)]

/-- DECLARED leaves the other fields of `CAL_STAT` as they are. -/
theorem rd_calStat_of_undeclared (s : State) (f : Fld) (hoff : f.off 0 0 = CAL_STAT.off 0 0) (hw : f.lo + f.w ≤ 32)
    (hapart : f.lo + f.w ≤ CAL_STAT_ERR.lo ∨ CAL_STAT_ERR.lo + CAL_STAT_ERR.w ≤ f.lo) :
    (finish ((startTaken s).wr CAL_STAT_ERR 10)).rd f = s.rd f := by
  have hrest : settleMask (f.off 0 0) = 0 := by rw [hoff]; decide
  rw [State.rd_congr (get_finish _ _ hrest), State.rd_wr_apart _ CAL_STAT_ERR 10 0 0 f 0 0 hw hapart]
  exact startTaken_rd s (by rw [hoff]; decide) (by rw [hoff]; decide)

/-- Settles O49: START comes to `calStart`, which tests the references before all but a run in progress; refused, it writes ERR alone, and no
other path of it gives ERR the value of DECLARED. -/
theorem declaredReferencesLieNearTheirNominalValues : Obligations.DeclaredReferencesLieNearTheirNominalValues := by
  refine ⟨fun s hreach hidle hbad => ?_, fun s hreach hidle hvlo hvhi hrlo hrhi htlo hthi hpin => ?_⟩
  · have hundeclared : declaredOk s = false := Bool.eq_false_iff.mpr fun hok => hbad ((declaredOk_iff s).mp hok)
    rw [exec_calStart_of_undeclared hreach hidle hundeclared, answers_done]
    have hget : ∀ o, settleMask o = 0 → o ≠ CAL_STAT.off 0 0 → o ≠ CAL_CTRL.off 0 0 → o ≠ GLB_ORDER_CNT.off 0 0 →
        (finish ((startTaken s).wr CAL_STAT_ERR 10)).get o = s.get o := fun o hrest hstat hctrl horder =>
      ((get_finish _ o hrest).trans (State.get_wr_ne _ CAL_STAT_ERR 10 0 0 hstat)).trans (startTaken_get s hctrl horder)
    refine ⟨?_, ?_, ?_, ?_, ?_, ?_, ?_, hget⟩
    · exact (rd_finish _ CAL_STAT_ERR 0 0 (by decide)).trans (State.rd_wr_same _ CAL_STAT_ERR 10 0 0 (by decide))
    · exact rd_calStat_of_undeclared s CAL_STAT_STATE rfl (by decide) (by decide)
    · exact rd_calStat_of_undeclared s CAL_STAT_STEP rfl (by decide) (by decide)
    · exact rd_calStat_of_undeclared s CAL_STAT_QFAIL rfl (by decide) (by decide)
    · rw [rd_finish _ CAL_CTRL_STEPS 0 0 (by decide), State.rd_wr_ne _ CAL_STAT_ERR 10 0 0 CAL_CTRL_STEPS 0 0 (by decide), startTaken_steps]
    · rw [finish_cal, State.wr_cal, startTaken_cal]
    · rw [(finish_keeps _).dram, State.wr_dram, startTaken_dram]
  · have hdeclared : declaredOk s = true := (declaredOk_iff s).mpr ⟨hvlo, hvhi, hrlo, hrhi, htlo, hthi, hpin⟩
    rw [exec_calStart hreach, answers_done, rd_finish _ CAL_STAT_ERR 0 0 (by decide)]
    exact calStart_err_ne ((calRunning_startTaken s).trans hidle) ((declaredOk_startTaken s).trans hdeclared)

end Sys2Proof.Safety
end

section
/-! SUPPORT. Sorted lists of keys: which keys a list holds after a `kvPut`, and what a list made of a range reads as. -/

namespace Sys2Proof.Machine

/-- Whether a list of key and value pairs holds an entry for key `k`. -/
def kvHas {α : Type} (l : List (Nat × α)) (k : Nat) : Bool := l.any fun p => p.1 == k

theorem kvHas_kvPut {α : Type} (l : List (Nat × α)) (k : Nat) (v : α) (j : Nat) : kvHas (kvPut l k v) j = (k == j || kvHas l j) := by
  induction l with
  | nil => simp [kvPut, kvHas]
  | cons p l ih =>
    obtain ⟨a, w⟩ := p
    simp only [kvHas] at ih
    simp only [kvPut, kvHas]
    split
    · simp
    · split
      · rename_i ha
        simp [ha]
      · simp only [List.any_cons, ih]
        exact Bool.or_left_comm ..

theorem kvHas_foldl_kvPut {α : Type} (ps l : List (Nat × α)) (j : Nat) :
    kvHas (ps.foldl (fun l p => kvPut l p.1 p.2) l) j = (kvHas l j || kvHas ps j) := by
  induction ps generalizing l with
  | nil => simp [kvHas]
  | cons p ps ih =>
    rw [List.foldl_cons, ih, kvHas_kvPut]
    simp only [kvHas, List.any_cons]
    cases p.1 == j <;> simp

/-- A list made of a list of keys reads, at one of them, as it was made. -/
theorem kvGet_map_append {α : Type} (d f : Nat → α) (l : List Nat) (rest : List (Nat × α)) {k : Nat} (hk : k ∈ l) :
    kvGet d (l.map (fun i => (i, f i)) ++ rest) k = f k := by
  induction l with
  | nil => cases hk
  | cons a l ih =>
    by_cases ha : a = k
    · simp [kvGet, ha]
    · have hin : k ∈ l := (List.mem_cons.mp hk).resolve_left (Ne.symm ha)
      simp only [List.map_cons, List.cons_append, kvGet, if_neg ha]
      exact ih hin

end Sys2Proof.Machine
end

section
/-! SUPPORT. What the record of a run holds of steps that gave nothing (R403), and what the end of a step leaves to it. -/

namespace Sys2Proof.Machine

/-- The record in force, or an empty one (R412). -/
def baseRec (s : State) : Rec := ((newestOf s 2).map fun p => p.2).getD {}

/-- R403: a section that no step of the run gave stands in its record as in the record in force. -/
theorem calRec_section_of_left_out (s : State) {k : Nat} (hk : k < 17) (hout : kvHas s.cal.trial k = false) :
    kvGet (fun _ => []) (calRec s).sections k = kvGet (fun _ => []) (baseRec s).sections k := by
  have hmade := kvGet_map_append (fun _ => []) (fun k => if kvHas s.cal.trial k then kvGet (fun _ => []) s.cal.trial k
    else kvGet (fun _ => []) (baseRec s).sections k) (List.range 17) [] (List.mem_range.mpr hk)
  rw [List.append_nil, if_neg (by simp [hout])] at hmade
  exact hmade

/-- R403: a figure that no step of the run gave stands in its record as in the record in force. -/
theorem calRec_figure_of_left_out (s : State) {i : Nat} (hi : i < 8) (hout : kvHas s.cal.figs i = false) :
    kvGet (fun _ => 0) (calRec s).nums i = kvGet (fun _ => 0) (baseRec s).nums i := by
  unfold calRec
  extract_lets base old did fig fails timing rates
  have hfig : fig i = kvGet (fun _ => 0) (baseRec s).nums i := if_neg (by rw [Bool.not_eq_true]; exact hout)
  rw [List.append_assoc]
  exact (kvGet_map_append _ fig (List.range 8) _ (List.mem_range.mpr hi)).trans hfig

end Sys2Proof.Machine
end

section
/-! SUPPORT. The end of the last step of a run (R402 to R406), up to the write of its record. -/

namespace Sys2Proof.Machine

/-- The figures that the step in progress gives with measurement `m` (R406). -/
def figuresOf (s : State) (m : CalMeasure) : List (Nat × Nat) := if s.rd CAL_STAT_STEP = 1 then laneFigures s else stepFigs s m

/-- Whether each of those figures breaks its limit, under the figure's number and 8 (R406). -/
def figureMarks (s : State) (m : CalMeasure) : List (Nat × Nat) :=
  (figuresOf s m).map fun p => (8 + p.1, if figFails s p.1 p.2 then 1 else 0)

/-- The state that has noted what the step in progress measured and gave. -/
def stepNoted (s : State) (m : CalMeasure) : State :=
  let put (l ps : List (Nat × Nat)) := ps.foldl (fun l p => kvPut l p.1 p.2) l
  let e := stepElems s (s.rd CAL_STAT_STEP)
  { e.1 with cal := { s.cal with figs := put s.cal.figs (figuresOf s m ++ figureMarks s m), meas := put s.cal.meas (refRead m),
                                 trial := kvPut (kvPut s.cal.trial (s.rd CAL_STAT_STEP) (stepTrims s m)) (10 + s.rd CAL_STAT_STEP) e.2 } }

/-- The state at the end of the step in progress, before the next one begins. -/
def stepEnded (s : State) (m : CalMeasure) : State :=
  let t := stepTime (stepNoted s m) m
  if s.rd CAL_STAT_STEP = 6 then forEach (List.range 4) t fun t a => (choppersIdle t a).wr AXS_STAT_REF 0 a else t

/-- A step that ends with its own measurement, and references that stand, gives way to the next one; after CHOPPER the coils wake. -/
theorem calStep_of_taken {s : State} {m : CalMeasure} (hrun : s.rd CAL_STAT_STATE = 1) (hready : calReady s = true)
    (hstep : measureStep m = s.rd CAL_STAT_STEP) (href : refOk s (refRead m) = true) :
    calStep s m = if s.rd CAL_STAT_STEP = 6 then forEach (List.range 4) (calNext (stepEnded s m)) wakeCoils else calNext (stepEnded s m) := by
  have htaken : (s.rd CAL_STAT_STATE != 1 || !calReady s || measureStep m != s.rd CAL_STAT_STEP) = false := by simp [hrun, hready, hstep]
  unfold calStep
  extract_lets k
  rw [if_neg (by rw [htaken]; exact Bool.false_ne_true), if_neg (by rw [href]; exact Bool.false_ne_true)]
  rfl

/-- Of the trials a step notes its trims and its elements alone. -/
theorem kvHas_trial_stepNoted (s : State) (m : CalMeasure) (k : Nat) :
    kvHas (stepNoted s m).cal.trial k = (10 + s.rd CAL_STAT_STEP == k || (s.rd CAL_STAT_STEP == k || kvHas s.cal.trial k)) := by
  simp only [stepNoted, kvHas_kvPut]

theorem kvHas_figureMarks (s : State) (m : CalMeasure) {i : Nat} (hi : i < 8) : kvHas (figureMarks s m) i = false := by
  simp only [kvHas, figureMarks, List.any_map, List.any_eq_false, Function.comp, beq_iff_eq]
  omega

/-- Of the figures 0 to 7 a step notes those alone that it gives. -/
theorem kvHas_figs_stepNoted (s : State) (m : CalMeasure) {i : Nat} (hi : i < 8) :
    kvHas (stepNoted s m).cal.figs i = (kvHas s.cal.figs i || kvHas (figuresOf s m) i) := by
  have hgiven : kvHas (figuresOf s m ++ figureMarks s m) i = kvHas (figuresOf s m) i := by
    have hmarks := kvHas_figureMarks s m hi
    simp only [kvHas] at hmarks
    simp only [kvHas, List.any_append, hmarks, Bool.or_false]
  simp only [stepNoted, kvHas_foldl_kvPut, hgiven]

theorem sparesRun_stepEnded (s : State) (m : CalMeasure) : SparesRun (stepNoted s m) (stepEnded s m) :=
  (sparesRun_stepTime (stepNoted s m) m).trans (.ite
    (.forEach (fun t a ha => (sparesRun_choppersIdle t a).trans (.wr _ 0 (Nat.lt_trans (List.mem_range.mp ha) (by decide)))) _) (.refl _))

section
variable {s t : State} (h : SparesRun s t)
include h

theorem SparesRun.left : t.cal.left = s.cal.left := by obtain ⟨_, _, hcal⟩ := h.cal; rw [hcal]

theorem SparesRun.trial : t.cal.trial = s.cal.trial := by obtain ⟨_, _, hcal⟩ := h.cal; rw [hcal]

theorem SparesRun.figs : t.cal.figs = s.cal.figs := by obtain ⟨_, _, hcal⟩ := h.cal; rw [hcal]

theorem SparesRun.writing : t.cal.writing = s.cal.writing := by obtain ⟨_, _, hcal⟩ := h.cal; rw [hcal]

theorem SparesRun.draft : t.cal.draft = s.cal.draft := by obtain ⟨_, _, hcal⟩ := h.cal; rw [hcal]

/-- What spares a run leaves the record in force. -/
theorem SparesRun.newestOf : newestOf t 2 = newestOf s 2 := by
  obtain ⟨_, _, hcal⟩ := h.cal
  rw [Machine.newestOf, hcal]
  rfl

end

/-! ### The write of a record -/

/-- The state in which record `r` of a kind is being written into slot `slot` (R411). -/
def recBeingWritten (s : State) (kind slot : Nat) (r : Rec) : State :=
  { recWrite s kind slot r with cal := { setSlot s.cal kind slot r with writing := kind, target := slot, retry := false, draft := r } }

theorem recBeingWritten_writing (s : State) (kind slot : Nat) (r : Rec) : (recBeingWritten s kind slot r).cal.writing = kind := rfl

theorem recBeingWritten_draft (s : State) (kind slot : Nat) (r : Rec) : (recBeingWritten s kind slot r).cal.draft = r := rfl

theorem saveSync_cal (s : State) : (saveSync s).cal = s.cal := State.wr_cal s LGB_STAT_SAVE_BUSY _ 0 0

/-- What is written is the record asked for, under a header of its own. -/
theorem beginWrite_eq (s : State) (kind : Nat) (r : Rec) :
    ∃ slot gen, beginWrite s kind r = saveSync (recBeingWritten s kind slot (sealRec s kind gen r)) := ⟨_, _, rfl⟩

theorem sealRec_sections (s : State) (kind gen : Nat) (r : Rec) : (sealRec s kind gen r).sections = r.sections := rfl

theorem sealRec_nums (s : State) (kind gen : Nat) (r : Rec) : (sealRec s kind gen r).nums = r.nums := rfl

/-- After the last step of a run, with no record being written, the record of the run is. -/
theorem calNext_writes {s : State} (hleft : s.cal.left = []) (hfree : s.cal.writing = 0) :
    calNext s = beginWrite (commitBegun s) 2 (calRec (runDescribed s)) := by
  have hstarted : ∀ u : State, (commitStarted u).cal.writing = u.cal.writing := fun _ => rfl
  have hdescribed : (runDescribed s).cal.writing = 0 := hfree
  have hbegun : (commitBegun s).cal.writing = 0 := by rw [commitBegun, hstarted, (sparesRun_commitShown _ _).writing, hdescribed]
  rw [calNext_of_last hleft, if_pos hbegun]

end Sys2Proof.Machine
end

section
/-! PROOF. A step left out of a run keeps the sections and figures of the record in force (R403). -/

namespace Sys2Proof.Machine

theorem measureStep_range (m : CalMeasure) : 1 ≤ measureStep m ∧ measureStep m ≤ 6 := by
  cases m <;> simp [measureStep]

/-- The descriptor stands in section 0 alone (R410). -/
theorem kvHas_trial_runDescribed (s : State) {k : Nat} (hk : 1 ≤ k) : kvHas (runDescribed s).cal.trial k = kvHas s.cal.trial k := by
  have hother : (0 == k) = false := by rw [beq_eq_false_iff_ne]; omega
  simp only [runDescribed, kvHas_kvPut, hother, Bool.false_or]

section
variable {s : State} (m : CalMeasure) {x : Nat × Rec} (hnewest : newestOf s 2 = some x)
include hnewest

/-- The record in force stands to the end of the last step. -/
theorem baseRec_of_stepEnded : baseRec (runDescribed (stepEnded s m)) = x.2 := by
  have hended : newestOf (runDescribed (stepEnded s m)) 2 = newestOf s 2 := (sparesRun_stepEnded s m).newestOf
  rw [baseRec, hended, hnewest]
  rfl

/-- The sections of the record in force that neither the last step nor one before it gave stand in the record of the run. -/
theorem calRec_section_of_stepEnded {k : Nat} (hlo : 1 ≤ k) (hhi : k < 17) (hown : s.rd CAL_STAT_STEP ≠ k)
    (helems : 10 + s.rd CAL_STAT_STEP ≠ k) (hout : kvHas s.cal.trial k = false) :
    kvGet (fun _ => []) (calRec (runDescribed (stepEnded s m))).sections k = kvGet (fun _ => []) x.2.sections k := by
  have hleftOut : kvHas (runDescribed (stepEnded s m)).cal.trial k = false := by
    rw [kvHas_trial_runDescribed _ hlo, (sparesRun_stepEnded s m).trial, kvHas_trial_stepNoted, hout]
    simp [hown, helems]
  rw [calRec_section_of_left_out _ hhi hleftOut, baseRec_of_stepEnded m hnewest]

/-- The figures of the record in force that neither the last step nor one before it gave stand in the record of the run. -/
theorem calRec_figure_of_stepEnded {i : Nat} (hi : i < 8) (hgiven : kvHas (figuresOf s m) i = false) (hout : kvHas s.cal.figs i = false) :
    kvGet (fun _ => 0) (calRec (runDescribed (stepEnded s m))).nums i = kvGet (fun _ => 0) x.2.nums i := by
  have hfigs : (runDescribed (stepEnded s m)).cal.figs = (stepNoted s m).cal.figs := (sparesRun_stepEnded s m).figs
  have hleftOut : kvHas (runDescribed (stepEnded s m)).cal.figs i = false := by
    rw [hfigs, kvHas_figs_stepNoted s m hi, hout, hgiven, Bool.or_false]
  rw [calRec_figure_of_left_out _ hi hleftOut, baseRec_of_stepEnded m hnewest]

end

/-- The end of the last step begins the write of the record of the run, and nothing that follows in the command touches it. -/
theorem calStep_writes {s : State} {m : CalMeasure} (hrun : s.rd CAL_STAT_STATE = 1) (hready : calReady s = true)
    (hstep : measureStep m = s.rd CAL_STAT_STEP) (href : refOk s (refRead m) = true) (hleft : s.cal.left = []) (hfree : s.cal.writing = 0) :
    (calStep s m).cal.writing = 2 ∧ (calStep s m).cal.draft.sections = (calRec (runDescribed (stepEnded s m))).sections ∧
      (calStep s m).cal.draft.nums = (calRec (runDescribed (stepEnded s m))).nums := by
  have hwoken : SparesRun (calNext (stepEnded s m)) (calStep s m) := by
    rw [calStep_of_taken hrun hready hstep href]
    exact .ite (.forEach (fun t a _ => sparesRun_wakeCoils t a) _) (.refl _)
  have hleft' : (stepEnded s m).cal.left = [] := (sparesRun_stepEnded s m).left.trans hleft
  have hfree' : (stepEnded s m).cal.writing = 0 := (sparesRun_stepEnded s m).writing.trans hfree
  obtain ⟨slot, gen, hwrite⟩ := beginWrite_eq (commitBegun (stepEnded s m)) 2 (calRec (runDescribed (stepEnded s m)))
  rw [hwoken.writing, hwoken.draft, calNext_writes hleft' hfree', hwrite, saveSync_cal, recBeingWritten_writing, recBeingWritten_draft,
    sealRec_sections, sealRec_nums]
  exact ⟨rfl, rfl, rfl⟩

end Sys2Proof.Machine

namespace Sys2Proof.Safety

open Sys2Proof.Machine

theorem exec_calStepDone {m : CalMeasure} (hwf : m.wf = true) (s : State) : exec (.calStepDone m) s = done (calStep s m) := if_pos hwf

/-- Settles O52: the record of the run is drawn up from the trials and figures that the steps noted, and from the record in force where
none of them noted any. -/
theorem stepsLeftOutKeepTheirRecord : Obligations.StepsLeftOutKeepTheirRecord := by
  intro m k i x s hwf hrun hready hstep href hleft hfree hnewest hlo hhi hown hout hi hgiven hfigs
  obtain ⟨hwriting, hsections, hnums⟩ := calStep_writes hrun hready hstep href hleft hfree
  obtain ⟨hfirst, hlast⟩ := hstep ▸ measureStep_range m
  rw [exec_calStepDone hwf, answers_done, finish_cal, hsections, hnums]
  refine ⟨hwriting, ?_, fun helems => ?_, ?_⟩
  · exact calRec_section_of_stepEnded m hnewest hlo (by omega) hown.symm (by omega) hout
  · exact calRec_section_of_stepEnded m hnewest (by omega) (by omega) (by omega) (by omega) helems
  · exact calRec_figure_of_stepEnded m hnewest hi hgiven hfigs

end Sys2Proof.Safety
end
